-- ==== Sys2Proof/Word.lean ====
section
/-! DEFINITION. The byte of every serial line of the part, and the type of its record tables: sorted
association lists, one record for each index that holds one (section 12 and R1, R5, R21, R73, R101). -/

namespace Sys2Proof

/-- The 8 data bits of one character of the station link, the desk bus, a door port or the scan link
(R167, R185). -/
abbrev Byte := BitVec 8

/-- A table of records by index, the indices strictly rising: an index that is not listed holds no
record (an undefined zone, an unused slot, an undefined paper). -/
abbrev Table (α : Type) := List (Nat × α)

end Sys2Proof
end

