-- ==== Sys2Proof/Config.lean ====
section
/-! DEFINITION. The capacities and ranges of the part (00_scope.md, "Capacities and ranges") and the
one value its manual leaves open. -/

namespace Sys2Proof.Config

/-- Largest candidate number (R21). -/
def maxNumber : Nat := 99999999
/-- Roster slots, indices 0 to 575 (R21). -/
def slotCount : Nat := 576
/-- Seats of the hall (R5). -/
def seatLimit : Nat := 512
/-- Row records of the row map (R4). -/
def rowLimit : Nat := 64
/-- Rows of one zone (R1). -/
def zoneRowLimit : Nat := 16
/-- Zone indices 0 to 7 (R1). -/
def zoneCount : Nat := 8
/-- Paper indices 0 to 15 (R73). -/
def paperCount : Nat := 16
/-- Form indices 0 to 3 (R138). -/
def formCount : Nat := 4
/-- Collector indices 0 to 7 (R121). -/
def collectorCount : Nat := 8
/-- Entries of the wait list (R51). -/
def waitLimit : Nat := 32
/-- Entries of the call list (R112). -/
def callLimit : Nat := 64
/-- Notices of the notice queue (R172). -/
def noticeLimit : Nat := 64
/-- Fault notices of the held list (R178). -/
def heldLimit : Nat := 8
/-- Replies at which the station link stops receiving (R168). -/
def replyLimit : Nat := 8
/-- Body characters in one station record (R183). -/
def bodyLimit : Nat := 240
/-- Entries of the exception list (R148). -/
def exceptionLimit : Nat := 32
/-- Largest desk address (R101). -/
def maxDesk : Nat := 511
/-- Seconds of a day (R63). -/
def daySeconds : Nat := 86400
/-- Smallest and largest trim D, and its value after full reset, in sixteenths of a tick (R61, R72). -/
def minTrim : Nat := 522240
def maxTrim : Nat := 526336
def nominalTrim : Nat := 524288
/-- Ticks of the loss window that end a calibration (R70). -/
def lossTicks : Nat := 49152
/-- Largest remaining time of a clock (R81). -/
def maxRemaining : Nat := 43200
/-- Largest writing elapsed and hold length (R73, R90). -/
def maxElapsed : Nat := 65535

/-- FREE VALUE (log entry 5): a mark or flag is sent as 0 or 1 (section 12.3), and the manual states no
value for a flag byte of 2 to 255 in the requests whose rules judge no flag. Nothing is known of it. -/
opaque otherFlag : Nat → Bool

end Sys2Proof.Config
end

