-- ==== Sys2Proof/Syntax.lean ====
section
/-! DEFINITION. The commands of the part: one constructor for each row of spec/opcode_table.json.
A numeric operand is the number its field carries, in or out of its owning rule's range; an optional
field is an Option; a named value is its position in the list its rule gives (section 12.3). -/

namespace Sys2Proof

/-- The fields of DEFINE PAPER after the paper index, in the order of R73 (the warning list is not
carried, R74). -/
structure PaperFields where
  code         : List Nat
  form         : Nat
  versions     : Nat
  reading      : Nat
  duration     : Nat
  late         : Nat
  blackFirst   : Nat
  blackLast    : Nat
  breakDefault : Nat
  bookletDefault : Nat
  walk         : Option Nat
  zoneOrder    : List Nat
  scheduled    : Option Nat
  penalty      : Nat
  multipleWrong : Bool
  sections     : List Nat
  deriving DecidableEq, Repr

/-- The sitting fields REPAIR SEAT carries (R180). -/
structure SeatFields where
  cls       : Nat
  desk      : Option Nat
  state     : Nat
  occupant  : Option Nat
  lastPaper : Option Nat
  used      : Nat
  override  : Nat
  deriving DecidableEq, Repr

/-- The record and clock fields REPAIR CANDIDATE carries with USED (R181): the fields of R21 other than
slot, admission source and suspect mark, then those of R81. -/
structure CandidateFields where
  number      : Nat
  paper       : Nat
  cls         : Nat
  allowance   : Nat
  breakBudget : Nat
  preplaced   : Option Nat
  state       : Nat
  seat        : Option Nat
  lastSeat    : Option Nat
  admTime     : Option Nat
  walk        : Option Nat
  reason      : Option Nat
  issued      : Nat
  returned    : Option Nat
  discrepancy : Nat
  clockState  : Nat
  remaining   : Nat
  extended    : Option Nat
  before      : Option Nat
  budget      : Nat
  warnIndex   : Nat
  deriving DecidableEq, Repr

/-- A record of table memory (R177): a seat by its number, a candidate with its clock by its slot, a
result by its slot. -/
inductive RecordRef where
  | seat (n : Nat)
  | candidate (slot : Nat)
  | result (slot : Nat)
  deriving DecidableEq, Repr

/-- What goes wrong with one word of a record of table memory (R177): one wrong bit, or (`double`) two
or more. The spec does not say how many words a record has; they are told apart by their number (log
entry 13). -/
structure Upset where
  record : RecordRef
  word   : Nat
  double : Bool
  deriving DecidableEq, Repr

/-- The commands of the part. -/
inductive Instr where
  /-- FULL_RESET (R175): reset pin or power-up, with the levels of the RATE1 and RATE0 straps. -/
  | fullReset (rate1 rate0 : Bool)
  /-- LINK_RESET (R174). -/
  | linkReset
  /-- RECORD_GAP (R167). -/
  | recordGap
  /-- FRAMING_FAULT (R167). -/
  | framingFault
  /-- BAD_RECORD (R168): a complete station record, by its characters from the kind to the check. -/
  | badRecord (chars : List Byte)
  /-- WAITING_REQUEST_TAKEN (R169). -/
  | waitingRequestTaken
  /-- RECORD_SENT (R173). -/
  | recordSent
  /-- DEFINE_ZONE (R2). -/
  | defineZone (zone spacing standard arranged : Nat)
  /-- OPEN_ZONE (R3). -/
  | openZone (zone : Nat)
  /-- CLOSE_ZONE (R3). -/
  | closeZone (zone : Nat)
  /-- SET_ADMISSION (R3). -/
  | setAdmission (zone cls code : Nat)
  /-- DEFINE_ROW (R4). -/
  | defineRow (zone count : Nat)
  /-- SET_SEAT (R16). -/
  | setSeat (seat cls : Nat) (desk : Option Nat) (availability : Nat)
  /-- CLEAR_SEAT (R17). -/
  | clearSeat (seat : Nat)
  /-- RESET_MAP (R18). -/
  | resetMap
  /-- QUERY_SEAT (R20). -/
  | querySeat (seat : Nat)
  /-- QUERY_ZONE (R20). -/
  | queryZone (zone : Nat)
  /-- LOAD_CANDIDATES (R170): the record's length L, the header's entry count, and whether the header's
  own check holds. -/
  | loadCandidates (length entries : Nat) (checkOk : Bool)
  /-- LOAD_CANDIDATES_ENTRY (R26): one entry (R25) and whether its own check holds. -/
  | loadCandidatesEntry (slot number paper cls allowance : Nat) (breakMinutes booklets preplaced : Option Nat) (checkOk : Bool)
  /-- SET_ALLOWANCE (R27). -/
  | setAllowance (number allowance : Nat)
  /-- ADMIT (R29). -/
  | admitCandidate (number : Nat)
  /-- PLACE (R55). -/
  | place (number : Nat) (seat : Option Nat) (flag : Nat)
  /-- WITHDRAW (R37). -/
  | withdraw (number : Nat)
  /-- QUERY_CANDIDATE (R39). -/
  | queryCandidate (number : Nat)
  /-- SET_BOOKLETS (R120). -/
  | setBooklets (number count : Nat)
  /-- DEFINE_PAPER (R74). -/
  | definePaper (paper : Nat) (fields : PaperFields)
  /-- SET_ZONE_ORDER (R75). -/
  | setZoneOrder (paper : Nat) (order : List Nat)
  /-- SET_WARNINGS (R75). -/
  | setWarnings (paper : Nat) (thresholds : List Nat)
  /-- OPEN_PAPER (R77). -/
  | openPaper (paper : Nat)
  /-- START_PAPER (R77). -/
  | startPaper (paper : Nat)
  /-- END_PAPER (R88). -/
  | endPaper (paper : Nat)
  /-- HOLD (R90). -/
  | hold
  /-- RELEASE (R91). -/
  | release
  /-- SET_CONTACT_SENSE (R89). -/
  | setContactSense (sense : Nat)
  /-- BREAK_GRANT (R93). -/
  | breakGrant (number : Nat)
  /-- FINISH_CANDIDATE (R95). -/
  | finishCandidate (number : Nat)
  /-- GRANT_TIME (R97). -/
  | grantTime (number minutes : Nat)
  /-- SET_TIME (R64). -/
  | setTime (time : Nat)
  /-- CALIBRATE (R66). -/
  | calibrate (length : Nat)
  /-- SET_TRIM (R65). -/
  | setTrim (trim : Nat)
  /-- CLEAR_SITTING (R99). -/
  | clearSitting
  /-- QUERY_PAPER (R100). -/
  | queryPaper (paper : Nat)
  /-- SET_BUTTON_SENSE (R108). -/
  | setButtonSense (button sense : Nat)
  /-- ANSWER_CALL (R113). -/
  | answerCall (seat : Nat)
  /-- SET_LAMP (R116). -/
  | setLamp (seat colour cadence duration : Nat)
  /-- QUERY_CALLS (R113). -/
  | queryCalls
  /-- COLLECTOR_ON (R122). -/
  | collectorOn (collector : Nat) (zones : List Nat) (size timeout : Option Nat)
  /-- COLLECTOR_OFF (R131). -/
  | collectorOff (collector : Nat)
  /-- TAKE_ROUND (R123). -/
  | takeRound (collector zone : Nat)
  /-- CONFIRM (R127): the record's length L, the collector and entry count of its header, and whether
  the header's own check holds. -/
  | confirm (length collector entries : Nat) (checkOk : Bool)
  /-- CONFIRM_ENTRY (R127): one entry and whether its own check holds. -/
  | confirmEntry (seat returned : Nat) (checkOk : Bool)
  /-- DEFER (R130). -/
  | defer (collector seat : Nat)
  /-- COLLECT_DIRECT (R133). -/
  | collectDirect (slot returned : Nat)
  /-- QUERY_RECONCILE (R135). -/
  | queryReconcile (paper : Nat)
  /-- QUERY_QUEUE (R137). -/
  | queryQueue (zone : Nat)
  /-- DEFINE_FORM (R138). -/
  | defineForm (form questions : Nat)
  /-- LOAD_KEY (R158): the record's length L, the header's fields, and whether its own check holds. -/
  | loadKey (length paper version questions mode : Nat) (checkOk : Bool)
  /-- LOAD_KEY_ENTRY (R158): first question, run length, the pairs of set and weight that followed, and
  whether the entry's own check holds. -/
  | loadKeyEntry (first run : Nat) (pairs : List (Nat × Nat)) (checkOk : Bool)
  /-- BATCH_RECORD_END (R170): the record's check character arrives; whether the record's sum is 0. -/
  | batchRecordEnd (sumOk : Bool)
  /-- SET_MARKING (R155). -/
  | setMarking (mark separation light : Nat)
  /-- ASSIGN_SHEET (R164). -/
  | assignSheet (entry number version : Nat)
  /-- DISCARD_SHEET (R165). -/
  | discardSheet (entry : Nat)
  /-- READ_EXCEPTION (R165). -/
  | readException (entry : Nat)
  /-- READ_RESULT (R165). -/
  | readResult (number : Nat)
  /-- SET_REPORTING (R178). -/
  | setReporting (level : Nat)
  /-- READ_FAULT (R179). -/
  | readFault
  /-- REPAIR_SEAT (R180). -/
  | repairSeat (seat : Nat) (fields : SeatFields)
  /-- REPAIR_CANDIDATE (R181): with USED the fields, with UNUSED none. -/
  | repairCandidate (slot use : Nat) (fields : Option CandidateFields)
  /-- STATUS (R176). -/
  | status
  /-- CARD_RECORD (R28): the door and the five bytes of its card record (R185). -/
  | cardRecord (door : Nat) (n3 n2 n1 n0 check : Byte)
  /-- ARBITER_CHOICE (R42). -/
  | arbiterChoice
  /-- SEARCH_SEAT (R47). -/
  | searchSeat
  /-- ALLOCATION_OUTCOME (R48). -/
  | allocationOutcome
  /-- HALL_SECOND (R62). -/
  | hallSecond
  /-- REFERENCE_PULSE (R68). -/
  | referencePulse
  /-- CALIBRATION_LOST (R70). -/
  | calibrationLost
  /-- CONTACT_GOES_ACTIVE (R90): a hold contact sample that finds the active level. -/
  | contactGoesActive
  /-- CONTACT_CLEAR (R89): a hold contact sample that finds the inactive level. -/
  | contactClear
  /-- CONTACT_LEVEL (R89): a hold contact sample, with the level of the input pin. -/
  | contactLevel (high : Bool)
  /-- CLOCK_EXPIRY (R84). -/
  | clockExpiry
  /-- BREAK_OVERRUN (R94), of the clock of a slot. -/
  | breakOverrun (slot : Nat)
  /-- NOT_SEATED (R33), of the candidate of a slot. -/
  | notSeated (slot : Nat)
  /-- READING_END (R85). -/
  | readingEnd (paper : Nat)
  /-- ADMISSION_CLOSES (R36). -/
  | admissionCloses (paper : Nat)
  /-- WRITING_END (R87). -/
  | writingEnd (paper : Nat)
  /-- SCHEDULED_START (R78). -/
  | scheduledStart (paper : Nat)
  /-- CLOCK_WARNING (R86), of the clock of a slot. -/
  | clockWarning (slot : Nat)
  /-- WARNING (R86). -/
  | warning (paper : Nat)
  /-- PULSE_END (R98). -/
  | pulseEnd
  /-- DESK_POLL (R102). -/
  | deskPoll
  /-- DESK_REPLY (R104): the five bytes of a desk reply (R185). -/
  | deskReply (addrHigh addrLow buttons sequence check : Byte)
  /-- REPLY_TIMEOUT (R103). -/
  | replyTimeout
  /-- FINISH_WINDOW_EXPIRY (R110), at a desk address. -/
  | finishWindowExpiry (desk : Nat)
  /-- LAMP_ITEM_EXPIRY (R115), at a desk address. -/
  | lampItemExpiry (desk : Nat)
  /-- ROUND_TIMEOUT (R125). -/
  | roundTimeout (collector : Nat)
  /-- FRAME_OPEN (R143). -/
  | frameOpen (form serial : Nat)
  /-- ROW (R144). -/
  | row (index : Nat) (values : List Byte)
  /-- FRAME_CLOSE (R145). -/
  | frameClose (total : Nat)
  /-- SCAN_RECORD_BROKEN (R142): a parity error in a record of this kind (0 FRAME OPEN, 1 ROW, 2 FRAME
  CLOSE) and, for a ROW, row index; whether the record's end is known. -/
  | scanRecordBroken (kind index : Nat) (endKnown : Bool)
  /-- SCAN_GAP (R142): more than 655 ticks with no scan character, in the middle of a record or not. -/
  | scanGap (midRecord : Bool)
  /-- MARKER_TAKES_WORK (R152), with the stage the operation reaches before the next step (0 none, 1
  the identity decode of R156, 2 the key snapshot of R160). -/
  | markerTakesWork (reach : Nat)
  /-- SHEET_OPERATION_END (R153). -/
  | sheetOperationEnd
  /-- RETRY_END (R163). -/
  | retryEnd
  /-- RESCORE_STEP_END (R162). -/
  | rescoreStepEnd
  /-- CRYSTAL_TICK (R60), with what went wrong in table memory since the tick before (R177). -/
  | crystalTick (upsets : List Upset)
  /-- RECORD_BROKEN_BY_LEAD (R167): a character with the lead flag set, carrying a record kind. -/
  | recordBrokenByLead (kind : Nat)
  deriving DecidableEq, Repr

end Sys2Proof
end

