-- ==== Sys2Proof/Machine/State.lean ====
section
/-! DEFINITION. The state of the part as plain data, block by block (00_scope.md, "Blocks"), the reasons
a step can stop, and the state after full reset. Named values stand in the order of the list their rule
gives, so that a code of section 12.3 is a position in it. -/

namespace Sys2Proof.Machine

/-! ### Station link records (chapter 10, section 12) -/

/-- One field of a record: its bytes and its value, or absence (section 12.3, R184). -/
structure Field where
  width : Nat
  value : Option Nat
  deriving DecidableEq, Repr

/-- Outcomes of a reply, in code order (R171, section 12.2). -/
inductive Result where
  | done | clamped | refused | broken
  deriving DecidableEq, Repr

/-- Reasons of a reply, in code order (R171, section 12.2). -/
inductive Reason where
  | none | notFound | badValue | wrongState | full | conflict | duplicate | hallHeld | contactActive
  | tooLate | blackout | budget | notInRound | roundExpired | wrongForm | suspect | busy
  | checkError | badRecord | overrun
  deriving DecidableEq, Repr

/-- What an owner answers to a request or to a batch entry (R171). -/
structure Answer where
  result : Result
  reason : Reason
  fields : List Field
  deriving DecidableEq, Repr

/-- A reply record (section 12.4). `carriesLost`: a STATUS reply that carries the lost-notice flag set
(R172, R174). -/
structure Reply where
  kind        : Nat
  answer      : Answer
  carriesLost : Bool
  deriving DecidableEq, Repr

/-- Notice kinds (section 12.2). -/
inductive NoticeKind where
  | started | linkRestarted
  | doorAnswer | notSeated | absent | unexpectedPresent | preplaceMissed | placed
  | calibrated | calibrationLost
  | paperState | expired | breakOverrun | unseatedFinish | warning | ended | contactClear | contactLevel
  | held | released | breakEnded | finishRefused | finished
  | deskOffline | deskOnline | deskRestarted | unexpectedPress | call | callListFull
  | roundOffered | roundExpired | discrepancy | paperCollected
  | sheetRejected | sheetHeld | sheetMarked | sheetException | exceptionResolved | resultDropped
  | rescored | fault
  deriving DecidableEq, Repr

/-- A notice record of the queue: its kind, the time of day at which it joined and its owner's
fields (R172). -/
structure Notice where
  kind   : NoticeKind
  time   : Nat
  fields : List Field
  deriving DecidableEq, Repr

/-- The pending start record (R173), a notice (R183) with the time of day at which it became pending (log
entry 48): STARTED with the rate read, or LINK RESTARTED with the kind of the request whose reply will be
discarded and the number of notices queued (R174, R175). -/
inductive StartRecord where
  | started (rate time : Nat)
  | linkRestarted (kind : Option Nat) (notices time : Nat)
  deriving DecidableEq, Repr

/-- The output record in progress (R173); a start record or notice with the lost-notice flag it carries
(R172). -/
inductive Sending where
  | start (r : StartRecord) (lost : Bool)
  | reply (r : Reply)
  | notice (n : Notice) (lost : Bool)
  deriving DecidableEq, Repr

/-- The header of a batch record (R170, section 12.5). -/
inductive BatchHeader where
  | loadCandidates
  | confirm (collector : Nat)
  | loadKey (paper version questions mode : Nat)
  deriving DecidableEq, Repr

/-- One entry of a batch record (section 12.5). -/
inductive BatchEntry where
  | candidate (slot number paper cls allowance : Nat) (breakMinutes booklets preplaced : Option Nat)
  | confirm (seat returned : Nat)
  | key (first run : Nat) (pairs : List (Nat × Nat))
  deriving DecidableEq, Repr

/-- A batch record as it arrives or waits: its header and whether the header's own check holds, the entries
that completed and are not handed on yet, each with whether its own check held, the body bytes still to
come, and whether its length passed its test (R168, R170). -/
structure Batch where
  header   : BatchHeader
  headerOk : Bool
  entries  : List (BatchEntry × Bool)
  left     : Nat
  lengthOk : Bool
  deriving DecidableEq, Repr

/-- The batch being taken: what its owner answered to the header and to each entry handed on, whether a part's
own check failed, and whether an entry installed a key (R158, R170). -/
structure BatchTaken where
  header   : BatchHeader
  refusal  : Option Reason
  answers  : List Answer
  stopped  : Bool
  installed : Bool
  deriving DecidableEq, Repr

/-- The taken place (R169): empty, a deferred request with its kind and whether a link reset discards
its reply (R174), or a batch record. -/
inductive Taken where
  | deferred (kind : Nat) (discard : Bool)
  | batch (b : BatchTaken)
  deriving DecidableEq, Repr

/-- The waiting place (R169): a complete request or a complete batch record. -/
inductive Waiting where
  | request (i : Instr)
  | batch (b : Batch)
  deriving DecidableEq, Repr

/-- The receive state (R167): IDLE, or IN RECORD with the record in progress. `lossy`: characters of it
were discarded because the reply list held 8 (R168). -/
inductive Receive where
  | idle
  | inRecord (kind : Nat)
  | inBatch (b : Batch) (lossy : Bool)
  deriving DecidableEq, Repr

/-- Station Link Interface (chapter 10). -/
structure Sli where
  rate    : Nat
  receive : Receive
  taken   : Option Taken
  waiting : Option Waiting
  replies : List Reply
  sending : Option Sending
  notices : List Notice
  lost    : Bool
  start   : Option StartRecord
  deriving DecidableEq, Repr

/-! ### Hall Map Unit (chapter 1) -/

inductive ZoneState where
  | opened | closed
  deriving DecidableEq, Repr

inductive Spacing where
  | none | side | cross
  deriving DecidableEq, Repr

inductive AdmissionCode where
  | none | reserve | admits
  deriving DecidableEq, Repr

inductive CandidateClass where
  | standard | arranged
  deriving DecidableEq, Repr

inductive SeatClass where
  | standard | nearExit | wide | isolated
  deriving DecidableEq, Repr

inductive SeatState where
  | unavailable | free | held | occupied | vacated
  deriving DecidableEq, Repr

/-- A defined zone record (R1); its index is its table index, its row list is read from the row map. -/
structure Zone where
  state    : ZoneState
  spacing  : Spacing
  standard : AdmissionCode
  arranged : AdmissionCode
  deriving DecidableEq, Repr

/-- A row record (R4). -/
structure Row where
  zone   : Nat
  number : Nat
  count  : Nat
  first  : Nat
  deriving DecidableEq, Repr

/-- A seat record (R5), with its suspect mark. -/
structure Seat where
  zone      : Nat
  row       : Nat
  position  : Nat
  cls       : SeatClass
  desk      : Option Nat
  state     : SeatState
  occupant  : Option Nat
  lastPaper : Option Nat
  used      : Bool
  override  : Bool
  suspect   : Bool
  deriving DecidableEq, Repr

structure Hmu where
  zones : Table Zone
  rows  : List Row
  seats : Table Seat
  deriving DecidableEq, Repr

/-! ### Roster Unit (chapter 2) and candidate clocks (R81) -/

inductive CandidateState where
  | expected | waiting | admitted | seated | finished | collected | absent | withdrawn
  deriving DecidableEq, Repr

inductive Source where
  | door0 | door1 | station
  deriving DecidableEq, Repr

inductive FinishReason where
  | early | expired | ended | withdrawn | station
  deriving DecidableEq, Repr

/-- A candidate record (R21); the slot is its table index. -/
structure Candidate where
  number      : Nat
  paper       : Nat
  cls         : CandidateClass
  allowance   : Nat
  breakBudget : Nat
  preplaced   : Option Nat
  state       : CandidateState
  seat        : Option Nat
  lastSeat    : Option Nat
  source      : Option Source
  admTime     : Option Nat
  walk        : Option Nat
  reason      : Option FinishReason
  issued      : Nat
  returned    : Option Nat
  discrepancy : Bool
  deriving DecidableEq, Repr

inductive ClockState where
  | none | reading | running | paused | held | stopped | expired
  deriving DecidableEq, Repr

/-- A candidate clock (R81). -/
structure Clock where
  state     : ClockState
  remaining : Nat
  extended  : Option Nat
  before    : Option ClockState
  budget    : Nat
  warnIndex : Nat
  deriving DecidableEq, Repr

/-- The shadow of a candidate record (R177): the fields rules test on a suspect record, kept apart from
its words. -/
structure Shadow where
  number    : Option Nat
  paper     : Option Nat
  clockNone : Bool
  deriving DecidableEq, Repr

/-- A used roster slot: its candidate record, its clock, its shadow and its suspect mark (R21, R81,
R177). An unused slot is not listed and its clock is NONE. -/
structure Slot where
  cand    : Candidate
  clock   : Clock
  shadow  : Shadow
  suspect : Bool
  deriving DecidableEq, Repr

/-- A door answer's reason, in code order (R185). -/
inductive DoorReason where
  | none | unknown | suspect | wrongState | hallHeld | notOpen | closed | listFull
  deriving DecidableEq, Repr

/-- A door port's answer (R28). -/
inductive DoorAnswer where
  | seat (label : List Nat)
  | wait
  | refused (r : DoorReason)
  | busy
  | readAgain
  deriving DecidableEq, Repr

/-- A door reader port (R28): OUTSTANDING with the number of its card, or IDLE. `out`: the answer record
it gave last (MODEL's own output field). -/
structure Port where
  card : Option Nat
  out  : Option DoorAnswer
  deriving DecidableEq, Repr

structure Rsu where
  slots : Table Slot
  door0 : Port
  door1 : Port
  deriving DecidableEq, Repr

/-! ### Seat Allocator (chapter 3) -/

inductive Retry where
  | idle | pending | walking
  deriving DecidableEq, Repr

inductive Requester where
  | door0 | door1 | station | retry
  deriving DecidableEq, Repr

/-- The station's request at the arbiter (R41). -/
inductive StationRequest where
  | allocation (slot : Nat)
  | place (number : Nat) (seat : Option Nat) (flag : Nat)
  deriving DecidableEq, Repr

/-- Where a search stands (R46, R47): the zones left with the one being searched first, whether that
zone has been entered, the pass, the place that the cursor was taken as and each pass starts at, the next place
to consider and whether the pass has wrapped. -/
structure Search where
  zones   : List Nat
  entered : Bool
  second  : Bool
  start   : Nat
  next    : Nat
  wrapped : Bool
  deriving DecidableEq, Repr

/-- The stage of the allocation being served (R43): searching; a seat whose hold is to be asked, found
by pre-placement or by the search at a place of its zone; or no seat found. -/
inductive Stage where
  | searching (search : Search)
  | preplaced (seat : Nat)
  | found (seat zone place : Nat) (search : Search)
  | noSeat
  deriving DecidableEq, Repr

/-- The allocation being served, with the values read at its start (R43). -/
structure Allocation where
  requester : Requester
  slot      : Nat
  paper     : Nat
  cls       : CandidateClass
  order     : List Nat
  stage     : Stage
  deriving DecidableEq, Repr

structure Sal where
  /-- Fill cursors, by paper index times 8 plus zone index; unlisted is 0 (R49). -/
  cursors    : Table Nat
  wait       : List Nat
  retry      : Retry
  again      : Bool
  /-- The candidates of the walk's span not tried yet (R53). -/
  span       : List Nat
  reqDoor0   : Option Nat
  reqDoor1   : Option Nat
  reqStation : Option StationRequest
  reqRetry   : Bool
  last       : Requester
  serving    : Option Allocation
  deriving DecidableEq, Repr

/-! ### Hall Time Base (chapter 4) -/

inductive CalState where
  | idle | armed | counting
  deriving DecidableEq, Repr

structure Htb where
  trim        : Nat
  pendingTrim : Option Nat
  phase       : Nat
  time        : Nat
  timeSet     : Bool
  cal         : CalState
  calLength   : Nat
  pulses      : Nat
  ticks       : Nat
  window      : Nat
  deriving DecidableEq, Repr

/-! ### Session Unit (chapter 5) -/

inductive PaperState where
  | defined | admitting | reading | writing | overtime | closed
  deriving DecidableEq, Repr

/-- A defined paper record (R73). -/
structure Paper where
  code         : List Nat
  form         : Nat
  versions     : Nat
  reading      : Nat
  duration     : Nat
  late         : Nat
  blackFirst   : Nat
  blackLast    : Nat
  breakDefault : Nat
  bookletDefault : Nat
  walk         : Nat
  zoneOrder    : List Nat
  warnings     : List Nat
  scheduled    : Option Nat
  penalty      : Nat
  multipleWrong : Bool
  sections     : List Nat
  state        : PaperState
  startPending : Bool
  readingLeft  : Nat
  elapsed      : Nat
  admClosed    : Bool
  deriving DecidableEq, Repr

inductive Sense where
  | normal | inverted
  deriving DecidableEq, Repr

/-- The hall signal pattern (R98): HOLD with its output, PULSE with its count. -/
inductive Signal where
  | off
  | hold (on : Bool)
  | pulse (count : Nat)
  deriving DecidableEq, Repr

structure Ssu where
  papers      : Table Paper
  held        : Bool
  srcStation  : Bool
  srcContact  : Bool
  holdLength  : Nat
  sense       : Sense
  /-- The kept contact level: active or not (R89). -/
  contact     : Bool
  quiet       : Bool
  signal      : Signal
  deriving DecidableEq, Repr

/-! ### Desk Bus Controller (chapter 6) -/

inductive DeskState where
  | offline | quiet | online
  deriving DecidableEq, Repr

inductive QuietCause where
  | returned | sense
  deriving DecidableEq, Repr

inductive Button where
  | present | finish | call | breakKey
  deriving DecidableEq, Repr

inductive Colour where
  | off | green | amber | red
  deriving DecidableEq, Repr

inductive Cadence where
  | steady | slow | fast
  deriving DecidableEq, Repr

structure Pattern where
  colour  : Colour
  cadence : Cadence
  deriving DecidableEq, Repr

/-- One truth value for each button: levels, latches or senses. -/
structure Buttons where
  present : Bool
  finish  : Bool
  call    : Bool
  breakKey : Bool
  deriving DecidableEq, Repr

/-- A timed lamp item (R101, R114). -/
structure LampItem where
  pattern : Pattern
  seconds : Nat
  deriving DecidableEq, Repr

/-- A desk record in use (R101). UNUSED is not listed; lamp pending is derived (`lampPending`). -/
structure Desk where
  state     : DeskState
  cause     : Option QuietCause
  announced : Bool
  misses    : Nat
  /-- The desk was made QUIET by SET BUTTON SENSE and its next good reply is a sample only (R108). -/
  resample  : Bool
  ack       : Bool
  expected  : Bool
  levels    : Buttons
  presses   : List Button
  longPress : Option Nat
  window    : Option Nat
  override  : Option LampItem
  feedback  : Option LampItem
  warning   : Option Nat
  lamp      : Pattern
  deriving DecidableEq, Repr

inductive CallReason where
  | call | booklet | breakRequest
  deriving DecidableEq, Repr

/-- A call list entry (R112). -/
structure Call where
  seat   : Nat
  reason : CallReason
  time   : Nat
  deriving DecidableEq, Repr

/-- The exchange on the desk bus (R102, R103): the address polled, whether this is the retried attempt,
and whether the desk has left the poll list since (R101). -/
structure Exchange where
  address : Nat
  retried : Bool
  void    : Bool
  deriving DecidableEq, Repr

/-- A desk poll (R103, R185). -/
structure Poll where
  address : Nat
  lamp    : Pattern
  ack     : Bool
  deriving DecidableEq, Repr

structure Dbc where
  desks    : Table Desk
  /-- Per button kind: true is INVERTED (R107). -/
  inverted : Buttons
  calls    : List Call
  exchange : Option Exchange
  /-- The address polled last in this round (R102). -/
  polled   : Option Nat
  /-- The poll record sent last (MODEL's own output field). -/
  out      : Option Poll
  deriving DecidableEq, Repr

/-! ### Collection Unit (chapter 7) -/

/-- A collection entry (R118). -/
structure Entry where
  seat     : Nat
  slot     : Nat
  reason   : FinishReason
  booklets : Nat
  deriving DecidableEq, Repr

/-- The rings and the waiter list of a zone (R118, R124). -/
structure Rings where
  urgent  : List Entry
  main    : List Entry
  waiters : List Nat
  deriving DecidableEq, Repr

inductive CollectorState where
  | off | idle | waiting | round
  deriving DecidableEq, Repr

/-- A collector record (R121). -/
structure Collector where
  state   : CollectorState
  zones   : List Nat
  size    : Nat
  timeout : Nat
  zone    : Option Nat
  round   : List Entry
  timer   : Option Nat
  expired : List Nat
  deriving DecidableEq, Repr

structure Clu where
  /-- By zone index; unlisted is empty. -/
  rings      : Table Rings
  /-- By collector index; unlisted is an OFF collector. -/
  collectors : Table Collector
  deriving DecidableEq, Repr

/-! ### Mark Reader Unit (chapters 8 and 9) -/

/-- The decision made for a row (R155); a bubble counts from 0. -/
inductive RowOutcome where
  | blank | light | multiple
  | single (bubble : Nat)
  deriving DecidableEq, Repr

inductive BufferState where
  | free | filling | full | marking
  deriving DecidableEq, Repr

/-- A sheet buffer (R140); next index is the number of rows. -/
structure Buffer where
  state  : BufferState
  form   : Option Nat
  serial : Option Nat
  rows   : List (List Byte)
  held   : Bool
  deriving DecidableEq, Repr

/-- Exception reasons, in the order of R148. -/
inductive SheetReason where
  | idUnreadable | versionUnreadable | unknownCandidate | notSitting | earlySheet | wrongForm | noKey | duplicate
  deriving DecidableEq, Repr

/-- An exception entry (R148). -/
structure SheetException where
  number   : Nat
  serial   : Nat
  form     : Nat
  reason   : SheetReason
  decNumber : Option Nat
  decVersion : Option Nat
  outcomes : List RowOutcome
  queued   : Bool
  deriving DecidableEq, Repr

/-- A key entry (R157): VOID, or the options A to E of the correct set as bits 0 to 4, with a weight. -/
inductive KeyEntry where
  | void
  | correct (options weight : Nat)
  deriving DecidableEq, Repr

/-- A key slot: a key or none, and its generation (R157). -/
structure KeySlot where
  key        : Option (List KeyEntry)
  generation : Nat
  deriving DecidableEq, Repr

/-- The staging key (R158). -/
structure Staging where
  paper     : Nat
  version   : Nat
  questions : Nat
  entries   : Table KeyEntry
  deriving DecidableEq, Repr

/-- What scoring makes of an outcome list (R160). -/
structure Score where
  sections  : List Nat
  total     : Nat
  maximum   : Nat
  percent   : Option Nat
  blanks    : Nat
  lights    : Nat
  multiples : Nat
  deriving DecidableEq, Repr

/-- A result record (R161), with its suspect mark. -/
structure ResultRecord where
  serial     : Nat
  form       : Nat
  version    : Nat
  generation : Nat
  outcomes   : List RowOutcome
  score      : Score
  stale      : Bool
  suspect    : Bool
  deriving DecidableEq, Repr

/-- The marking settings (R155). -/
structure Settings where
  mark       : Nat
  separation : Nat
  light      : Nat
  deriving DecidableEq, Repr

/-- The exception a stage ends in (R153, R156): its reason, the decoded fields kept, and the SUSPECT marker of
its notice. -/
structure Failure where
  reason  : SheetReason
  number  : Option Nat
  version : Option Nat
  suspect : Bool
  deriving DecidableEq, Repr

/-- What the identity decode finds (R156): the slot, paper, version and number to score for, or the
exception. -/
inductive Identity where
  | found (slot paper version number : Nat)
  | failed (f : Failure)
  deriving DecidableEq, Repr

/-- What a sheet's identity decode found to score for (R156). -/
structure Decoded where
  paper   : Nat
  version : Nat
  number  : Nat
  deriving DecidableEq, Repr

/-- The key and generation an operation scores with (R160). -/
structure Snapshot where
  found      : Decoded
  key        : List KeyEntry
  generation : Nat
  deriving DecidableEq, Repr

/-- How far a SHEET or RETRY operation has come: nothing decided, its identity decoded, or the key and
generation taken for scoring too (R152, R156, R160). A stage that ends in an exception ends the operation
(R153), so none is kept. -/
inductive Progress where
  | taken
  | decoded (d : Decoded)
  | snapshot (n : Snapshot)
  deriving DecidableEq, Repr

/-- The work of a BUSY marker (R152): a sheet in a buffer, a retry of an exception entry, or a rescore
step with the record it took and the key taken for it. -/
inductive MarkWork where
  | sheet (buffer : Nat) (progress : Progress)
  | retry (entry : Nat) (progress : Progress)
  | rescore (slot : Nat) (record : ResultRecord) (key : Option (List KeyEntry)) (generation : Nat)
  deriving DecidableEq, Repr

/-- The marking operation in flight, with the settings it read (R152, R155). -/
structure MarkOp where
  work     : MarkWork
  settings : Settings
  deriving DecidableEq, Repr

/-- A running rescore pass (R162). -/
structure Pass where
  paper    : Nat
  last     : Option Nat
  again    : Bool
  rescored : Nat
  removed  : Nat
  deriving DecidableEq, Repr

/-- Kinds of scan record (R142), in code order from 0. -/
inductive ScanKind where
  | frameOpen | row | frameClose
  deriving DecidableEq, Repr

/-- Causes of REJECT, in code order (R142, R185). -/
inductive RejectCause where
  | noForm | rowOrder | rowLength | rowCount | lowContrast | noFrame
  deriving DecidableEq, Repr

/-- Answers on the scan link (R142). -/
inductive ScanAnswer where
  | busy
  | resend (next : Option Nat)
  | accept (serial : Nat)
  | reject (cause : RejectCause) (serial : Option Nat)
  deriving DecidableEq, Repr

/-- A record broken by parity whose error the next unbroken record settles (R147). -/
structure ResendWait where
  kind : ScanKind
  row  : Option Nat
  deriving DecidableEq, Repr

structure Mru where
  forms      : Table Nat
  buffer0    : Buffer
  buffer1    : Buffer
  fullOrder  : List Nat
  /-- The parity errors not settled yet, in their order; empty is no wait (R147). -/
  resendWait : List ResendWait
  /-- Characters are discarded until a gap (R142). -/
  discarding : Bool
  /-- The answer record sent last on the scan link (MODEL's own output field). -/
  out        : Option ScanAnswer
  exceptions : List SheetException
  counter    : Nat
  marker     : Option MarkOp
  settings   : Settings
  /-- Key slots, by paper index times 4 plus version; unlisted holds no key, generation 0. -/
  keys       : Table KeySlot
  staging    : Option Staging
  results    : Table ResultRecord
  pass       : Option Pass
  rescorePending : List Nat
  deriving DecidableEq, Repr

/-! ### Fault Capture (chapter 11) -/

inductive Reporting where
  | quiet | standard | record
  deriving DecidableEq, Repr

inductive FaultSource where
  | table | desk | scan
  deriving DecidableEq, Repr

/-- The record kinds of a fault, of all three sources in one list, whose places are the codes sent (R178, log
entry 63). -/
inductive FaultRecord where
  | seat | candidate | result | desk | frameOpen | row | frameClose
  deriving DecidableEq, Repr

inductive FaultKind where
  | corrected | uncorrectable | lost
  deriving DecidableEq, Repr

/-- A fault taken by Fault Capture (R178, R179). -/
structure FaultReport where
  source : FaultSource
  record : FaultRecord
  index  : Option Nat
  kind   : FaultKind
  time   : Nat
  deriving DecidableEq, Repr

structure Fcu where
  level   : Reporting
  capture : Option FaultReport
  further : Bool
  /-- The held list: the CORRECTED faults whose notices are held (R178). -/
  held    : List FaultReport
  deriving DecidableEq, Repr

/-! ### The whole part -/

/-- A step of the part's blocks that a hall second, or a time-set report, has made due and that has not
been taken yet (R62, R78, R84 to R86, R98, R115, R125). MODEL's own: each names its row of the table. -/
inductive Due where
  | notSeated (slot : Nat)
  | roundTimeout (collector : Nat)
  | finishWindowExpiry (desk : Nat)
  | lampItemExpiry (desk : Nat)
  | pulseEnd
  | breakOverrun (slot : Nat)
  | clockExpiry
  | readingEnd (paper : Nat)
  | admissionCloses (paper : Nat)
  | writingEnd (paper : Nat)
  | clockWarning (slot : Nat)
  | warning (paper : Nat)
  | scheduledStart (paper : Nat)
  deriving DecidableEq, Repr

/-- The state of the part. -/
structure State where
  sli : Sli
  hmu : Hmu
  rsu : Rsu
  sal : Sal
  htb : Htb
  ssu : Ssu
  dbc : Dbc
  clu : Clu
  mru : Mru
  fcu : Fcu
  /-- Wrong bits that table memory holds and no read has found yet (R177). -/
  upsets  : List Upset
  /-- Steps made due and not yet taken, oldest first. MODEL's own. -/
  due     : List Due
  /-- The commands that are waiting, first in, first out. MODEL's own. -/
  pending : List Instr
  deriving DecidableEq, Repr

/-- Why the machine stops. No rule of the manual stops the part, and no command of this model answers a
fault: the one constructor is raised by nothing. -/
inductive Fault where
  /-- Raised by nothing; safe. -/
  | noFault
  deriving DecidableEq, Repr

/-- Why a command has no meaning. -/
inductive Refusal where
  /-- Raised by an arm of exec whose command is not modelled yet, with its mnemonic; safe. No arm raises
  it now. -/
  | notModelled (mnemonic : String)
  deriving DecidableEq, Repr

/-- The lamp pattern OFF; its cadence is the model's (log entry 6). -/
def Pattern.dark : Pattern := ⟨.off, .steady⟩

def Buttons.none : Buttons := ⟨false, false, false, false⟩

/-- The clock of a slot that has none (R81). -/
def Clock.zero : Clock := ⟨.none, 0, none, none, 0, 0⟩

/-- Empty rings (R118). -/
def Rings.empty : Rings := ⟨[], [], []⟩

/-- An OFF collector (R121). -/
def Collector.initial : Collector := ⟨.off, [], 8, 300, none, [], none, []⟩

/-- A FREE sheet buffer (R140). -/
def Buffer.initial : Buffer := ⟨.free, none, none, [], false⟩

def Port.initial : Port := ⟨none, none⟩

/-- Characters per second by the RATE1 and RATE0 straps (R175). -/
def baseRate : Bool → Bool → Nat
  | false, false => 57600
  | false, true  => 115200
  | true,  false => 230400
  | true,  true  => 460800

def Sli.reset (rate : Nat) : Sli :=
  { rate := rate, receive := .idle, taken := none, waiting := none, replies := [], sending := none,
    notices := [], lost := false, start := some (.started rate 0) }

def Hmu.reset : Hmu := { zones := [], rows := [], seats := [] }

def Rsu.reset : Rsu := { slots := [], door0 := .initial, door1 := .initial }

def Sal.reset : Sal :=
  { cursors := [], wait := [], retry := .idle, again := false, span := [], reqDoor0 := none,
    reqDoor1 := none, reqStation := none, reqRetry := false, last := .retry, serving := none }

def Htb.reset : Htb :=
  { trim := Config.nominalTrim, pendingTrim := none, phase := 0, time := 0, timeSet := false,
    cal := .idle, calLength := 0, pulses := 0, ticks := 0, window := 0 }

def Ssu.reset : Ssu :=
  { papers := [], held := false, srcStation := false, srcContact := false, holdLength := 0,
    sense := .normal, contact := false, quiet := false, signal := .off }

def Dbc.reset : Dbc :=
  { desks := [], inverted := .none, calls := [], exchange := none, polled := none, out := none }

def Clu.reset : Clu := { rings := [], collectors := [] }

def Settings.reset : Settings := ⟨140, 40, 60⟩

def Mru.reset : Mru :=
  { forms := [], buffer0 := .initial, buffer1 := .initial, fullOrder := [], resendWait := [],
    discarding := false, out := none, exceptions := [], counter := 0, marker := none,
    settings := .reset, keys := [], staging := none, results := [], pass := none,
    rescorePending := [] }

def Fcu.reset : Fcu := { level := .standard, capture := none, further := false, held := [] }

/-- The part after a full reset that read base rate `rate`, with the commands `pending` (R175 and the
reset rule of each chapter). -/
def State.resetWith (rate : Nat) (pending : List Instr) : State :=
  { sli := .reset rate, hmu := .reset, rsu := .reset, sal := .reset, htb := .reset, ssu := .reset,
    dbc := .reset, clu := .reset, mru := .reset, fcu := .reset, upsets := [], due := [],
    pending := pending }

/-- The part after full reset, with both RATE straps at 0 (log entry 1). -/
def State.reset : State := State.resetWith (baseRate false false) []

end Sys2Proof.Machine
end

