-- ==== Sys2Proof/Machine/Tables.lean ====
section
/-! DEFINITION. Reading and writing record tables (Word.lean, Table), and the small list operations the
blocks share. Every write keeps a table's indices strictly rising. -/

namespace Sys2Proof

namespace Table

variable {α : Type}

/-- The record at an index, if there is one. -/
def find : Table α → Nat → Option α
  | [], _ => none
  | (i, a) :: t, k => if i = k then some a else find t k

/-- The table with a record written at an index. -/
def put : Table α → Nat → α → Table α
  | [], k, a => [(k, a)]
  | (i, b) :: t, k, a =>
    if k < i then (k, a) :: (i, b) :: t
    else if k = i then (k, a) :: t
    else (i, b) :: put t k a

/-- The table without the record at an index. -/
def drop (t : Table α) (k : Nat) : Table α := t.filter fun e => e.1 != k

/-- The table with the record at an index, if there is one, changed. -/
def modify (t : Table α) (k : Nat) (f : α → α) : Table α :=
  match find t k with
  | none => t
  | some a => put t k (f a)

/-- The table with every record changed, each told its index. -/
def mapAll (f : Nat → α → α) (t : Table α) : Table α := t.map fun e => (e.1, f e.1 e.2)

/-- The indices that hold a record, rising. -/
def keys (t : Table α) : List Nat := t.map Prod.fst

/-- The indices of the records that satisfy a test, rising. -/
def keysWhere (p : α → Bool) (t : Table α) : List Nat := (t.filter fun e => p e.2).map Prod.fst

/-- How many records satisfy a test. -/
def count (p : α → Bool) (t : Table α) : Nat := (t.filter fun e => p e.2).length

/-- Whether some record satisfies a test. -/
def any (p : α → Bool) (t : Table α) : Bool := List.any t fun e => p e.2

/-- The canonical form: indices strictly rising. -/
def sorted : Table α → Bool
  | [] => true
  | [_] => true
  | (i, _) :: (j, b) :: t => i < j && sorted ((j, b) :: t)

end Table

namespace Machine

/-- A list with an element inserted before the first element whose key is greater. -/
def insertBy {α : Type} (key : α → Nat) (a : α) : List α → List α
  | [] => [a]
  | b :: l => if key a < key b then a :: b :: l else b :: insertBy key a l

/-- A list in ascending order of a key. -/
def sortBy {α : Type} (key : α → Nat) : List α → List α
  | [] => []
  | a :: l => insertBy key a (sortBy key l)

/-- Whether no number stands twice in a list. -/
def distinct : List Nat → Bool
  | [] => true
  | a :: l => !l.contains a && distinct l

/-- A list without the repeats of earlier elements. -/
def dedup : List Nat → List Nat
  | [] => []
  | a :: l => a :: (dedup l).filter (· != a)

/-- A number taken into the range `low` to `high`. -/
def clampTo (low high n : Nat) : Nat := if n < low then low else if high < n then high else n

/-- The position of an element in a list, counted from 1, if it is there. -/
def positionOf (a : Nat) (l : List Nat) : Option Nat :=
  if l.contains a then some (l.findIdx (· == a) + 1) else none

def sumOf (l : List Nat) : Nat := l.foldl (· + ·) 0

end Machine

end Sys2Proof
end

