-- ==== Sys2Proof/Machine/Operands.lean ====
section
/-! DEFINITION. Named values as codes, the fields of replies and notices (section 12.3), check
characters (R183), and the frames of the desk bus, the door ports and the scan link (R185). -/

namespace Sys2Proof.Machine

/-! ### Named values: the value's position in the list its rule gives, from 0 (section 12.3) -/

def Spacing.ofCode (n : Nat) : Option Spacing := [Spacing.none, .side, .cross][n]?
def AdmissionCode.ofCode (n : Nat) : Option AdmissionCode := [AdmissionCode.none, .reserve, .admits][n]?
def CandidateClass.ofCode (n : Nat) : Option CandidateClass := [CandidateClass.standard, .arranged][n]?
def SeatClass.ofCode (n : Nat) : Option SeatClass := [SeatClass.standard, .nearExit, .wide, .isolated][n]?
def SeatState.ofCode (n : Nat) : Option SeatState :=
  [SeatState.unavailable, .free, .held, .occupied, .vacated][n]?
def CandidateState.ofCode (n : Nat) : Option CandidateState :=
  [CandidateState.expected, .waiting, .admitted, .seated, .finished, .collected, .absent, .withdrawn][n]?
def FinishReason.ofCode (n : Nat) : Option FinishReason :=
  [FinishReason.early, .expired, .ended, .withdrawn, .station][n]?
def ClockState.ofCode (n : Nat) : Option ClockState :=
  [ClockState.none, .reading, .running, .paused, .held, .stopped, .expired][n]?
def Sense.ofCode (n : Nat) : Option Sense := [Sense.normal, .inverted][n]?
def Button.ofCode (n : Nat) : Option Button := [Button.present, .finish, .call, .breakKey][n]?
def Colour.ofCode (n : Nat) : Option Colour := [Colour.off, .green, .amber, .red][n]?
def Cadence.ofCode (n : Nat) : Option Cadence := [Cadence.steady, .slow, .fast][n]?
def Reporting.ofCode (n : Nat) : Option Reporting := [Reporting.quiet, .standard, .record][n]?
def ScanKind.ofCode (n : Nat) : Option ScanKind := [ScanKind.frameOpen, .row, .frameClose][n]?

/-- A flag that a rule calls a named value: clear is 0, set is 1 (R55). -/
def flagOfCode (n : Nat) : Option Bool := [false, true][n]?

/-- Notice codes (section 12.2). -/
def NoticeKind.code : NoticeKind → Nat
  | .started => 1 | .linkRestarted => 2
  | .doorAnswer => 8 | .notSeated => 9 | .absent => 10 | .unexpectedPresent => 11
  | .preplaceMissed => 12 | .placed => 13
  | .calibrated => 16 | .calibrationLost => 17
  | .paperState => 24 | .expired => 25 | .breakOverrun => 26 | .unseatedFinish => 27
  | .warning => 28 | .ended => 29 | .contactClear => 30 | .contactLevel => 31 | .held => 32
  | .released => 33 | .breakEnded => 34 | .finishRefused => 35 | .finished => 36
  | .deskOffline => 40 | .deskOnline => 41 | .deskRestarted => 42 | .unexpectedPress => 43
  | .call => 44 | .callListFull => 45
  | .roundOffered => 48 | .roundExpired => 49 | .discrepancy => 50 | .paperCollected => 51
  | .sheetRejected => 56 | .sheetHeld => 57 | .sheetMarked => 58 | .sheetException => 59
  | .exceptionResolved => 60 | .resultDropped => 61 | .rescored => 62 | .fault => 63

/-! ### Fields (section 12.3, R184) -/

def u8 (n : Nat) : Field := ⟨1, some n⟩
def u16 (n : Nat) : Field := ⟨2, some n⟩
def u24 (n : Nat) : Field := ⟨3, some n⟩
def u32 (n : Nat) : Field := ⟨4, some n⟩
def o8 (n : Option Nat) : Field := ⟨1, n⟩
def o16 (n : Option Nat) : Field := ⟨2, n⟩
def o24 (n : Option Nat) : Field := ⟨3, n⟩
def flag (b : Bool) : Field := u8 b.toNat

/-- A list field: its count, then its items. The count is 1 byte (section 12.3); of a ring of more than 255
entries it carries the number modulo 256 (log entry 9). -/
def listField {α : Type} (item : α → List Field) (l : List α) : List Field :=
  u8 l.length :: l.flatMap item

/-- The 7 characters of a seat label, such as C-07-12 (00_scope.md, Conventions). -/
def labelOf (t : Seat) : List Nat :=
  [65 + t.zone, 45, 48 + t.row / 10, 48 + t.row % 10, 45, 48 + t.position / 10, 48 + t.position % 10]

/-- The characters of a label as fields; absence is 7 bytes of all ones (log entry 7). -/
def labelFields : Option (List Nat) → List Field
  | some l => l.map u8
  | none => List.replicate 7 (o8 none)

/-- A number as `width` bytes, the most significant first (section 12). -/
def bytesOf : Nat → Nat → List Byte
  | 0, _ => []
  | w + 1, n => bytesOf w (n / 256) ++ [BitVec.ofNat 8 n]

/-- A field as bytes: absence is all ones (R184). -/
def Field.bytes (f : Field) : List Byte :=
  match f.value with
  | some n => bytesOf f.width n
  | none => List.replicate f.width 255#8

/-- A number sent as bytes, the most significant first. -/
def numberOf (bs : List Byte) : Nat := bs.foldl (fun n b => n * 256 + b.toNat) 0

/-! ### Check characters and record bytes (R183, section 12.4) -/

/-- The sum of characters modulo 256 (R167). -/
def byteSum (bs : List Byte) : Byte := bs.foldl (· + ·) 0#8

/-- The check character of a part (R183). -/
def checkCharacter (bs : List Byte) : Byte := 0#8 - byteSum bs

/-- Whether a part sums to 0 modulo 256, its check character included (R183). -/
def sumsToZero (bs : List Byte) : Bool := byteSum bs == 0#8

/-- A station record with this kind and body: the length L is the number of body characters that follow, 0 to 240
(R183). A reply's fields may be more, in QUERY CALLS and QUERY QUEUE alone: the body is then the first 240 of
their characters (log entry 58). -/
def recordBytes (kind : Nat) (body : List Byte) : List Byte :=
  let body := body.take Config.bodyLimit
  let part := BitVec.ofNat 8 kind :: BitVec.ofNat 8 body.length :: body
  part ++ [checkCharacter part]

/-- A reply record on the line: kind 224 and the body of section 12.4. -/
def Reply.bytes (r : Reply) : List Byte :=
  let fields := [u8 r.kind, u8 r.answer.result.ctorIdx, u8 r.answer.reason.ctorIdx] ++ r.answer.fields
  recordBytes 224 (fields.flatMap Field.bytes)

/-- A notice record on the line, carrying the lost-notice flag as it begins: kind 225 and the body of
section 12.4. -/
def Notice.bytes (n : Notice) (lost : Bool) : List Byte :=
  let fields := [u8 n.kind.code, flag lost, u24 n.time] ++ n.fields
  recordBytes 225 (fields.flatMap Field.bytes)

/-- The notice a start record is (R174, R175, R183). -/
def StartRecord.notice : StartRecord → Notice
  | .started rate time => ⟨.started, time, [u24 rate]⟩
  | .linkRestarted kind notices time => ⟨.linkRestarted, time, [o8 kind, u8 notices]⟩

/-- The record being sent, from its kind to its check (R172, R183). -/
def Sending.bytes : Sending → List Byte
  | .start r lost => r.notice.bytes lost
  | .reply r => r.bytes
  | .notice n lost => n.bytes lost

/-- A character with the bit sent beside its 8 data bits: the lead flag of the station link, or the parity bit
of the scan link (section 12). -/
abbrev Character := Byte × Bool

/-- The characters of a station record: the lead flag is set on the first and clear on every other (R167,
R183). -/
def lineCharacters : List Byte → List Character
  | [] => []
  | kind :: rest => (kind, true) :: rest.map fun b => (b, false)

/-! ### Desk bus, door and scan link frames (R185) -/

/-- Bit `k` of a byte. -/
def bit (b : Byte) (k : Nat) : Bool := b.getLsbD k

/-- A desk poll on the bus: address, control byte, check (R185). Bits 5 to 7 of the control byte, and bits 1 to 7 of
the upper address byte, are sent as 0 (log entry 44). -/
def Poll.bytes (p : Poll) : List Byte :=
  let control := p.lamp.colour.ctorIdx + 4 * p.lamp.cadence.ctorIdx + 16 * p.ack.toNat
  let part := bytesOf 2 p.address ++ [BitVec.ofNat 8 control]
  part ++ [checkCharacter part]

/-- The raw levels of a desk reply's buttons byte: bits 0 to 3. -/
def replyLevels (b : Byte) : Buttons := ⟨bit b 0, bit b 1, bit b 2, bit b 3⟩

/-- The press latches of a desk reply's buttons byte: bits 4 to 7. -/
def replyLatches (b : Byte) : Buttons := ⟨bit b 4, bit b 5, bit b 6, bit b 7⟩

/-- A door answer on its port: answer, reason, label characters (spaces unless SEAT), check. -/
def DoorAnswer.bytes (a : DoorAnswer) : List Byte :=
  let part : List Nat :=
    match a with
    | .seat l => 0 :: 0 :: l
    | .wait => 1 :: 0 :: List.replicate 7 32
    | .refused r => 2 :: r.ctorIdx :: List.replicate 7 32
    | .busy => 3 :: 0 :: List.replicate 7 32
    | .readAgain => 4 :: 0 :: List.replicate 7 32
  let part := part.map (BitVec.ofNat 8)
  part ++ [checkCharacter part]

/-- The data bits of an answer on the scan link. -/
def ScanAnswer.bytes : ScanAnswer → List Byte
  | .busy => [16#8]
  | .resend next => [17#8, BitVec.ofNat 8 (next.getD 255)]
  | .accept serial => 18#8 :: bytesOf 2 serial
  | .reject cause serial => [19#8, BitVec.ofNat 8 cause.ctorIdx] ++ bytesOf 2 (serial.getD 0)

/-- The even parity bit of a scan link character (R185). -/
def parityBit (b : Byte) : Bool :=
  (List.range 8).foldl (fun p k => xor p (bit b k)) false

/-- A scan link character with its parity bit (R185). -/
def scanCharacter (b : Byte) : Character := (b, parityBit b)

/-- Whether a scan link character passes its parity check (R142, R185). -/
def parityHolds (c : Character) : Bool := c.2 == parityBit c.1

/-- An answer's characters on the scan link. -/
def ScanAnswer.characters (a : ScanAnswer) : List Character := a.bytes.map scanCharacter

end Sys2Proof.Machine
end

