-- ==== Sys2Proof/Machine/Ops.lean ====
section
/-! DEFINITION. The operations every block shares: answers, notices (R172), faults (R178, R179), checked
reads of table memory (R177), reading and writing seat, candidate, paper, desk and collector records,
and retry triggers (R52). -/

namespace Sys2Proof.Machine

/-! ### Answers to requests (R171) -/

/-- What taking a request gives: the state and the answer, or no answer yet (a deferred request, R169). -/
abbrev Response := State × Option Answer

def Answer.ok (fields : List Field) : Answer := ⟨.done, .none, fields⟩
def Answer.no (r : Reason) : Answer := ⟨.refused, r, []⟩

/-- DONE, or CLAMPED where the owner clamped a value. -/
def Answer.doneOr (clamped : Bool) (fields : List Field) : Answer :=
  ⟨if clamped then .clamped else .done, .none, fields⟩

def refuse (s : State) (r : Reason) : Response := (s, some (.no r))
def done (s : State) (fields : List Field) : Response := (s, some (.ok fields))
def doneOr (clamped : Bool) (s : State) (fields : List Field) : Response :=
  (s, some (.doneOr clamped fields))

/-! ### Notices -/

/-- A notice joins the queue's tail, or is dropped with the lost-notice flag set (R172). -/
def joinQueue (n : Notice) (s : State) : State :=
  if s.sli.notices.length < Config.noticeLimit then
    { s with sli := { s.sli with notices := s.sli.notices ++ [n] } }
  else { s with sli := { s.sli with lost := true } }

/-- A notice made now, at the time of day as it stands (R172). -/
def notify (kind : NoticeKind) (fields : List Field) (s : State) : State :=
  joinQueue ⟨kind, s.htb.time, fields⟩ s

/-! ### Replies -/

/-- A reply joins the tail of the reply list (R168). -/
def addReply (kind : Nat) (a : Answer) (s : State) : State :=
  { s with sli := { s.sli with replies := s.sli.replies ++ [⟨kind, a, false⟩] } }

/-- The owner of the request in the taken place answers it: the reply is made, or discarded after a link
reset, and the taken place becomes free (R169, R174). -/
def answerTaken (a : Answer) (s : State) : State :=
  match s.sli.taken with
  | some (.deferred kind false) =>
    addReply kind a { s with sli := { s.sli with taken := none } }
  | some (.deferred _ true) => { s with sli := { s.sli with taken := none } }
  | _ => s

/-! ### Faults (R178, R179) -/

/-- Whether a level captures and notifies faults of a kind (R178). -/
def Reporting.reports : Reporting → FaultKind → Bool
  | .quiet, _ => false
  | .standard, .corrected => false
  | .standard, _ => true
  | .record, _ => true

/-- Whether a level captures faults of a kind (R178). -/
def Reporting.captures : Reporting → FaultKind → Bool
  | .quiet, .uncorrectable => true
  | .quiet, _ => false
  | l, k => l.reports k

/-- The fields of notice FAULT (R178), every index in 2 bytes, a row's too (log entry 63). -/
def FaultReport.fields (f : FaultReport) : List Field :=
  [u8 f.source.ctorIdx, u8 f.record.ctorIdx, o16 f.index, u8 f.kind.ctorIdx, u24 f.time]

/-- The capture record takes a captured fault if it holds none (R179). -/
def capture (f : FaultReport) (s : State) : State :=
  match s.fcu.capture with
  | none => { s with fcu := { s.fcu with capture := some f } }
  | some _ => { s with fcu := { s.fcu with further := true } }

/-- Notice FAULT joins the queue, or is held while the marker is BUSY if it is CORRECTED (R178). -/
def notifyFault (f : FaultReport) (s : State) : State :=
  if f.kind == .corrected && s.mru.marker.isSome then
    if s.fcu.held.length < Config.heldLimit then
      { s with fcu := { s.fcu with held := s.fcu.held ++ [f] } }
    else { s with sli := { s.sli with lost := true } }
  else notify .fault f.fields s

/-- Fault Capture takes a fault according to its reporting level (R178). -/
def takeFault (source : FaultSource) (record : FaultRecord) (index : Option Nat) (kind : FaultKind)
    (s : State) : State :=
  let f : FaultReport := ⟨source, record, index, kind, s.htb.time⟩
  let s := if s.fcu.level.captures kind then capture f s else s
  if s.fcu.level.reports kind then notifyFault f s else s

/-- The held notices join the tail of the queue in their order, at the time of day as it stands (R172); each
keeps the time of day of its fault among its fields (R178). -/
def releaseHeld (s : State) : State :=
  let held := s.fcu.held
  held.foldl (fun s f => notify .fault f.fields s) { s with fcu := { s.fcu with held := [] } }

/-! ### Record access -/

def State.zone? (s : State) (z : Nat) : Option Zone := s.hmu.zones.find z
def State.seat? (s : State) (n : Nat) : Option Seat := s.hmu.seats.find n
def State.slot? (s : State) (k : Nat) : Option Slot := s.rsu.slots.find k
def State.paper? (s : State) (p : Nat) : Option Paper := s.ssu.papers.find p
def State.desk? (s : State) (a : Nat) : Option Desk := s.dbc.desks.find a
def State.ringsOf (s : State) (z : Nat) : Rings := (s.clu.rings.find z).getD .empty
def State.collectorOf (s : State) (c : Nat) : Collector := (s.clu.collectors.find c).getD .initial
def State.keyOf (s : State) (p v : Nat) : KeySlot := (s.mru.keys.find (p * 4 + v)).getD ⟨none, 0⟩
def State.cursorOf (s : State) (p z : Nat) : Nat := (s.sal.cursors.find (p * 8 + z)).getD 0
def State.bufferOf (s : State) (b : Nat) : Buffer := if b = 0 then s.mru.buffer0 else s.mru.buffer1

def setZone (z : Nat) (r : Zone) (s : State) : State :=
  { s with hmu := { s.hmu with zones := s.hmu.zones.put z r } }

def modPaper (p : Nat) (f : Paper → Paper) (s : State) : State :=
  { s with ssu := { s.ssu with papers := s.ssu.papers.modify p f } }

def modDesk (a : Nat) (f : Desk → Desk) (s : State) : State :=
  { s with dbc := { s.dbc with desks := s.dbc.desks.modify a f } }

def setRings (z : Nat) (r : Rings) (s : State) : State :=
  { s with clu := { s.clu with rings := s.clu.rings.put z r } }

def setCollector (c : Nat) (r : Collector) (s : State) : State :=
  { s with clu := { s.clu with collectors := s.clu.collectors.put c r } }

def setCursor (p z n : Nat) (s : State) : State :=
  { s with sal := { s.sal with cursors := s.sal.cursors.put (p * 8 + z) n } }

def setBuffer (b : Nat) (r : Buffer) (s : State) : State :=
  if b = 0 then { s with mru := { s.mru with buffer0 := r } }
  else { s with mru := { s.mru with buffer1 := r } }

/-- The shadow of a candidate record and clock, written with every write of them (R177). -/
def shadowOf (c : Candidate) (k : Clock) : Shadow := ⟨some c.number, some c.paper, k.state == .none⟩

/-- A slot with this candidate record and clock written; the suspect mark stays as it is (R177). -/
def Slot.write (c : Candidate) (k : Clock) (suspect : Bool) : Slot := ⟨c, k, shadowOf c k, suspect⟩

/-- The candidate record and clock of a used slot are changed. -/
def modSlot (k : Nat) (f : Candidate → Candidate) (g : Clock → Clock) (s : State) : State :=
  { s with rsu := { s.rsu with
      slots := s.rsu.slots.modify k fun x => .write (f x.cand) (g x.clock) x.suspect } }

def modCand (k : Nat) (f : Candidate → Candidate) (s : State) : State := modSlot k f id s
def modClock (k : Nat) (g : Clock → Clock) (s : State) : State := modSlot k id g s

/-! ### Checked reads of table memory (R177) -/

/-- Whether a wrong bit of the upset list is in a word of a record. -/
def inWord (r : RecordRef) (w : Nat) (u : Upset) : Bool := u.record == r && u.word == w

/-- The words of a record that hold wrong bits, ascending. -/
def State.wrongWords (s : State) (r : RecordRef) : List Nat :=
  sortBy id (dedup ((s.upsets.filter fun u => u.record == r).map (·.word)))

/-- Whether a word of a record holds two or more wrong bits: one upset of two or more, or several upsets. -/
def State.wordLost (s : State) (r : RecordRef) (w : Nat) : Bool :=
  let here := s.upsets.filter (inWord r w)
  List.any here (·.double) || 2 ≤ here.length

/-- A word is corrected and written back (R177). -/
def mendWord (r : RecordRef) (w : Nat) (s : State) : State :=
  { s with upsets := s.upsets.filter fun u => !inWord r w u }

/-- The record is written whole, or lost: no wrong bit of it is found any more (R177). -/
def mendRecord (r : RecordRef) (s : State) : State :=
  { s with upsets := s.upsets.filter fun u => u.record != r }

/-- The record kind a fault of source TABLE names (R177). -/
def recordKind : RecordRef → FaultRecord
  | .seat _ => .seat
  | .candidate _ => .candidate
  | .result _ => .result

/-- The index a fault of source TABLE names (R177). -/
def recordIndex : RecordRef → Nat
  | .seat n => n
  | .candidate k => k
  | .result k => k

/-- The suspect mark of a record, if the record exists (R177). -/
def State.suspectOf (s : State) : RecordRef → Option Bool
  | .seat n => (s.seat? n).map (·.suspect)
  | .candidate k => (s.slot? k).map (·.suspect)
  | .result k => (s.mru.results.find k).map (·.suspect)

/-- The suspect mark of a record is set (R177). -/
def markSuspect (r : RecordRef) (s : State) : State :=
  match r with
  | .seat n =>
    { s with hmu := { s.hmu with seats := s.hmu.seats.modify n fun x => { x with suspect := true } } }
  | .candidate k =>
    { s with rsu := { s.rsu with slots := s.rsu.slots.modify k fun x => { x with suspect := true } } }
  | .result k =>
    { s with mru := { s.mru with results := s.mru.results.modify k fun x => { x with suspect := true } } }

/-- Wrong words of a record are read, one fault for each: a single wrong bit is corrected and written back; two
or more mark the record suspect, and its later words are not read (R177). -/
def readWords (r : RecordRef) : List Nat → State → State
  | [], s => s
  | w :: ws, s =>
    if s.wordLost r w then
      takeFault .table (recordKind r) (some (recordIndex r)) .uncorrectable (markSuspect r (mendRecord r s))
    else
      readWords r ws (takeFault .table (recordKind r) (some (recordIndex r)) .corrected (mendWord r w s))

/-- A read of a record of table memory, every word of it (log entry 15). A suspect record is not read
(R177). -/
def readRecord (r : RecordRef) (s : State) : State :=
  if s.suspectOf r = some false then readWords r (s.wrongWords r) s else s

def readSeat (n : Nat) (s : State) : State := readRecord (.seat n) s
def readSlot (k : Nat) (s : State) : State := readRecord (.candidate k) s
def readResult (k : Nat) (s : State) : State := readRecord (.result k) s

/-- Reads of several seat records, one after another. -/
def readSeats (ns : List Nat) (s : State) : State := ns.foldl (fun s n => readSeat n s) s

/-- Reads of every candidate record with its clock, in slot order. -/
def readSlots (s : State) : State := s.rsu.slots.keys.foldl (fun s k => readSlot k s) s

/-- Whether a slot's candidate is of a paper, by its shadow (R177), for a suspect slot and for any other alike, and with no
read (log entry 67). -/
def Slot.ofPaper (p : Nat) (x : Slot) : Bool := x.shadow.paper == some p

/-- Reads of the candidate records of a paper with their clocks, in slot order. -/
def readPaper (p : Nat) (s : State) : State :=
  (s.rsu.slots.keysWhere (·.ofPaper p)).foldl (fun s k => readSlot k s) s

/-- Reads of every seat record, in seat order. -/
def readAllSeats (s : State) : State := readSeats s.hmu.seats.keys s

/-! ### Finding a candidate -/

/-- The used slot that holds a candidate number; a suspect slot's number is its shadow's (R24). The number of every slot is
taken from its shadow, with no read (log entry 67). -/
def State.slotOf (s : State) (number : Nat) : Option Nat :=
  (s.rsu.slots.find? fun e => e.2.shadow.number == some number).map (·.1)

/-- A request that names a candidate number: NOT FOUND where no used slot holds it and SUSPECT on a suspect
record, and otherwise what `act` does with the slot (R93, R97). -/
def withHolder (number : Nat) (s : State) (act : Nat → Slot → State → Response) : Response :=
  match s.slotOf number with
  | none => refuse s .notFound
  | some k =>
    let s := readSlot k s
    match s.slot? k with
    | none => refuse s .notFound
    | some x => if x.suspect then refuse s .suspect else act k x s

/-- A request that names a candidate number and refuses BAD VALUE one outside its range: R27, R37, R39, R93, R95,
R120 and R165. -/
def withCandidate (number : Nat) (s : State) (act : Nat → Slot → State → Response) : Response :=
  if Config.maxNumber < number then refuse s .badValue else withHolder number s act

/-- A request that names a paper index: BAD VALUE outside 0 to 15 and NOT FOUND for an undefined paper
(R77, R88, R100, R135). -/
def withPaper (p : Nat) (s : State) (act : Paper → Response) : Response :=
  if Config.paperCount ≤ p then refuse s .badValue
  else match s.paper? p with
    | none => refuse s .notFound
    | some r => act r

/-- The label of a seat by its number. -/
def State.labelOf (s : State) (n : Nat) : Option (List Nat) := (s.seat? n).map Machine.labelOf

/-- A seat's label as fields, from its number or its absence. -/
def State.labelFields (s : State) (n : Option Nat) : List Field :=
  Machine.labelFields (n.bind s.labelOf)

/-! ### Retry triggers -/

/-- A retry trigger (R52). -/
def retryTrigger (s : State) : State :=
  match s.sal.retry with
  | .idle =>
    if s.sal.wait.isEmpty then s
    else { s with sal := { s.sal with retry := .pending, reqRetry := true } }
  | .pending => s
  | .walking => { s with sal := { s.sal with again := true } }

/-- The candidates of a walk's span that remain to be tried: still on the wait list, in its order (R53). -/
def Sal.untried (l : Sal) : List Nat := l.wait.filter l.span.contains

/-- The walk ends; the again flag starts another if the wait list is not empty (R53). -/
def Sal.walkEnded (l : Sal) : Sal :=
  let again := l.again && !l.wait.isEmpty
  { l with retry := if again then .pending else .idle, again := false, span := [], reqRetry := again }

/-- Whether a retry try is being served (R53). -/
def Sal.trying (l : Sal) : Bool := l.serving.map (·.requester) == some .retry

/-- Slots leave the wait list in one step, and with it the span of a walk; a walk between two tries of which no
candidate of the span remains ends, as the list stands with all of them gone (R51, R53, log entry 42). -/
def Sal.leave (gone : List Nat) (l : Sal) : Sal :=
  let t := { l with wait := l.wait.filter (!gone.contains ·), span := l.span.filter (!gone.contains ·) }
  if !l.wait.any gone.contains then l
  else if l.retry == .walking && !l.trying && t.untried.isEmpty then t.walkEnded
  else t

/-- One slot leaves the wait list (R51, R53). -/
def Sal.left (k : Nat) (l : Sal) : Sal := l.leave [k]

/-- The walk ends (R53). -/
def endWalk (s : State) : State := { s with sal := s.sal.walkEnded }

/-- Slots leave the wait list in one step; the others keep their order (R51). -/
def leaveTogether (gone : List Nat) (s : State) : State := { s with sal := s.sal.leave gone }

/-- A slot leaves the wait list; the others keep their order (R51). -/
def leaveWaitList (k : Nat) (s : State) : State := { s with sal := s.sal.left k }

end Sys2Proof.Machine
end

