-- ==== Sys2Proof/Machine/Seats.lean ====
section
/-! DEFINITION. The operations of the Hall Map Unit that other blocks ask for (chapter 1): rows and seat
numbers, neighbours and spacing (R6, R7), the fill order (R45), withholding (R15), the desk records that
follow the seats' addresses (R101), and the changes of a seat's state (R8 to R12) with what follows from
them in the same step (R11, R13, R110, R111, R113). -/

namespace Sys2Proof.Machine

/-! ### Rows and neighbours -/

/-- The admission code of a zone for a class (R1). -/
def Zone.code (z : Zone) : CandidateClass → AdmissionCode
  | .standard => z.standard
  | .arranged => z.arranged

/-- The row list of a zone, in row-number order (R1, R4). -/
def State.rowsOf (s : State) (z : Nat) : List Row := s.hmu.rows.filter fun r => r.zone == z

/-- The seat count of a zone (R1). -/
def State.seatCount (s : State) (z : Nat) : Nat := sumOf ((s.rowsOf z).map (·.count))

/-- The seat at a row and position of a zone, if there is one. -/
def State.seatAt (s : State) (z row position : Nat) : Option Nat :=
  match s.hmu.rows.find? fun r => r.zone == z && r.number == row with
  | none => none
  | some r => if 1 ≤ position && position ≤ r.count then some (r.first + (position - 1)) else none

/-- The neighbours of a seat under its zone's spacing mode (R6). -/
def State.neighbours (s : State) (n : Nat) : List Nat :=
  match s.seat? n with
  | none => []
  | some t =>
    let side := [s.seatAt t.zone t.row (t.position - 1), s.seatAt t.zone t.row (t.position + 1)]
    let ahead := [s.seatAt t.zone (t.row - 1) t.position, s.seatAt t.zone (t.row + 1) t.position]
    match s.zone? t.zone with
    | none => []
    | some z =>
      match z.spacing with
      | .none => []
      | .side => side.filterMap id
      | .cross => (side ++ ahead).filterMap id

/-- Whether a seat is HELD, OCCUPIED or VACATED. -/
def SeatState.inUse : SeatState → Bool
  | .held => true
  | .occupied => true
  | .vacated => true
  | _ => false

/-- Whether a seat holds a paper (R7). A suspect seat is judged by the state and last paper its record
last held (R14). -/
def Seat.holds (t : Seat) (paper : Nat) : Bool := t.state.inUse && t.lastPaper == some paper

/-- Whether spacing holds for a paper at a seat (R7). -/
def State.spacingHolds (s : State) (paper n : Nat) : Bool :=
  (s.neighbours n).all fun m => !((s.seat? m).map (·.holds paper)).getD false

/-- The seat is read with its neighbours, as a spacing test reads them (R7, R177). A neighbour whose own read
fails is marked suspect and judged by what its record last held (R14); the test goes on (log entry 39). -/
def readAround (n : Nat) (s : State) : State := readSeats (n :: s.neighbours n) s

/-- The positions of one row in fill order: odd ones, then even ones (R45). -/
def rowOrder (count : Nat) : List Nat :=
  let ps := (List.range count).map (· + 1)
  ps.filter (· % 2 == 1) ++ ps.filter (· % 2 == 0)

/-- The seats of a zone in fill order (R45). -/
def State.fillOrder (s : State) (z : Nat) : List Nat :=
  (s.rowsOf z).flatMap fun r => (rowOrder r.count).map fun p => r.first + (p - 1)

/-- Whether the desk at an address is ONLINE. -/
def State.online (s : State) (a : Nat) : Bool := (s.desk? a).map (·.state) == some .online

/-- Whether a seat's desk keeps it from the search: no address, or a desk that is not ONLINE (R15). -/
def State.deskWithholds (s : State) (t : Seat) : Bool :=
  match t.desk with
  | none => true
  | some a => !s.online a

/-- Whether a seat is withheld: FREE, and its desk keeps it from the search (R15). -/
def State.withheld (s : State) (t : Seat) : Bool := t.state == .free && s.deskWithholds t

/-! ### The search leaves a zone (R50) -/

/-- A search leaves the zone it is in. -/
def Search.leaveZone (q : Search) : Search :=
  if q.entered then { q with zones := q.zones.tail, entered := false } else q

/-- A search under way when every zone becomes undefined: the zone it is in yields no further seat, nor a
place it had found there (R50, log entry 41). -/
def Stage.zonesGone : Stage → Stage
  | .searching q => .searching q.leaveZone
  | .found _ _ _ q => .searching q.leaveZone
  | .preplaced n => .preplaced n
  | .noSeat => .noSeat

/-- The Seat Allocator's search learns that every zone has become undefined (R18, R50). -/
def leaveZones (s : State) : State :=
  { s with sal := { s.sal with serving := s.sal.serving.map fun a => { a with stage := a.stage.zonesGone } } }

/-! ### Desk records follow the addresses seats name (R101) -/

/-- A desk record as it is made when a seat comes to name its address (R101). -/
def Desk.initial : Desk :=
  { state := .offline, cause := none, announced := false, misses := 3, resample := false, ack := false, expected := false,
    levels := .none, presses := [], longPress := none, window := none, override := none,
    feedback := none, warning := none, lamp := .dark }

/-- The addresses that seats name, in seat order. -/
def State.addresses (s : State) : List Nat := s.hmu.seats.filterMap fun e => e.2.desk

/-- The address polled last in this round, as the poll list changes: an address listed on an empty list with no
exchange on the bus begins a new round (R102). -/
def Dbc.polledAs (d : Dbc) (listed : Table Desk) : Option Nat :=
  if d.desks.isEmpty && d.exchange.isNone && !listed.isEmpty then none else d.polled

/-- The desk table follows the addresses that seats name: a record no seat names any longer becomes
UNUSED, and its awaited reply is discarded; a newly named address gets a new OFFLINE record (R101). -/
def syncDesks (s : State) : State :=
  let named := s.addresses
  let kept := s.dbc.desks.filter fun e => named.contains e.1
  let desks := named.foldl (fun (t : Table Desk) a => if (t.find a).isSome then t else t.put a .initial) kept
  let exchange := s.dbc.exchange.map fun x => if named.contains x.address then x else { x with void := true }
  { s with dbc := { s.dbc with desks := desks, exchange := exchange, polled := s.dbc.polledAs desks } }

/-- The seat that names a desk address. -/
def State.seatOfDesk (s : State) (a : Nat) : Option Nat :=
  (s.hmu.seats.find? fun e => e.2.desk == some a).map (·.1)

/-! ### Changes of a seat -/

/-- A seat's entry leaves the call list (R113). -/
def dropCall (n : Nat) (s : State) : State :=
  { s with dbc := { s.dbc with calls := s.dbc.calls.filter fun c => c.seat != n } }

/-- What follows at the desk bus when a seat's record changes: leaving OCCUPIED removes its call list
entry and discards its desk's long-press count (R13, R111, R113); a change of occupant closes its desk's
finish window (R110). -/
def seatChanged (n : Nat) (old new : Seat) (s : State) : State :=
  let left := old.state == .occupied && new.state != .occupied
  let s := if left then dropCall n s else s
  match old.desk with
  | none => s
  | some a =>
    let s := if left then modDesk a (fun d => { d with longPress := none }) s else s
    if old.occupant != new.occupant then modDesk a (fun d => { d with window := none }) s else s

/-- A seat's record is written, with what follows in the same step; a seat that becomes FREE is a retry
trigger (R11). -/
def putSeat (n : Nat) (new : Seat) (s : State) : State :=
  match s.seat? n with
  | none => s
  | some old =>
    let s := { s with hmu := { s.hmu with seats := s.hmu.seats.put n new } }
    let s := seatChanged n old new s
    if new.state == .free && old.state != .free then retryTrigger s else s

/-- Why a request to hold a seat for a paper is refused, if it is (R9). -/
def State.holdRefusal (s : State) (n paper : Nat) (override : Bool) : Option Reason :=
  match s.seat? n with
  | none => some .notFound
  | some t =>
    if t.suspect then some .suspect
    else if t.state != .free then some .wrongState
    else if !override && !s.spacingHolds paper n then some .conflict
    else none

/-- A seat becomes HELD for a candidate (R9). -/
def holdSeat (n slot paper : Nat) (override : Bool) (s : State) : State :=
  match s.seat? n with
  | none => s
  | some t =>
    putSeat n { t with state := .held, occupant := some slot, lastPaper := some paper, override := override } s

/-- A HELD seat becomes OCCUPIED and its used mark is set (R10). -/
def occupySeat (n : Nat) (s : State) : State :=
  match s.seat? n with
  | none => s
  | some t => putSeat n { t with state := .occupied, used := true } s

/-- A seat as its release to FREE leaves it (R11). -/
def Seat.freed (t : Seat) : Seat :=
  { t with state := .free, occupant := none, lastPaper := none, override := false }

/-- A seat as its release to VACATED leaves it (R11). -/
def Seat.vacated (t : Seat) : Seat := { t with state := .vacated, occupant := none }

/-- A HELD seat is released to FREE (R11). -/
def freeSeat (n : Nat) (s : State) : State :=
  match s.seat? n with
  | none => s
  | some t => putSeat n t.freed s

/-- A HELD or OCCUPIED seat is released to VACATED (R11). -/
def vacateSeat (n : Nat) (s : State) : State :=
  match s.seat? n with
  | none => s
  | some t => putSeat n t.vacated s

/-- The old seat of a move as the move leaves it: FREE from HELD, VACATED from OCCUPIED (R12). -/
def Seat.movedAway (t : Seat) : Seat := if t.state == .held then t.freed else t.vacated

/-- Why a move is refused, if it is: the old seat is judged first, then the new seat as a hold, the old
seat counted in the state the move leaves it in (R12). -/
def State.moveRefusal (s : State) (old new slot paper : Nat) (override : Bool) : Option Reason :=
  match s.seat? old with
  | none => some .wrongState
  | some t =>
    if t.suspect then some .suspect
    else if t.occupant != some slot || !(t.state == .held || t.state == .occupied) then some .wrongState
    else if old == new then some .wrongState
    else
      let after := { s with hmu := { s.hmu with seats := s.hmu.seats.put old t.movedAway } }
      after.holdRefusal new paper override

/-- The two seats of a move change (R12). -/
def moveSeats (old new slot paper : Nat) (override : Bool) (s : State) : State :=
  match s.seat? old with
  | none => s
  | some t => holdSeat new slot paper override (putSeat old t.movedAway s)

end Sys2Proof.Machine
end

