-- ==== Sys2Proof/Machine/Rings.lean ====
section
/-! DEFINITION. The Collection Unit's shared operations (chapter 7): rings and joining them (R118,
R119), forming rounds (R123), offers to waiting collectors (R124), returning a round (R125, R131),
emptying a round (R128, R130), booklet figures (R135) and the PAPER COLLECTED test (R136). -/

namespace Sys2Proof.Machine

/-- The fields a round or ring gives for an entry: seat and label, slot, reason, booklets expected
(R123, R137). -/
def State.entryFields (s : State) (e : Entry) : List Field :=
  [u16 e.seat] ++ s.labelFields (some e.seat) ++ [u16 e.slot, u8 e.reason.ctorIdx, u8 e.booklets]

/-- Whether a finish reason sends its entry to the urgent ring (R119). -/
def FinishReason.urgent : FinishReason → Bool
  | .early => true
  | .station => true
  | .withdrawn => true
  | .expired => false
  | .ended => false

/-- The zone of a seat. -/
def State.zoneOfSeat (s : State) (n : Nat) : Nat := ((s.seat? n).map (·.zone)).getD 0

/-- An entry joins the bottom of the ring its reason names, in its seat's zone (R119). -/
def joinRing (e : Entry) (s : State) : State :=
  let z := s.zoneOfSeat e.seat
  let r := s.ringsOf z
  setRings z (if e.reason.urgent then { r with urgent := r.urgent ++ [e] } else { r with main := r.main ++ [e] }) s

/-- A round is formed for a collector from a zone's rings, the urgent ring first, up to its round size,
and its timer is set (R123). -/
def formRound (c z : Nat) (s : State) : State :=
  let k := s.collectorOf c
  let r := s.ringsOf z
  let urgent := r.urgent.take k.size
  let main := r.main.take (k.size - urgent.length)
  let s := setRings z { r with urgent := r.urgent.drop k.size, main := r.main.drop (k.size - urgent.length) } s
  setCollector c { k with state := .round, zone := some z, round := urgent ++ main, timer := some k.timeout } s

/-- What ROUND OFFERED and the TAKE ROUND reply give of a round: its timer and its entries (R123, R124). -/
def State.roundFields (s : State) (c : Nat) : List Field :=
  let k := s.collectorOf c
  o16 k.timer :: listField s.entryFields k.round

/-- Rounds are offered to the collectors of a zone's waiter list, first to last, until its rings are
empty (R124). -/
def offerRounds (z : Nat) : List Nat → State → State
  | [], s => s
  | c :: rest, s =>
    let r := s.ringsOf z
    if r.urgent.isEmpty && r.main.isEmpty then s
    else
      let s := formRound c z (setRings z { r with waiters := rest } s)
      offerRounds z rest (notify .roundOffered ([u8 c, u8 z] ++ s.roundFields c) s)

/-- Entries have joined a ring of a zone: its waiting collectors are offered rounds (R124). -/
def ringJoined (z : Nat) (s : State) : State := offerRounds z (s.ringsOf z).waiters s

/-- The collection entry of a slot whose candidate has a seat (R119). -/
def State.entryOf (s : State) (k : Nat) : Option Entry :=
  match s.slot? k with
  | none => none
  | some x =>
    match x.cand.seat with
    | none => none
    | some n => some ⟨n, k, x.cand.reason.getD .station, x.cand.issued⟩

/-- Finished candidates with a seat are handed to the Collection Unit as one batch in ascending seat
number; when the whole batch is in place, the zones' waiting collectors are offered rounds (R119, R124),
in ascending zone index (log entry 8). -/
def handOff (ks : List Nat) (s : State) : State :=
  let es := sortBy (·.seat) (ks.filterMap s.entryOf)
  let zones := sortBy id (dedup (es.map fun e => s.zoneOfSeat e.seat))
  let s := es.foldl (fun s e => joinRing e s) s
  zones.foldl (fun s z => ringJoined z s) s

/-- A collector's round is over: it is IDLE with round zone, list and timer absent (R125, R128). -/
def Collector.idled (k : Collector) : Collector :=
  { k with state := .idle, zone := none, round := [], timer := none }

/-- A collector with this round list; an empty round makes it IDLE (R128, R130, R134). -/
def Collector.withRound (k : Collector) (l : List Entry) : Collector :=
  if l.isEmpty then k.idled else { k with round := l }

/-- Entries of a round are put back at the top of the urgent ring of its zone, in round order (R125). -/
def putBack (z : Nat) (l : List Entry) (s : State) : State :=
  let r := s.ringsOf z
  setRings z { r with urgent := l ++ r.urgent } s

/-- An entry's booklets expected follow its candidate's booklets issued (R120). -/
def Entry.expecting (k count : Nat) (e : Entry) : Entry :=
  if e.slot == k then { e with booklets := count } else e

/-- The booklets expected of a slot's entry, wherever it lies, become a count (R120, R134). -/
def setExpected (k count : Nat) (s : State) : State :=
  let rings := s.clu.rings.mapAll fun _ r =>
    { r with urgent := r.urgent.map (Entry.expecting k count), main := r.main.map (Entry.expecting k count) }
  let collectors := s.clu.collectors.mapAll fun _ c => { c with round := c.round.map (Entry.expecting k count) }
  { s with clu := { s.clu with rings := rings, collectors := collectors } }

/-- A slot's entry leaves its ring or its collector's round; a collector whose round empties becomes
IDLE (R134). -/
def removeEntry (k : Nat) (s : State) : State :=
  let keep (l : List Entry) : List Entry := l.filter fun e => e.slot != k
  let rings := s.clu.rings.mapAll fun _ r => { r with urgent := keep r.urgent, main := keep r.main }
  let collectors := s.clu.collectors.mapAll fun _ c =>
    if c.state == .round then c.withRound (keep c.round) else c
  { s with clu := { s.clu with rings := rings, collectors := collectors } }

/-- The entry of a slot, in whichever ring or round it lies (R118). -/
def State.findEntry (s : State) (k : Nat) : Option Entry :=
  let inRings := s.clu.rings.flatMap fun e => e.2.urgent ++ e.2.main
  let inRounds := s.clu.collectors.flatMap fun e => e.2.round
  (inRings ++ inRounds).find? fun e => e.slot == k

/-! ### Booklet figures and PAPER COLLECTED -/

/-- The slots of a paper's candidates whose records are not suspect. -/
def State.readable (s : State) (p : Nat) : List (Nat × Slot) :=
  s.rsu.slots.filter fun e => !e.2.suspect && e.2.ofPaper p

/-- The returned total of a paper (R135). DESIGN CHOICE (log entry 70): a candidate repaired as COLLECTED with booklets
returned absent (R181) counts as 0. -/
def State.returnedTotal (s : State) (p : Nat) : Nat :=
  sumOf (((s.readable p).filter fun e => e.2.cand.state == .collected).map fun e => e.2.cand.returned.getD 0)

/-- The discrepancy count of a paper (R135). -/
def State.discrepancies (s : State) (p : Nat) : Nat :=
  ((s.readable p).filter fun e => e.2.cand.state == .collected && e.2.cand.discrepancy).length

/-- Whether a paper's state is the one named. -/
def State.paperIn (s : State) (p : Nat) (st : PaperState) : Bool := (s.paper? p).map (·.state) == some st

/-- A CLOSED paper none of whose candidates is FINISHED sends PAPER COLLECTED (R136). -/
def paperCollectedTest (p : Nat) (s : State) : State :=
  if s.paperIn p .closed then
    let s := readPaper p s
    if (s.readable p).all fun e => e.2.cand.state != .finished then
      notify .paperCollected [u8 p, u16 (s.returnedTotal p), u16 (s.discrepancies p)] s
    else s
  else s

end Sys2Proof.Machine
end

