-- ==== Sys2Proof/Machine/Finishing.lean ====
section
/-! DEFINITION. The Session Unit's shared operations (chapter 5): the hall signal (R98), the clock
arithmetic (R82, R86), paper states (R76), starts (R79, R80), admission closing (R36), finishing
(R84, R96), closing a paper (R87), the clock of an admitted candidate (R83) and the hall hold (R90). -/

namespace Sys2Proof.Machine

/-! ### The hall signal and paper states -/

/-- A pulse is requested; it is not sounded while the hall is held (R98). -/
def requestPulse (s : State) : State :=
  if s.ssu.held then s else { s with ssu := { s.ssu with signal := .pulse 3 } }

/-- A paper's state changes, with notice PAPER STATE (R76). -/
def enterPaperState (p : Nat) (st : PaperState) (s : State) : State :=
  notify .paperState [u8 p, u8 st.ctorIdx, u24 s.htb.time] (modPaper p (fun r => { r with state := st }) s)

/-! ### Clock arithmetic -/

/-- The extended time of a clock from M minutes and an allowance of a percent (R82). -/
def extendedTime (minutes allowance : Nat) : Nat :=
  60 * minutes + (60 * minutes * allowance + 99) / 100

/-- The warning index for a remaining time: the first threshold whose seconds are below it, or the
list's length (R86). -/
def warningIndex (thresholds : List Nat) (remaining : Nat) : Nat :=
  thresholds.findIdx fun t => 60 * t < remaining

def ClockState.isOpen : ClockState → Bool
  | .reading => true
  | .running => true
  | .paused => true
  | .held => true
  | _ => false

/-- A clock written as running or reading, or HELD with that state before hold while the hall is held
(R83). -/
def Clock.underHold (held : Bool) (k : Clock) : Clock :=
  if held then { k with state := .held, before := some k.state } else k

/-- A clock stopped or expired, its state before hold cleared (R84, R88, R96). -/
def Clock.ended (st : ClockState) (k : Clock) : Clock := { k with state := st, before := none }

/-- The READING clock of a candidate (R79). -/
def Clock.readingFor (c : Candidate) : Clock := { Clock.zero with state := .reading, budget := c.breakBudget }

/-- A RUNNING clock of a paper with this extended time, remaining time and budget (R80, R83). -/
def Clock.runningFor (r : Paper) (extended remaining budget : Nat) : Clock :=
  { state := .running, remaining := remaining, extended := some extended, before := none,
    budget := budget, warnIndex := warningIndex r.warnings remaining }

/-- The STOPPED clock with no time left of a candidate (R83, R88). -/
def Clock.stoppedFor (c : Candidate) : Clock := { Clock.zero with state := .stopped, budget := c.breakBudget }

/-- Whether a candidate is in the hall and has not finished: WAITING, ADMITTED or SEATED. -/
def CandidateState.present : CandidateState → Bool
  | .waiting => true
  | .admitted => true
  | .seated => true
  | _ => false

/-! ### Finishing -/

/-- The Roster Unit reports a candidate's entry into FINISHED: the EARLY SHEET entries of its number are
queued for retry (R23, R163). -/
def queueRetries (p : SheetException → Bool) (s : State) : State :=
  { s with mru := { s.mru with
      exceptions := s.mru.exceptions.map fun e => if p e then { e with queued := true } else e } }

/-- A slot's candidate becomes FINISHED with a reason in one step with its clock (R23, R84, R96). -/
def finishRecord (k : Nat) (reason : FinishReason) (g : Slot → Clock) (s : State) : State :=
  match s.slot? k with
  | none => s
  | some x =>
    let s := modSlot k
      (fun c => { c with state := .finished, reason := some reason, walk := none, source := none }) (fun _ => g x) s
    queueRetries (fun e => e.reason == .earlySheet && e.decNumber == some x.cand.number) s

/-- The candidates of some slots become FINISHED in one step; those without a seat leave the wait list
together (R51, R84, R88). -/
def finishSlots (ks : List Nat) (reason : FinishReason) (g : Slot → Clock) (s : State) : State :=
  leaveTogether ks (ks.foldl (fun s k => finishRecord k reason g s) s)

/-- The candidate of one slot becomes FINISHED (R96). -/
def finishSlot (k : Nat) (reason : FinishReason) (g : Slot → Clock) (s : State) : State :=
  leaveWaitList k (finishRecord k reason g s)

/-- Notice UNSEATED FINISH of a finished slot without a seat (R84). -/
def unseatedNotice (k : Nat) (s : State) : State :=
  match s.slot? k with
  | none => s
  | some x =>
    if x.cand.seat.isSome then s
    else notify .unseatedFinish
      [u16 k, u32 x.cand.number, o8 (x.cand.reason.map (·.ctorIdx))] s

/-- Whether a clock of a paper is open, or a suspect candidate of it has a clock other than NONE (R87). -/
def State.clocksOpen (s : State) (p : Nat) : Bool :=
  s.rsu.slots.any fun x => x.ofPaper p && (if x.suspect then !x.shadow.clockNone else x.clock.state.isOpen)

/-- A paper becomes CLOSED: an END pulse, notice PAPER STATE and the test of R136 (R87). -/
def closePaper (p : Nat) (s : State) : State :=
  paperCollectedTest p (enterPaperState p .closed (requestPulse s))

/-- An OVERTIME paper with no open clock left becomes CLOSED (R87). -/
def closeIfSettled (p : Nat) (s : State) : State :=
  if s.paperIn p .overtime then
    let s := readPaper p s
    if s.clocksOpen p then s else closePaper p s
  else s

/-- The papers of some slots, ascending. -/
def State.papersOf (s : State) (ks : List Nat) : List Nat :=
  sortBy id (dedup (ks.filterMap fun k => (s.slot? k).map (·.cand.paper)))

/-- The candidates of some slots, in ascending slot order, are finished together with reason EXPIRED,
with the notices in the order of R84. -/
def expireSlots (ks : List Nat) (s : State) : State :=
  let papers := s.papersOf ks
  let s := finishSlots ks .expired (fun x => x.clock.ended .expired) s
  let s := ks.foldl (fun s k => unseatedNotice k s) s
  let count (s : State) (p : Nat) : Nat :=
    (ks.filter fun k => (s.slot? k).map (·.cand.paper) == some p).length
  let s := papers.foldl (fun s p => notify .expired [u8 p, u16 (count s p)] s) s
  let s := handOff ks s
  papers.foldl (fun s p => closeIfSettled p s) s

/-- An accepted finish of a slot, with its notices in the order of R96. -/
def acceptFinish (k : Nat) (reason : FinishReason) (s : State) : State :=
  match s.slot? k with
  | none => s
  | some x =>
    let s := finishSlot k reason (fun x => x.clock.ended .stopped) s
    let s := notify .finished
      ([u16 k] ++ s.labelFields x.cand.seat ++ [u8 reason.ctorIdx, u16 x.clock.remaining]) s
    let s := unseatedNotice k s
    let s := handOff [k] s
    closeIfSettled x.cand.paper s

/-! ### Admission and starts -/

/-- Admission to a paper closes: its EXPECTED candidates with no admission in progress become ABSENT, with
notice ABSENT (R36). A suspect record is passed over. -/
def closeAdmission (p : Nat) (s : State) : State :=
  let s := readPaper p s
  let ks := ((s.readable p).filter fun e => e.2.cand.state == .expected && e.2.cand.source.isNone).map (·.1)
  let s := modPaper p (fun r => { r with admClosed := true }) s
  let s := ks.foldl (fun s k => modCand k (fun c => { c with state := .absent }) s) s
  notify .absent [u8 p, u16 ks.length] s

/-- The slots of some candidates each get a clock made from their record. -/
def giveClocks (g : Slot → Clock) (ks : List Nat) (s : State) : State :=
  ks.foldl (fun s k =>
    match s.slot? k with
    | none => s
    | some x => modClock k (fun _ => g x) s) s

/-- The reading start of a paper (R79). It reads the paper's candidates (log entry 15). -/
def readingStart (p : Nat) (s : State) : State :=
  let s := readPaper p s
  let ks := ((s.readable p).filter fun e => e.2.cand.state.present && e.2.clock.state == .none).map (·.1)
  let s := modPaper p (fun r => { r with readingLeft := 60 * r.reading }) s
  enterPaperState p .reading (giveClocks (fun x => Clock.readingFor x.cand) ks s)

/-- The clock of a slot at its paper's writing start: a READING clock, or on a paper with no reading time a
NONE clock of a candidate in the hall, becomes RUNNING with its full extended time (R80). -/
def startedClock (r : Paper) (x : Slot) : Clock :=
  let e := extendedTime r.duration x.cand.allowance
  if x.clock.state == .reading then Clock.runningFor r e e x.clock.budget
  else if x.clock.state == .none && r.reading == 0 && x.cand.state.present then
    Clock.runningFor r e e x.cand.breakBudget
  else x.clock

/-- The writing start of a paper (R80). It reads the paper's candidates (log entry 15). With a late-entry limit of 0
notice PAPER STATE joins before ABSENT (log entry 32). -/
def writingStart (p : Nat) (s : State) : State :=
  match s.paper? p with
  | none => s
  | some r =>
    let s := readPaper p s
    let ks := (s.readable p).map (·.1)
    let s := modPaper p (fun r => { r with elapsed := 0, readingLeft := 0 }) s
    let s := giveClocks (startedClock r) ks s
    let s := requestPulse (enterPaperState p .writing s)
    if r.late == 0 then closeAdmission p s else s

/-- A paper starts: its reading start, or its writing start if it has no reading time (R77, R78). -/
def makeStart (p : Nat) (s : State) : State :=
  match s.paper? p with
  | none => s
  | some r => if r.reading == 0 then writingStart p s else readingStart p s

/-! ### The clock of an admitted candidate -/

/-- The Session Unit gives an admitted candidate a clock according to the paper's state (R83). -/
def giveClock (k : Nat) (s : State) : State :=
  match s.slot? k with
  | none => s
  | some x =>
    match s.paper? x.cand.paper with
    | none => s
    | some r =>
      match r.state with
      | .defined => s
      | .admitting => s
      | .reading => modClock k (fun _ => (Clock.readingFor x.cand).underHold s.ssu.held) s
      | .writing => giveRunning x r s
      | .overtime => giveRunning x r s
      | .closed =>
        let s := finishSlot k .ended (fun x => Clock.stoppedFor x.cand) s
        handOff [k] (unseatedNotice k s)
where
  /-- A RUNNING clock with the time left, HELD under a hold, or one EXPIRED at once if none is left (R83), under a
  hold too (log entry 54). -/
  giveRunning (x : Slot) (r : Paper) (s : State) : State :=
    let extended := extendedTime r.duration x.cand.allowance
    let clock := Clock.runningFor r extended (extended - r.elapsed) x.cand.breakBudget
    if clock.remaining == 0 then expireSlots [k] (modClock k (fun _ => clock) s)
    else modClock k (fun _ => clock.underHold s.ssu.held) s

/-! ### The hall hold -/

/-- The set of sources in a notice or reply (R90): two flags, station then contact (the model's layout, log entry
9). -/
def State.sourceFields (s : State) : List Field := [flag s.ssu.srcStation, flag s.ssu.srcContact]

/-- A clock as a hold leaves it (R90). -/
def Clock.holdNow (k : Clock) : Clock :=
  match k.state with
  | .reading => { k with state := .held, before := some .reading }
  | .running => { k with state := .held, before := some .running }
  | .paused => { k with state := .held, before := some .paused }
  | _ => k

/-- A hold is raised by the station or by the contact (R90). -/
def raiseHold (contact : Bool) (s : State) : State :=
  let s :=
    if s.ssu.held then
      { s with ssu := { s.ssu with
          srcStation := s.ssu.srcStation || !contact, srcContact := s.ssu.srcContact || contact } }
    else
      let s := readSlots s
      { s with
        ssu := { s.ssu with held := true, srcStation := !contact, srcContact := contact, holdLength := 0,
                            signal := .hold true }
        rsu := { s.rsu with slots := s.rsu.slots.mapAll fun _ x =>
                   if x.suspect then x else .write x.cand x.clock.holdNow x.suspect } }
  notify .held s.sourceFields s

end Sys2Proof.Machine
end

