-- ==== Sys2Proof/Machine/Roster.lean ====
section
/-! DEFINITION. The Roster Unit (chapter 2): LOAD CANDIDATES entries (R25, R26), the station's roster
requests (R27, R37, R39, R120), the admission checks (R29), door cards and answers (R28), and PRESENT
presses (R34). -/

namespace Sys2Proof.Machine

/-! ### Loading the roster -/

/-- Whether a number given is outside a limit; an absent one is not. -/
def beyond (limit : Nat) : Option Nat → Bool
  | none => false
  | some n => limit < n

/-- Whether admission to a paper has closed, as R26 tests it for a new record. -/
def Paper.admissionPast (r : Paper) : Bool :=
  r.state == .writing && (r.late == 0 || 60 * r.late ≤ r.elapsed)

/-- The record a LOAD CANDIDATES entry writes (R26). -/
def loadedCandidate (number paper : Nat) (cls : CandidateClass) (allowance : Nat)
    (breakMinutes booklets preplaced : Option Nat) (r : Paper) : Candidate :=
  { number := number, paper := paper, cls := cls, allowance := min allowance 100,
    breakBudget := 60 * min (breakMinutes.getD r.breakDefault) 60, preplaced := preplaced,
    state := if r.admissionPast then .absent else .expected,
    seat := none, lastSeat := none, source := none, admTime := none, walk := none, reason := none,
    issued := min (booklets.getD r.bookletDefault) 8, returned := none, discrepancy := false }

/-- A used slot's record may be rewritten by a LOAD CANDIDATES entry: EXPECTED with no admission in
progress (R25, check 5). -/
def Slot.rewritable (x : Slot) : Bool := x.cand.state == .expected && x.cand.source.isNone

/-- A candidate record and clock are written whole into a slot (R26, R177). -/
def writeSlot (k : Nat) (c : Candidate) (g : Clock) (s : State) : State :=
  mendRecord (.candidate k) { s with rsu := { s.rsu with slots := s.rsu.slots.put k (.write c g false) } }

/-- One LOAD CANDIDATES entry (R25, R26). The slot's record is rewritten whole without being read (R177): check 4 looks at
the mark the slot has and check 5 at the state and source the record last held, so no entry finds a wrong bit (log entry
68). -/
def takeCandidateEntry (slot number paper cls allowance : Nat) (breakMinutes booklets preplaced : Option Nat)
    (s : State) : State × Answer :=
  match CandidateClass.ofCode cls with
  | none => (s, .no .badValue)
  | some c =>
    if Config.slotCount ≤ slot || Config.maxNumber < number || Config.paperCount ≤ paper
        || beyond 511 preplaced then (s, .no .badValue)
    else match s.paper? paper with
      | none => (s, .no .notFound)
      | some r =>
        if r.state == .overtime || r.state == .closed then (s, .no .wrongState)
        else
          let x := s.slot? slot
          if x.map (·.suspect) == some true then (s, .no .suspect)
          else if x.map (·.rewritable) == some false then (s, .no .wrongState)
          else if List.any s.rsu.slots fun e => e.1 != slot && e.2.shadow.number == some number then
            (s, .no .duplicate)
          else
            let new := loadedCandidate number paper c allowance breakMinutes booklets preplaced r
            let clamped := 100 < allowance || beyond 60 breakMinutes || beyond 8 booklets
            (writeSlot slot new .zero s, .doneOr clamped [u8 new.state.ctorIdx])

/-! ### Station requests -/

/-- Whether a candidate's part in the sitting is over: FINISHED, COLLECTED, ABSENT or WITHDRAWN. -/
def CandidateState.over : CandidateState → Bool
  | .finished => true
  | .collected => true
  | .absent => true
  | .withdrawn => true
  | _ => false

/-- SET ALLOWANCE (R27). -/
def takeSetAllowance (number allowance : Nat) (s : State) : Response :=
  withCandidate number s fun k x s =>
    if x.cand.state.over || !(x.clock.state == .none || x.clock.state == .reading) then refuse s .wrongState
    else doneOr (100 < allowance) (modCand k (fun c => { c with allowance := min allowance 100 }) s) []

/-- A candidate becomes WITHDRAWN; a WAITING one leaves the wait list, an ADMITTED one gives its HELD seat
back (R37). -/
def withdrawBefore (k : Nat) (x : Slot) (s : State) : State :=
  let s := modCand k (fun c => { c with state := .withdrawn, seat := none, walk := none }) s
  let s := leaveWaitList k s
  match x.cand.seat with
  | none => s
  | some n => freeSeat n s

/-- WITHDRAW (R37). The held seat of an ADMITTED candidate with clock NONE may refuse its release, SUSPECT or WRONG
STATE (R11, R23): nothing is changed then, and the request is answered with that reason (log entry 59). -/
def takeWithdraw (number : Nat) (s : State) : Response :=
  withCandidate number s fun k x s =>
    if x.cand.source.isSome then refuse s .busy
    else if x.cand.state == .expected then done (withdrawBefore k x s) []
    else if !x.cand.state.present then refuse s .wrongState
    else if x.clock.state != .none then done (acceptFinish k .withdrawn s) []
    else match x.cand.state, x.cand.seat with
      | .seated, _ => refuse s .wrongState
      | .admitted, some n =>
        let s := readSeat n s
        if (s.seat? n).map (·.suspect) == some true then refuse s .suspect
        else if (s.seat? n).map (·.state) != some .held then refuse s .wrongState
        else done (withdrawBefore k x s) []
      | _, _ => done (withdrawBefore k x s) []

/-- A seat number with its label alongside, or their absence (R39). -/
def State.seatWithLabel (s : State) (n : Option Nat) : List Field := o16 n :: s.labelFields n

/-- The fields of a clock in a reply: state, remaining, extended, budget (R39). -/
def Clock.fields (k : Clock) : List Field :=
  [u8 k.state.ctorIdx, u16 k.remaining, o16 k.extended, u16 k.budget]

/-- QUERY CANDIDATE (R39): the record's fields in the order of R21, the wait list position, the clock. -/
def takeQueryCandidate (number : Nat) (s : State) : Response :=
  withCandidate number s fun k x s =>
    let c := x.cand
    let at_ := positionOf k s.sal.wait
    done s ([u16 k, u32 c.number, u8 c.paper, u8 c.cls.ctorIdx, u8 c.allowance, u16 c.breakBudget]
      ++ s.seatWithLabel c.preplaced ++ [u8 c.state.ctorIdx] ++ s.seatWithLabel c.seat
      ++ s.seatWithLabel c.lastSeat
      ++ [o8 (c.source.map (·.ctorIdx)), o24 c.admTime, o16 c.walk, o8 (c.reason.map (·.ctorIdx)),
          u8 c.issued, o8 c.returned, flag c.discrepancy, flag x.suspect, flag at_.isSome, o8 at_]
      ++ x.clock.fields)

/-- SET BOOKLETS (R120). -/
def takeSetBooklets (number count : Nat) (s : State) : Response :=
  withCandidate number s fun k x s =>
    if x.cand.state == .collected || x.cand.state == .absent || x.cand.state == .withdrawn then
      refuse s .wrongState
    else
      let n := min count 8
      let s := modCand k (fun c => { c with issued := n }) s
      doneOr (8 < count) (if x.cand.state == .finished then setExpected k n s else s) [u8 n]

/-! ### Admission -/

/-- Whether a paper admits candidates now (R29, check 5b). -/
def Paper.admits (r : Paper) : Bool :=
  r.state == .admitting || r.state == .reading || (r.state == .writing && r.elapsed < 60 * r.late)

/-- The admission checks for a number: the slot, or the door reason and the reply reason of the first
check that fails (R29). -/
def State.admissionChecks (s : State) (number : Nat) : Except (DoorReason × Reason) Nat :=
  match s.slotOf number with
  | none => .error (.unknown, .notFound)
  | some k =>
    match s.slot? k with
    | none => .error (.unknown, .notFound)
    | some x =>
      if x.suspect then .error (.suspect, .suspect)
      else if !x.rewritable then .error (.wrongState, .wrongState)
      else if s.ssu.held then .error (.hallHeld, .hallHeld)
      else match s.paper? x.cand.paper with
        | none => .error (.notOpen, .wrongState)
        | some r =>
          if r.state == .defined then .error (.notOpen, .wrongState)
          else if r.admits then .ok k
          else .error (.closed, .tooLate)

/-- The candidate record a number finds is read (R177). -/
def readNumber (number : Nat) (s : State) : State :=
  match s.slotOf number with
  | none => s
  | some k => readSlot k s

/-- ADMIT (R29, R30): refused, or placed at the arbiter as the station's allocation request. -/
def takeAdmit (number : Nat) (s : State) : Response :=
  if Config.maxNumber < number then refuse s .badValue
  else
    let s := readNumber number s
    match s.admissionChecks number with
    | .error (_, r) => refuse s r
    | .ok k =>
      let s := modCand k (fun c => { c with source := some .station }) s
      ({ s with sal := { s.sal with reqStation := some (.allocation k) } }, none)

/-! ### Door ports -/

def State.port (s : State) (door : Nat) : Port := if door = 0 then s.rsu.door0 else s.rsu.door1

def setPort (door : Nat) (p : Port) (s : State) : State :=
  if door = 0 then { s with rsu := { s.rsu with door0 := p } }
  else { s with rsu := { s.rsu with door1 := p } }

def DoorAnswer.code : DoorAnswer → Nat
  | .seat _ => 0
  | .wait => 1
  | .refused _ => 2
  | .busy => 3
  | .readAgain => 4

/-- Notice DOOR ANSWER: door, number read, answer, reason, seat label, slot (R28). It always gives both the reason,
coded as in the door answer frame, and the label, absent but for SEAT (log entry 40). -/
def doorNotice (door number : Nat) (a : DoorAnswer) (s : State) : State :=
  let reason : Nat :=
    match a with
    | .refused r => r.ctorIdx
    | _ => 0
  let label :=
    match a with
    | .seat l => some l
    | _ => none
  notify .doorAnswer ([u8 door, u32 number, u8 a.code, u8 reason] ++ labelFields label
    ++ [o16 (s.slotOf number)]) s

/-- A port answers its outstanding card and becomes IDLE; the answer is reported (R28, R30). -/
def answerDoor (door : Nat) (a : DoorAnswer) (s : State) : State :=
  match (s.port door).card with
  | none => s
  | some number => doorNotice door number a (setPort door ⟨none, some a⟩ s)

/-- A card record arrives at a port (R28, R29, R30); its frame is that of R185. -/
def cardArrives (door : Nat) (frame : List Byte) (s : State) : State :=
  let number := numberOf (frame.take 4)
  let port := s.port door
  if port.card.isSome then doorNotice door number .busy (setPort door { port with out := some .busy } s)
  else if !sumsToZero frame then setPort door { port with out := some .readAgain } s
  else
    let s := readNumber number (setPort door ⟨some number, port.out⟩ s)
    match s.admissionChecks number with
    | .error (r, _) => answerDoor door (.refused r) s
    | .ok k =>
      if door = 0 then
        let s := modCand k (fun c => { c with source := some .door0 }) s
        { s with sal := { s.sal with reqDoor0 := some k } }
      else
        let s := modCand k (fun c => { c with source := some .door1 }) s
        { s with sal := { s.sal with reqDoor1 := some k } }

/-! ### PRESENT presses -/

/-- A candidate's break ends with a PRESENT press (R94). -/
def endBreak (k n : Nat) (s : State) : State :=
  let s := modClock k (fun c => { c with state := .running }) s
  let budget := ((s.slot? k).map (·.clock.budget)).getD 0
  notify .breakEnded ([u16 k] ++ s.labelFields (some n) ++ [u16 budget]) s

/-- A PRESENT press at a seat (R34). The seat and its occupant have been read. `feedback` is what the desk
shows for an unexpected press. -/
def presentPress (n : Nat) (feedback : State → State) (s : State) : State :=
  match s.seat? n with
  | none => s
  | some t =>
    if t.suspect then s
    else match t.state, t.occupant.bind s.slot?, t.occupant with
      | .held, some x, some k =>
        if x.suspect || x.cand.state != .admitted then s
        else modCand k (fun c => { c with state := .seated, walk := none }) (occupySeat n s)
      | .occupied, some x, some k =>
        if !x.suspect && x.clock.state == .paused then endBreak k n s else s
      | .held, _, _ => s
      | .occupied, _, _ => s
      | _, _, _ =>
        feedback (notify .unexpectedPresent (labelFields (some (labelOf t)) ++ [u8 t.state.ctorIdx]) s)

end Sys2Proof.Machine
end

