-- ==== Sys2Proof/Machine/Collection.lean ====
section
/-! DEFINITION. The Collection Unit's requests (chapter 7): collectors (R122, R123, R131), confirmations
(R126 to R129), DEFER (R130), COLLECT DIRECT (R133), round timeouts (R125), repairs (R134) and queries
(R135, R137). -/

namespace Sys2Proof.Machine

/-! ### Collectors and rounds -/

/-- COLLECTOR ON (R122). -/
def takeCollectorOn (c : Nat) (zones : List Nat) (size timeout : Option Nat) (s : State) : Response :=
  if Config.collectorCount ≤ c || zones.isEmpty || !zones.all (· < Config.zoneCount) || !distinct zones then
    refuse s .badValue
  else
    let k := s.collectorOf c
    if k.state == .waiting || k.state == .round then refuse s .wrongState
    else
      let n := size.getD 8
      let t := timeout.getD 300
      let new := { k with state := .idle, zones := zones, size := clampTo 1 12 n, timeout := clampTo 60 1800 t }
      doneOr (new.size != n || new.timeout != t) (setCollector c new s)
        (listField (fun z => [u8 z]) zones ++ [u8 new.size, u16 new.timeout])

/-- TAKE ROUND is accepted: a round is formed, or the collector waits (R123). -/
def giveRound (c z : Nat) (s : State) : State :=
  let s := setCollector c { s.collectorOf c with expired := [] } s
  let r := s.ringsOf z
  if r.urgent.isEmpty && r.main.isEmpty then
    setCollector c { s.collectorOf c with state := .waiting, zone := some z }
      (setRings z { r with waiters := r.waiters ++ [c] } s)
  else formRound c z s

/-- The state of a collector as a field. -/
def State.collectorState (s : State) (c : Nat) : Field := u8 (s.collectorOf c).state.ctorIdx

/-- TAKE ROUND (R123). The reply of a WAITING collector carries its absent timer too (the model's layout, log
entry 9). -/
def takeTakeRound (c z : Nat) (s : State) : Response :=
  if Config.collectorCount ≤ c || Config.zoneCount ≤ z then refuse s .badValue
  else if (s.zone? z).isNone then refuse s .notFound
  else
    let k := s.collectorOf c
    if k.state != .idle then refuse s .wrongState
    else if !k.zones.contains z then refuse s .conflict
    else
      let s := giveRound c z s
      done s (s.collectorState c :: s.roundFields c)

/-- Why an entry or DEFER that names a seat not in the collector's round is refused (R126). -/
def Collector.missing (k : Collector) (seat : Nat) : Reason :=
  if k.expired.contains seat then .roundExpired else .notInRound

/-- The entry of a seat in a collector's round. -/
def Collector.entryAt (k : Collector) (seat : Nat) : Option Entry := k.round.find? fun e => e.seat == seat

/-- A collector without one entry of its round; an empty round makes it IDLE (R128, R130). -/
def Collector.without (k : Collector) (e : Entry) : Collector :=
  k.withRound (k.round.filter fun x => x.slot != e.slot)

/-- DEFER (R130). -/
def takeDefer (c seat : Nat) (s : State) : Response :=
  if Config.collectorCount ≤ c || 511 < seat then refuse s .badValue
  else
    let k := s.collectorOf c
    if k.state == .off then refuse s .wrongState
    else match k.entryAt seat with
      | none => refuse s (k.missing seat)
      | some e =>
        let z := k.zone.getD 0
        let r := s.ringsOf z
        let s := setCollector c (k.without e) (setRings z { r with main := r.main ++ [e] } s)
        let s := ringJoined z s
        done s [s.collectorState c]

/-- A zone's waiter list without a collector. -/
def stopWaiting (c z : Nat) (s : State) : State :=
  let r := s.ringsOf z
  setRings z { r with waiters := r.waiters.filter (· != c) } s

/-- COLLECTOR OFF (R131). The seats put back go as numbers, without labels (log entry 9). -/
def takeCollectorOff (c : Nat) (s : State) : Response :=
  if Config.collectorCount ≤ c then refuse s .badValue
  else
    let k := s.collectorOf c
    let z := k.zone.getD 0
    let t := setCollector c .initial s
    let seats := listField (fun e : Entry => [u16 e.seat]) k.round
    match k.state with
    | .waiting => done (stopWaiting c z t) seats
    | .round => done (ringJoined z (putBack z k.round t)) seats
    | _ => done t seats

/-- A round times out: the entries left go back, and the zone's waiting collectors are offered rounds
(R125). Notice ROUND EXPIRED gives the seats as numbers, without labels (log entry 9). -/
def roundTimesOut (c : Nat) (s : State) : State :=
  let k := s.collectorOf c
  if k.state != .round || k.timer != some 0 then s
  else
    let z := k.zone.getD 0
    let seats := k.round.map (·.seat)
    let s := setCollector c { k.idled with expired := seats } (putBack z k.round s)
    ringJoined z (notify .roundExpired ([u8 c, u8 z] ++ listField (fun n => [u16 n]) seats) s)

/-! ### Collecting scripts -/

/-- A candidate becomes COLLECTED with a count of booklets returned; where it differs from the count expected,
the discrepancy mark is set and notice DISCREPANCY sent. A mark once set is not cleared (R128, R129). -/
def collectCandidate (k expected returned : Nat) (s : State) : State :=
  match s.slot? k with
  | none => s
  | some x =>
    let s := modCand k (fun c => { c with
      state := .collected, seat := none, returned := some returned,
      discrepancy := c.discrepancy || returned != expected }) s
    if returned == expected then s
    else
      let last := if x.cand.seat.isSome then x.cand.lastSeat else none
      notify .discrepancy ([u16 k, u32 x.cand.number, u8 x.cand.paper, o16 last] ++ s.labelFields last
        ++ [u8 expected, u8 returned]) s

/-- Whether a CONFIRM entry's seat or candidate carries the suspect mark, whatever became of the other (R127,
check 4). -/
def State.suspectPair (s : State) (seat slot : Nat) : Bool :=
  ((s.seat? seat).map (·.suspect)).getD false || ((s.slot? slot).map (·.suspect)).getD false

/-- One CONFIRM entry of a collector (R127, R128). The seat is read first and then the candidate, also where the seat is
suspect or becomes so (log entry 15). -/
def takeConfirmEntry (c seat returned : Nat) (s : State) : State × Answer :=
  if 511 < seat then (s, .no .badValue)
  else
    let k := s.collectorOf c
    if k.state == .off then (s, .no .wrongState)
    else match k.entryAt seat with
      | none => (s, .no (k.missing seat))
      | some e =>
        let s := readSlot e.slot (readSeat seat s)
        if s.suspectPair seat e.slot then (s, .no .suspect)
        else match s.seat? seat, s.slot? e.slot with
          | some t, some x =>
            if !(t.state == .held || t.state == .occupied) || x.cand.state != .finished then
              (s, .no .wrongState)
            else
              let n := min returned 8
              let s := vacateSeat seat (setCollector c (k.without e) s)
              let s := collectCandidate e.slot e.booklets n s
              (paperCollectedTest x.cand.paper s,
               .doneOr (8 < returned) [u16 e.slot, u8 e.booklets, u8 n, flag (n != e.booklets)])
          | _, _ => (s, .no .wrongState)

/-- COLLECT DIRECT (R133). -/
def takeCollectDirect (k returned : Nat) (s : State) : Response :=
  if Config.slotCount ≤ k then refuse s .badValue
  else
    let s := readSlot k s
    match s.slot? k with
    | none => refuse s .notFound
    | some x =>
      if x.suspect then refuse s .suspect
      else if x.cand.state != .finished || x.cand.seat.isSome then refuse s .wrongState
      else
        let n := min returned 8
        let t := collectCandidate k x.cand.issued n s
        doneOr (8 < returned) (paperCollectedTest x.cand.paper t)
          [u32 x.cand.number, u8 x.cand.issued, u8 n, flag (n != x.cand.issued)]

/-! ### Repairs -/

/-- The Collection Unit follows a repaired candidate record (R134). -/
def repairReport (k : Nat) (s : State) : State :=
  let seat := (s.slot? k).bind fun x => if x.cand.state == .finished then x.cand.seat else none
  match s.findEntry k, seat with
  | none, some _ => handOff [k] s
  | some e, some n =>
    if e.seat == n then setExpected k (((s.slot? k).map (·.cand.issued)).getD 0) s else removeEntry k s
  | some _, none => removeEntry k s
  | none, none => s

/-! ### Queries -/

/-- Whether booklets are in a candidate's hands: WAITING, ADMITTED, SEATED or FINISHED (R135). -/
def CandidateState.outstanding (c : CandidateState) : Bool := c.present || c == .finished

/-- QUERY RECONCILE (R135). A candidate whose read fails is counted as suspect, and the query is not refused (log
entry 38). A COLLECTED candidate with no booklets returned counts as 0 in the returned total (log entry 70). -/
def takeQueryReconcile (p : Nat) (s : State) : Response :=
  withPaper p s fun r =>
    let s := readSlots s
    let here := s.readable p
    let issued (f : Candidate → Bool) : Nat := sumOf ((here.filter fun e => f e.2.cand).map fun e => e.2.cand.issued)
    let finished (seated : Bool) : Nat :=
      (here.filter fun e => e.2.cand.state == .finished && e.2.cand.seat.isSome == seated).length
    done s [u8 r.state.ctorIdx,
      u16 (issued fun c => c.state.outstanding || c.state == .collected), u16 (s.returnedTotal p),
      u16 (issued fun c => c.state.outstanding), u16 (s.discrepancies p), u16 (finished true),
      u16 (finished false), u16 (s.rsu.slots.count fun x => x.suspect && x.ofPaper p)]

/-- A collector's line in the table QUERY QUEUE carries (R137), its expired seats as numbers, without labels (log
entry 9). -/
def Collector.fields (k : Collector) : List Field :=
  u8 k.state.ctorIdx :: listField (fun z => [u8 z]) k.zones ++ [u8 k.size, u16 k.timeout, o8 k.zone]
    ++ listField (fun n => [u16 n]) k.expired

/-- The collectors in ROUND in a zone, in ascending index, the order that QUERY QUEUE gives them in (R137, log entry
9). -/
def State.roundsIn (s : State) (z : Nat) : List Nat :=
  (List.range Config.collectorCount).filter fun c =>
    (s.collectorOf c).state == .round && (s.collectorOf c).zone == some z

/-- QUERY QUEUE (R137). -/
def takeQueryQueue (z : Nat) (s : State) : Response :=
  if Config.zoneCount ≤ z then refuse s .badValue
  else
    let r := s.ringsOf z
    done s (listField s.entryFields r.urgent ++ listField s.entryFields r.main
      ++ listField (fun c => [u8 c]) r.waiters
      ++ listField (fun c => u8 c :: s.roundFields c) (s.roundsIn z)
      ++ (List.range Config.collectorCount).flatMap fun c => (s.collectorOf c).fields)

end Sys2Proof.Machine
end

