-- ==== Sys2Proof/Machine/Session.lean ====
section
/-! DEFINITION. The station's requests on papers, holds and clocks, as the Session Unit takes them
(chapter 5: R74 to R77, R88 to R97, R100), and the hold contact samples (R89). -/

namespace Sys2Proof.Machine

/-! ### Defining papers -/

/-- A character of a paper's code: A to Z, 0 to 9 or space (R73). -/
def codeChar (c : Nat) : Bool := (65 ≤ c && c ≤ 90) || (48 ≤ c && c ≤ 57) || c == 32

/-- A zone order: 1 to 8 distinct zone indices (R73). -/
def zoneOrderOk (l : List Nat) : Bool :=
  !l.isEmpty && l.length ≤ 8 && l.all (· < Config.zoneCount) && distinct l

/-- Whether numbers ascend strictly. -/
def ascending : List Nat → Bool
  | [] => true
  | [_] => true
  | a :: b :: l => a < b && ascending (b :: l)

/-- Section starts: 1 to 4 ascending numbers beginning at 1 (R73). -/
def sectionsOk (l : List Nat) : Bool := l.head? == some 1 && l.length ≤ 4 && ascending l

/-- The value checks of DEFINE PAPER's fields (R74, check 1). -/
def paperFieldsOk (f : PaperFields) : Bool :=
  f.code.length == 6 && f.code.all codeChar && f.form < Config.formCount
    && 1 ≤ f.versions && f.versions ≤ 4 && f.reading ≤ 30 && 10 ≤ f.duration && f.duration ≤ 360
    && f.blackFirst ≤ 60 && f.blackLast ≤ 30 && f.penalty ≤ 32
    && (match f.scheduled with | none => true | some t => t < Config.daySeconds)
    && zoneOrderOk f.zoneOrder && sectionsOk f.sections

/-- The last section start (R74, check 3). -/
def lastSection (l : List Nat) : Nat := l.getLast?.getD 1

/-- The most minutes a late-entry limit may have (R74). -/
def lateMost (f : PaperFields) : Nat := min 60 (f.duration / 2)

/-- The record DEFINE PAPER writes, with the thresholds kept (R74). -/
def paperRecord (f : PaperFields) (warnings : List Nat) : Paper :=
  { code := f.code, form := f.form, versions := f.versions, reading := f.reading, duration := f.duration,
    late := min f.late (lateMost f), blackFirst := f.blackFirst, blackLast := f.blackLast,
    breakDefault := min f.breakDefault 60, bookletDefault := min f.bookletDefault 8,
    walk := clampTo 30 900 (f.walk.getD 240), zoneOrder := f.zoneOrder,
    warnings := warnings.filter (· < f.duration), scheduled := f.scheduled, penalty := f.penalty,
    multipleWrong := f.multipleWrong, sections := f.sections, state := .defined, startPending := false,
    readingLeft := 0, elapsed := 0, admClosed := false }

/-- Whether DEFINE PAPER clamps a value (R74). -/
def paperClamps (f : PaperFields) : Bool :=
  lateMost f < f.late || 60 < f.breakDefault || 8 < f.bookletDefault
    || clampTo 30 900 (f.walk.getD 240) != f.walk.getD 240

/-- The keys of some versions of a paper are removed, their generations kept; a staging key for one of
them is cleared, whether or not a key stood there (R157, R158, log entry 53). -/
def removeKeys (p : Nat) (affected : Nat → Bool) (s : State) : State :=
  let keys := s.mru.keys.mapAll fun i (k : KeySlot) =>
    if i / 4 == p && affected (i % 4) then { k with key := none } else k
  let staging := s.mru.staging.filter fun g => !(g.paper == p && affected g.version)
  { s with mru := { s.mru with keys := keys, staging := staging } }

/-- The Mark Reader Unit is told of a paper's change of form or version count (R74, R157). -/
def paperKeysFollow (p : Nat) (old new : Paper) (s : State) : State :=
  if old.form != new.form then removeKeys p (fun _ => true) s
  else if new.versions < old.versions then removeKeys p (fun v => new.versions ≤ v) s
  else s

def putPaper (p : Nat) (r : Paper) (s : State) : State :=
  { s with ssu := { s.ssu with papers := s.ssu.papers.put p r } }

/-- DEFINE PAPER (R74). -/
def takeDefinePaper (p : Nat) (f : PaperFields) (s : State) : Response :=
  if Config.paperCount ≤ p || !paperFieldsOk f then refuse s .badValue
  else match s.mru.forms.find f.form with
    | none => refuse s .notFound
    | some questions =>
      if questions < lastSection f.sections then refuse s .badValue
      else match s.paper? p with
        | none => doneOr (paperClamps f) (putPaper p (paperRecord f []) s) []
        | some old =>
          if old.state != .defined then refuse s .wrongState
          else
            let new := paperRecord f old.warnings
            let s := paperKeysFollow p old new (putPaper p new s)
            let s := if old.zoneOrder != new.zoneOrder then retryTrigger s else s
            doneOr (paperClamps f || new.warnings != old.warnings) s []

/-- SET ZONE ORDER (R75). -/
def takeSetZoneOrder (p : Nat) (order : List Nat) (s : State) : Response :=
  if !zoneOrderOk order then refuse s .badValue
  else withPaper p s fun r =>
    let t := modPaper p (fun r => { r with zoneOrder := order }) s
    done (if r.zoneOrder != order then retryTrigger t else t) []

/-- Numbers in descending order. -/
def descending (l : List Nat) : List Nat := (sortBy id l).reverse

/-- SET WARNINGS (R75), of 0 to 4 thresholds: a record of more is BAD RECORD (R168, R183). A paper index outside 0
to 15 is refused BAD VALUE (log entry 47). -/
def takeSetWarnings (p : Nat) (thresholds : List Nat) (s : State) : Response :=
  if !thresholds.all (fun t => 1 ≤ t && t ≤ 60) || !distinct thresholds then
    refuse s .badValue
  else withPaper p s fun r =>
    if r.state == .writing || r.state == .overtime || r.state == .closed then refuse s .wrongState
    else
      let kept := thresholds.filter (· < r.duration)
      doneOr (kept.length < thresholds.length) (modPaper p (fun r => { r with warnings := descending kept }) s) []

/-! ### Paper states -/

/-- OPEN PAPER (R77). -/
def takeOpenPaper (p : Nat) (s : State) : Response :=
  withPaper p s fun r =>
    if r.state != .defined then refuse s .wrongState else done (enterPaperState p .admitting s) []

/-- START PAPER (R77). -/
def takeStartPaper (p : Nat) (s : State) : Response :=
  withPaper p s fun r =>
    if r.state != .admitting then refuse s .wrongState
    else if s.ssu.held then refuse s .hallHeld
    else
      let s := makeStart p s
      done s [o8 ((s.paper? p).map (·.state.ctorIdx))]

/-- The clock of a slot as END PAPER stops it: an open clock keeps its remaining time, a NONE clock of a
candidate in the hall is given as STOPPED with none (R88, steps 1 and 2). -/
def endedClock (x : Slot) : Clock :=
  if x.clock.state.isOpen then x.clock.ended .stopped else Clock.stoppedFor x.cand

/-- Whether END PAPER stops a slot: its clock is open, or it is NONE and the candidate is in the hall. -/
def Slot.endsNow (x : Slot) : Bool :=
  x.clock.state.isOpen || (x.clock.state == .none && x.cand.state.present)

/-- The slots of a paper that END PAPER stops and finishes with reason ENDED (R88). -/
def finishEnded (ks : List Nat) (s : State) : State :=
  finishSlots ks .ended endedClock s

/-- END PAPER (R88), its notices in the order the rule gives. It reads the candidates of the paper, after its WRONG
STATE (log entry 15). -/
def takeEndPaper (p : Nat) (s : State) : Response :=
  withPaper p s fun r =>
    if r.state == .closed then refuse s .wrongState
    else
      let s := readPaper p s
      if s.rsu.slots.any fun x => x.suspect && x.ofPaper p then refuse s .suspect
      else
        let ks := ((s.readable p).filter fun e => e.2.endsNow).map (·.1)
        let s := finishEnded ks s
        let s := ks.foldl (fun s k => unseatedNotice k s) s
        let s := handOff ks s
        let s := modPaper p (fun r => { r with startPending := false }) (requestPulse s)
        let s := enterPaperState p .closed s
        let s := if r.admClosed then s else closeAdmission p s
        let s := notify .ended [u8 p, u16 ks.length] s
        done (paperCollectedTest p s) [u16 ks.length]

/-! ### The hall hold and the contact -/

/-- HOLD (R90). -/
def takeHold (s : State) : Response :=
  let s := raiseHold false s
  done s s.sourceFields

/-- A HELD clock returns to its state before hold (R91). -/
def Clock.releaseNow (k : Clock) : Clock :=
  if k.state == .held then { k with state := k.before.getD .running, before := none } else k

/-- RELEASE (R91). -/
def takeRelease (s : State) : Response :=
  if !s.ssu.held then refuse s .wrongState
  else if s.ssu.contact then refuse s .contactActive
  else
    let s := readSlots s
    let fields := u16 s.ssu.holdLength :: s.sourceFields
    let s := { s with
      rsu := { s.rsu with slots := s.rsu.slots.mapAll fun _ x =>
                 if x.suspect then x else .write x.cand x.clock.releaseNow x.suspect }
      ssu := { s.ssu with held := false, srcStation := false, srcContact := false, signal := .off } }
    let starts := s.ssu.papers.keysWhere fun r => r.state == .admitting && r.startPending
    let s := starts.foldl (fun s p => makeStart p (modPaper p (fun r => { r with startPending := false }) s)) s
    done (notify .released fields s) [u16 s.ssu.holdLength]

/-- SET CONTACT SENSE (R89). -/
def takeSetContactSense (sense : Nat) (s : State) : Response :=
  match Sense.ofCode sense with
  | none => refuse s .badValue
  | some v => done { s with ssu := { s.ssu with sense := v, quiet := true } } []

/-- A sample of the hold contact finds it active or inactive under the sense (R89): a quiet sample only
writes and reports the level, as a flag (the model's layout, log entry 9); otherwise going active raises a hold,
going inactive sends CONTACT CLEAR. -/
def contactSample (active : Bool) (s : State) : State :=
  let kept := s.ssu.contact
  let t := { s with ssu := { s.ssu with contact := active, quiet := false } }
  if s.ssu.quiet then notify .contactLevel [flag active] t
  else if active && !kept then raiseHold true t
  else if !active && kept then notify .contactClear [] t
  else t

/-! ### Breaks, finishes and added time -/

/-- A seat's BREAK entry leaves the call list (R93, R113). -/
def dropBreakCall (n : Nat) (s : State) : State :=
  { s with dbc := { s.dbc with
      calls := s.dbc.calls.filter fun c => !(c.seat == n && c.reason == .breakRequest) } }

/-- BREAK GRANT (R93). -/
def takeBreakGrant (number : Nat) (s : State) : Response :=
  withCandidate number s fun k x s =>
    if x.cand.state != .seated || x.clock.state != .running then refuse s .wrongState
    else if x.clock.budget == 0 then refuse s .budget
    else
      let s := modClock k (fun c => { c with state := .paused }) s
      let s := match x.cand.seat with
        | none => s
        | some n => dropBreakCall n s
      done s [u16 x.clock.budget]

/-- Whether a clock of a paper is inside blackout (R95). -/
def insideBlackout (r : Paper) (k : Clock) : Bool :=
  r.elapsed < 60 * r.blackFirst || k.remaining ≤ 60 * r.blackLast

/-- Why a finish request is refused, if it is, for a slot; the blackout concerns desk requests alone
(R95). -/
def State.finishRefusal (s : State) (x : Slot) (desk : Bool) : Option Reason :=
  match x.clock.state with
  | .stopped => some .tooLate
  | .expired => some .tooLate
  | .running => blackout x
  | .paused => blackout x
  | _ => some .wrongState
where
  /-- The refusal of a desk request inside blackout (R95). -/
  blackout (x : Slot) : Option Reason :=
    if desk && ((s.paper? x.cand.paper).map fun r => insideBlackout r x.clock).getD false then some .blackout
    else none

/-- FINISH CANDIDATE (R95, R96). -/
def takeFinishCandidate (number : Nat) (s : State) : Response :=
  withCandidate number s fun k x s =>
    match s.finishRefusal x false with
    | some r => refuse s r
    | none => done (acceptFinish k .station s) [u16 x.clock.remaining]

/-- A clock with minutes added (R97). -/
def Clock.granted (r : Paper) (minutes : Nat) (k : Clock) : Clock :=
  let left := min (k.remaining + 60 * minutes) Config.maxRemaining
  { k with remaining := left, warnIndex := warningIndex r.warnings left }

/-- Whether a clock takes added time: RUNNING or PAUSED, or HELD from one of them (R97). A HELD clock with no state before
hold, which only a repair can make, takes it as one held from RUNNING (log entry 27). -/
def Clock.grantable (k : Clock) : Bool :=
  match k.state with
  | .running => true
  | .paused => true
  | .held => k.before != some .reading
  | _ => false

/-- GRANT TIME (R97). BAD VALUE is for the minutes alone: a number outside its range is held by no used slot, and so
NOT FOUND (R184). -/
def takeGrantTime (number minutes : Nat) (s : State) : Response :=
  if minutes < 1 || 30 < minutes then refuse s .badValue
  else withHolder number s fun k x s =>
    match s.paper? x.cand.paper with
    | none => refuse s .wrongState
    | some r =>
      if r.state == .closed || x.clock.state == .stopped || x.clock.state == .expired then refuse s .tooLate
      else if !x.clock.grantable then refuse s .wrongState
      else
        let new := x.clock.granted r minutes
        doneOr (Config.maxRemaining < x.clock.remaining + 60 * minutes) (modClock k (fun _ => new) s)
          [u16 new.remaining]

/-! ### QUERY PAPER -/

/-- The fields of a paper record, in the order of R73. -/
def Paper.fields (r : Paper) : List Field :=
  r.code.map u8
    ++ [u8 r.form, u8 r.versions, u8 r.reading, u16 r.duration, u8 r.late, u8 r.blackFirst, u8 r.blackLast,
        u8 r.breakDefault, u8 r.bookletDefault, u16 r.walk]
    ++ listField (fun z => [u8 z]) r.zoneOrder ++ listField (fun t => [u8 t]) r.warnings
    ++ [o24 r.scheduled, u8 r.penalty, flag r.multipleWrong] ++ listField (fun q => [u8 q]) r.sections
    ++ [u8 r.state.ctorIdx, flag r.startPending, u16 r.readingLeft, u16 r.elapsed, flag r.admClosed]

/-- QUERY PAPER (R100). A candidate whose read fails is marked suspect and left out of the counts, and the query
is not refused (log entry 38). A cursor goes in 2 bytes (log entry 9). -/
def takeQueryPaper (p : Nat) (s : State) : Response :=
  withPaper p s fun r =>
    let s := readSlots s
    let here := s.readable p
    let inState (i : Nat) : Nat := (here.filter fun e => e.2.cand.state.ctorIdx == i).length
    let inClock (i : Nat) : Nat := (here.filter fun e => e.2.clock.state.ctorIdx == i).length
    done s (r.fields ++ (List.range 8).map (fun z => u16 (s.cursorOf p z))
      ++ (List.range 8).map (fun i => u16 (inState i)) ++ (List.range 7).map (fun i => u16 (inClock i)))

end Sys2Proof.Machine
end

