-- ==== Sys2Proof/Machine/DeskBus.lean ====
section
/-! DEFINITION. The Desk Bus Controller (chapter 6): polls and exchanges (R102, R103), replies (R104,
R106), misses (R105), presses (R107, R109 to R111), the call list (R112, R113), lamps (R114 to R116) and
the station's requests on them (R108, R113, R116). -/

namespace Sys2Proof.Machine

/-! ### Lamps -/

/-- What a seat's occupant's clock and state make of its lamp (R114, lines 6 and 7). -/
def Slot.lamp (x : Slot) : Option Pattern :=
  if x.suspect then none
  else if x.clock.state == .paused || (x.clock.state == .held && x.clock.before == some .paused) then
    some ⟨.amber, .steady⟩
  else if x.cand.state == .finished then some ⟨.red, .steady⟩
  else none

/-- What a seat makes of its lamp (R114, lines 6 to 10). -/
def State.seatLamp (s : State) (t : Seat) : Pattern :=
  match (t.occupant.bind s.slot?).bind Slot.lamp, t.state with
  | some p, _ => p
  | none, .held => ⟨.green, .slow⟩
  | none, .occupied => ⟨.green, .steady⟩
  | none, _ => .dark

/-- The pattern a desk's lamp should show: the lamp pending of R101, derived by the table of R114. -/
def State.lampPending (s : State) (a : Nat) : Pattern :=
  match s.desk? a, (s.seatOfDesk a).bind s.seat? with
  | some d, some t =>
    if t.suspect then ⟨.amber, .fast⟩
    else match d.override, d.feedback, d.window, d.warning with
      | some i, _, _, _ => i.pattern
      | none, some i, _, _ => i.pattern
      | none, none, some _, _ => ⟨.red, .fast⟩
      | none, none, none, some _ => ⟨.amber, .slow⟩
      | none, none, none, none => s.seatLamp t
  | _, _ => .dark

/-- Feedback at a desk, replacing any already set (R114). -/
def setFeedback (a : Nat) (p : Pattern) (seconds : Nat) (s : State) : State :=
  modDesk a (fun d => { d with feedback := some ⟨p, seconds⟩ }) s

/-- A fired warning reaches the desk of the candidate's seat (R86, R114). -/
def fireWarning (n : Nat) (s : State) : State :=
  match (s.seat? n).bind (·.desk) with
  | none => s
  | some a => modDesk a (fun d => { d with warning := some 60 }) s

/-- SET LAMP (R116). -/
def takeSetLamp (seat colour cadence duration : Nat) (s : State) : Response :=
  match Colour.ofCode colour, Cadence.ofCode cadence with
  | some c, some d =>
    if 511 < seat || duration < 1 || 600 < duration then refuse s .badValue
    else
      let s := readSeat seat s
      match s.seat? seat with
      | none => refuse s .notFound
      | some t =>
        if t.suspect then refuse s .suspect
        else match t.desk with
          | none => refuse s .wrongState
          | some a => done (modDesk a (fun r => { r with override := some ⟨⟨c, d⟩, duration⟩ }) s) []
  | _, _ => refuse s .badValue

/-! ### The call list -/

/-- Notices CALL and CALL LIST FULL: the seat label and a reason (R112). -/
def callNotice (kind : NoticeKind) (n : Nat) (r : CallReason) (s : State) : State :=
  notify kind (s.labelFields (some n) ++ [u8 r.ctorIdx]) s

/-- A call of a seat, its reason become CALL (R112). -/
def Call.upgraded (n : Nat) (c : Call) : Call := if c.seat == n then { c with reason := .call } else c

/-- An entry is offered to the call list by the desk at an address (R112). -/
def offerCall (a n : Nat) (r : CallReason) (s : State) : State :=
  if s.dbc.calls.any fun c => c.seat == n then
    if r == .call then
      callNotice .call n .call { s with dbc := { s.dbc with calls := s.dbc.calls.map (Call.upgraded n) } }
    else s
  else if s.dbc.calls.length < Config.callLimit then
    callNotice .call n r { s with dbc := { s.dbc with calls := s.dbc.calls ++ [⟨n, r, s.htb.time⟩] } }
  else callNotice .callListFull n r (setFeedback a ⟨.red, .fast⟩ 3 s)

/-- ANSWER CALL (R113). -/
def takeAnswerCall (seat : Nat) (s : State) : Response :=
  if 511 < seat then refuse s .badValue
  else match s.seat? seat, s.dbc.calls.find? fun c => c.seat == seat with
    | some t, some c =>
      if t.suspect then refuse s .suspect else done (dropCall seat s) [u8 c.reason.ctorIdx, u24 c.time]
    | _, _ => refuse s .notFound

/-- QUERY CALLS (R113): the entries, then their number. -/
def takeQueryCalls (s : State) : Response :=
  done s (listField (fun c : Call => [u16 c.seat] ++ s.labelFields (some c.seat)
    ++ [u8 c.reason.ctorIdx, u24 c.time]) s.dbc.calls ++ [u8 s.dbc.calls.length])

/-! ### Button senses -/

/-- One button's truth value. -/
def Buttons.get (b : Buttons) : Button → Bool
  | .present => b.present
  | .finish => b.finish
  | .call => b.call
  | .breakKey => b.breakKey

/-- The truth values with one button's written. -/
def Buttons.set (b : Buttons) (k : Button) (v : Bool) : Buttons :=
  match k with
  | .present => { b with present := v }
  | .finish => { b with finish := v }
  | .call => { b with call := v }
  | .breakKey => { b with breakKey := v }

/-- A desk as SET BUTTON SENSE leaves it: one that was ONLINE takes its next good reply as a sample; one that
was QUIET stays as it is (R108, log entry 49). -/
def Desk.resensed (d : Desk) : Desk :=
  let d := { d with presses := [], longPress := none, window := none }
  if d.state == .online then { d with state := .quiet, cause := some .sense, resample := true } else d

/-- SET BUTTON SENSE (R108). -/
def takeSetButtonSense (button sense : Nat) (s : State) : Response :=
  match Button.ofCode button, Sense.ofCode sense with
  | some b, some v =>
    done { s with dbc := { s.dbc with
        inverted := s.dbc.inverted.set b (v == .inverted)
        desks := s.dbc.desks.mapAll fun _ d => d.resensed } } []
  | _, _ => refuse s .badValue

/-- Raw levels under the senses: NORMAL takes high as pressed, INVERTED low (R107). -/
def Buttons.sensed (raw inverted : Buttons) : Buttons :=
  ⟨xor raw.present inverted.present, xor raw.finish inverted.finish, xor raw.call inverted.call,
   xor raw.breakKey inverted.breakKey⟩

/-- Whether a press of one button is taken from an accepted reply (R107). -/
def pressTaken (inverted latch last level : Bool) : Bool :=
  if inverted then !last && (latch || level) else latch || (!last && level)

/-- The presses taken from an accepted reply, in button order (R107). -/
def pressesOf (inverted latches last levels : Buttons) : List Button :=
  [Button.present, .finish, .call, .breakKey].filter fun b =>
    pressTaken (inverted.get b) (latches.get b) (last.get b) (levels.get b)

/-! ### Presses -/

/-- Notice UNEXPECTED PRESS: seat label, button, seat state (R109, R110). -/
def unexpectedPress (t : Seat) (b : Button) (s : State) : State :=
  notify .unexpectedPress (labelFields (some (labelOf t)) ++ [u8 b.ctorIdx, u8 t.state.ctorIdx]) s

/-- A desk finish request for the occupant of a seat is judged, and its outcome shown at the desk (R95,
R110). -/
def deskFinish (a n k : Nat) (s : State) : State :=
  match s.slot? k with
  | none => s
  | some x =>
    if x.suspect then s
    else match s.finishRefusal x true with
      | none => acceptFinish k .early s
      | some r =>
        setFeedback a ⟨.amber, .fast⟩ 3
          (notify .finishRefused (s.labelFields (some n) ++ [u8 r.ctorIdx]) s)

/-- A FINISH press at a seat (R110). -/
def finishPress (a n : Nat) (t : Seat) (s : State) : State :=
  match t.occupant, (s.desk? a).bind (·.window) with
  | none, _ => unexpectedPress t .finish s
  | some _, none => modDesk a (fun d => { d with window := some 10 }) s
  | some k, some _ => deskFinish a n k (modDesk a (fun d => { d with window := none }) s)

/-- A CALL press at an OCCUPIED seat, with the sensed CALL level of its reply (R111). -/
def callPress (a n : Nat) (level : Bool) (s : State) : State :=
  if level then modDesk a (fun d => { d with longPress := some 1 }) s
  else offerCall a n .call (modDesk a (fun d => { d with longPress := none }) s)

/-- A press whose seat and occupant are not suspect is handed on (R109). -/
def handPressAt (a n : Nat) (t : Seat) (levels : Buttons) (s : State) : Button → State
  | .present => presentPress n (setFeedback a ⟨.red, .fast⟩ 5) s
  | .finish => finishPress a n t s
  | .call => if t.state == .occupied then callPress a n levels.call s else unexpectedPress t .call s
  | .breakKey =>
    if t.state == .occupied then offerCall a n .breakRequest s else unexpectedPress t .breakKey s

/-- One pending press of a desk is handed on, judged against what the ones before it left (R107, R109):
any but FINISH closes an open finish window first. -/
def handPress (a : Nat) (levels : Buttons) (b : Button) (s : State) : State :=
  let s := modDesk a (fun d => { d with
    presses := d.presses.drop 1, window := if b == .finish then d.window else none }) s
  match s.seatOfDesk a with
  | none => s
  | some n =>
    let s := readSeat n s
    match s.seat? n with
    | none => s
    | some t =>
      if t.suspect then s
      else
        let s := match t.occupant with
          | none => s
          | some k => readSlot k s
        if ((t.occupant.bind s.slot?).map (·.suspect)).getD false then s
        else handPressAt a n t levels s b

/-- An accepted reply acts on the desk's long-press count by its sensed CALL level (R111). -/
def countLongPress (a : Nat) (level : Bool) (s : State) : State :=
  match (s.desk? a).bind (·.longPress), s.seatOfDesk a with
  | some c, some n =>
    if level then
      if c < 3 then modDesk a (fun d => { d with longPress := some (c + 1) }) s
      else if c == 3 then offerCall a n .booklet (modDesk a (fun d => { d with longPress := some 4 }) s)
      else s
    else
      let t := modDesk a (fun d => { d with longPress := none }) s
      if c < 4 then offerCall a n .call t else t
  | _, _ => s

/-! ### Replies -/

/-- A reply taken as a sample: its sensed levels become the last levels, the expected sequence is written
from its own, and the acknowledge bit is toggled (R104, R106). -/
def Desk.sampled (levels : Buttons) (seq : Bool) (d : Desk) : Desk :=
  { d with levels := levels, expected := !seq, ack := !d.ack, resample := false }

/-- A desk's notice: its address and its seat label (R104 to R106). -/
def deskNotice (kind : NoticeKind) (a : Nat) (s : State) : State :=
  notify kind (u16 a :: s.labelFields (s.seatOfDesk a)) s

/-- A reply is accepted: its presses are taken and handed on, its levels kept, and both bits toggled
(R104, R107, R109). -/
def acceptReply (a : Nat) (levels latches : Buttons) (s : State) : State :=
  match s.desk? a with
  | none => s
  | some d =>
    let presses := pressesOf s.dbc.inverted latches d.levels levels
    let s := modDesk a (fun d => { d with
      levels := levels, presses := presses, ack := !d.ack, expected := !d.expected }) s
    presses.foldl (fun s b => handPress a levels b s) (countLongPress a levels.call s)

/-- A QUIET desk's in-step reply makes it ONLINE, which is a retry trigger (R106). -/
def deskOnline (a : Nat) (d : Desk) (s : State) : State :=
  let s := modDesk a (fun d => { d with
    state := .online, cause := none, announced := d.announced || d.cause == some .returned }) s
  let s := if d.cause == some .returned then deskNotice .deskOnline a s else s
  retryTrigger s

/-- A good reply of a desk is taken by its state and sequence bit (R104, R106); a desk made QUIET by SET BUTTON
SENSE takes its next one as a sample (R108). -/
def takeReply (a : Nat) (raw latches : Buttons) (seq : Bool) (s : State) : State :=
  match s.desk? a with
  | none => s
  | some d =>
    let levels := raw.sensed s.dbc.inverted
    let s := modDesk a (fun d => { d with misses := 0 }) s
    match d.state with
    | .offline =>
      modDesk a (fun d => { d.sampled levels seq with state := .quiet, cause := some .returned }) s
    | .quiet =>
      if seq == d.expected && !d.resample then acceptReply a levels latches (deskOnline a d s)
      else modDesk a (Desk.sampled levels seq) s
    | .online =>
      if seq == d.expected then acceptReply a levels latches s
      else
        deskNotice .deskRestarted a
          (modDesk a (fun d => { d.sampled levels seq with longPress := none, window := none }) s)

/-! ### Exchanges -/

/-- A desk that has missed for the third time becomes OFFLINE (R105). -/
def deskOffline (a : Nat) (announced : Bool) (s : State) : State :=
  let s := modDesk a (fun d => { d with
    state := .offline, cause := none, announced := false, resample := false, presses := [], longPress := none,
    window := none }) s
  if announced then deskNotice .deskOffline a s else s

/-- A miss of a desk (R105), reported as LOST where the desk is QUIET or ONLINE (R103). -/
def deskMiss (a : Nat) (s : State) : State :=
  match s.desk? a with
  | none => s
  | some d =>
    let s := if d.state == .offline then s else takeFault .desk .desk (some a) .lost s
    let s := modDesk a (fun d => { d with misses := min (d.misses + 1) 3 }) s
    if d.state != .offline && 3 ≤ d.misses + 1 then deskOffline a d.announced s else s

def endExchange (s : State) : State := { s with dbc := { s.dbc with exchange := none } }

/-- An attempt of the exchange fails: it is retried once at once with an identical poll, and a second
failure is a miss (R103). An exchange with a desk no longer listed ends (R101). -/
def attemptFails (x : Exchange) (s : State) : State :=
  if x.void then endExchange s
  else if x.retried then deskMiss x.address (endExchange s)
  else { s with dbc := { s.dbc with exchange := some { x with retried := true } } }

/-- The address polled next: the lowest listed above the one polled last in this round, or else the lowest listed
(R102). -/
def State.nextPoll (s : State) : Option Nat :=
  let listed := s.dbc.desks.keys
  match listed.find? fun a => (s.dbc.polled.getD 0) < a with
  | some a => some a
  | none => listed.head?

/-- The next desk is polled, if the bus is silent and some address is listed (R102, R103). -/
def pollNext (s : State) : State :=
  match s.dbc.exchange, s.nextPoll with
  | none, some a =>
    match s.desk? a with
    | none => s
    | some d => { s with dbc := { s.dbc with
        exchange := some ⟨a, false, false⟩, polled := some a, out := some ⟨a, d.lamp, d.ack⟩ } }
  | _, _ => s

/-- A desk reply arrives (R103, R104); its frame is that of R185. The CORRECTED fault of a retried exchange is
taken before the reply's own effect, and all 16 bits of its address are compared (log entry 20); bits 1 to 7 of its
sequence byte are not looked at (log entry 44). -/
def deskReplies (frame : List Byte) (buttons sequence : Byte) (s : State) : State :=
  match s.dbc.exchange with
  | none => s
  | some x =>
    if x.void then endExchange s
    else if !sumsToZero frame || numberOf (frame.take 2) != x.address then attemptFails x s
    else
      let s := endExchange s
      let reported := x.retried && (s.desk? x.address).map (·.state) != some .offline
      let s := if reported then takeFault .desk .desk (some x.address) .corrected s else s
      takeReply x.address (replyLevels buttons) (replyLatches buttons) (bit sequence 0) s

/-- No reply begins in time (R103). -/
def replyTimesOut (s : State) : State :=
  match s.dbc.exchange with
  | none => s
  | some x => attemptFails x s

end Sys2Proof.Machine
end

