-- ==== Sys2Proof/Machine/TimeBase.lean ====
section
/-! DEFINITION. The Hall Time Base (chapter 4): ticks (R60), the trim (R61, R65), the time of day (R63,
R64) and calibration (R66 to R70). -/

namespace Sys2Proof.Machine

/-- The calibration is IDLE, its length, counts and window discarded (R69, R70). -/
def Htb.calIdle (h : Htb) : Htb := { h with cal := .idle, calLength := 0, pulses := 0, ticks := 0, window := 0 }

/-- A trim taken into its range (R61). -/
def clampTrim (d : Nat) : Nat := clampTo Config.minTrim Config.maxTrim d

/-- A calibration in progress is abandoned, with notice CALIBRATION LOST: cause (0 REFERENCE LOST, 1 TRIM
SET), state, length and pulse count (R70). The state's code is its place in the chapter's table of states: ARMED
1, COUNTING 2 (log entry 26). -/
def abandonCalibration (cause : Nat) (s : State) : State :=
  if s.htb.cal == .idle then s
  else
    notify .calibrationLost [u8 cause, u8 s.htb.cal.ctorIdx, u16 s.htb.calLength, u16 s.htb.pulses]
      { s with htb := s.htb.calIdle }

/-- SET TRIM (R65). -/
def takeSetTrim (trim : Nat) (s : State) : Response :=
  let s := abandonCalibration 1 s
  let d := clampTrim trim
  doneOr (d != trim) { s with htb := { s.htb with pendingTrim := some d } } [u24 d, u24 s.htb.trim]

/-- CALIBRATE (R66). The length is judged before the calibration's state (log entry 52). -/
def takeCalibrate (length : Nat) (s : State) : Response :=
  if !(length == 16 || length == 64 || length == 256) then refuse s .badValue
  else if s.htb.cal != .idle then refuse s .busy
  else
    done { s with htb := { s.htb with cal := .armed, calLength := length, pulses := 0, ticks := 0, window := 0 } }
      [u16 length, u24 s.htb.trim]

/-- The trim a measurement of T ticks over N pulses gives, before it is clamped (R69). -/
def measuredTrim (ticks length : Nat) : Nat := (16 * ticks + length / 2) / length

/-- The pulse that ends a measurement: the result becomes the pending trim, with notice CALIBRATED (R69). -/
def finishCalibration (s : State) : State :=
  let d := measuredTrim s.htb.ticks s.htb.calLength
  let n : List Field := [u16 s.htb.calLength, u24 s.htb.ticks, u24 s.htb.trim, u24 (clampTrim d),
    flag (clampTrim d != d)]
  notify .calibrated n { s with htb := { s.htb.calIdle with pendingTrim := some (clampTrim d) } }

/-- A reference pulse (R67, R68). -/
def referencePulseTaken (s : State) : State :=
  match s.htb.cal with
  | .idle => s
  | .armed => { s with htb := { s.htb with cal := .counting, pulses := 0, ticks := 0, window := 0 } }
  | .counting =>
    let s := { s with htb := { s.htb with pulses := s.htb.pulses + 1, window := 0 } }
    if s.htb.pulses == s.htb.calLength then finishCalibration s else s

/-- A tick of the crystal input (R60, R67, R68): 16 more sixteenths gathered, and a calibration's counts. -/
def Htb.tick (h : Htb) : Htb :=
  let h := { h with phase := h.phase + 16 }
  match h.cal with
  | .idle => h
  | .armed => { h with window := h.window + 1 }
  | .counting => { h with window := h.window + 1, ticks := h.ticks + 1 }

/-- Whether the loss window has run out (R70). -/
def State.referenceLost (s : State) : Bool := s.htb.cal != .idle && Config.lossTicks ≤ s.htb.window

/-- Reference loss ends a calibration (R70). -/
def loseReference (s : State) : State := if s.referenceLost then abandonCalibration 0 s else s

/-- The hall second at the Hall Time Base: D is subtracted, a pending trim becomes D, and the time of day
advances (R60 to R63). -/
def Htb.second (h : Htb) : Htb :=
  { h with phase := h.phase - h.trim, trim := h.pendingTrim.getD h.trim, pendingTrim := none,
           time := if h.time + 1 < Config.daySeconds then h.time + 1 else 0 }

/-- The start instant of a paper with a scheduled start (R78). -/
def Paper.instant (r : Paper) : Option Nat :=
  r.scheduled.map fun t => (t + Config.daySeconds - 60 * r.reading) % Config.daySeconds

/-- The ADMITTING papers whose start instant satisfies a test, ascending (R78). -/
def State.startsDue (s : State) (p : Nat → Bool) : List Nat :=
  s.ssu.papers.keysWhere fun r => r.state == .admitting && (r.instant.map p).getD false

/-- SET TIME (R64): of the time-set report's classes, FORWARD alone makes scheduled starts fall due (R78). -/
def takeSetTime (time : Nat) (s : State) : Response :=
  if Config.daySeconds ≤ time then refuse s .badValue
  else
    let before := s.htb.time
    let wasSet := s.htb.timeSet
    let s := { s with htb := { s.htb with time := time, timeSet := true } }
    let starts := if wasSet then s.startsDue fun i => before < i && i ≤ time else []
    done { s with due := s.due ++ starts.map Due.scheduledStart } [u24 before, u24 time, flag wasSet]

end Sys2Proof.Machine
end

