-- ==== Sys2Proof/Machine/HallSecond.lean ====
section
/-! DEFINITION. The hall second (R62): what each block counts (R33, R84, R85, R90, R98, R115, R125), and the
steps the counting makes due (R33, R36, R78, R84 to R87, R94, R98, R110, R115, R125). The counting of all
blocks is done first and the steps it makes due follow as steps of their own (log entries 3 and 4). -/

namespace Sys2Proof.Machine

/-! ### Counting -/

/-- A candidate clock at a hall second: a RUNNING clock spends remaining time, a PAUSED one break budget;
none counts while the hall is held (R84). -/
def Clock.second (held : Bool) (k : Clock) : Clock :=
  if held then k
  else match k.state with
    | .running => { k with remaining := k.remaining - 1 }
    | .paused => { k with budget := k.budget - 1 }
    | _ => k

/-- An ADMITTED candidate's walk timer at a hall second (R33). -/
def Candidate.second (held : Bool) (c : Candidate) : Candidate :=
  if held || c.state != .admitted then c else { c with walk := c.walk.map (· - 1) }

/-- A slot at a hall second; a suspect record is passed over (R24, R84). -/
def Slot.second (held : Bool) (x : Slot) : Slot :=
  if x.suspect then x else .write (x.cand.second held) (x.clock.second held) false

/-- A paper's counters at a hall second (R85). -/
def Paper.second (held : Bool) (r : Paper) : Paper :=
  if held then r
  else match r.state with
    | .reading => { r with readingLeft := r.readingLeft - 1 }
    | .writing => { r with elapsed := min (r.elapsed + 1) Config.maxElapsed }
    | .overtime => { r with elapsed := min (r.elapsed + 1) Config.maxElapsed }
    | _ => r

/-- The hall signal at a hall second (R98). -/
def Signal.second : Signal → Signal
  | .off => .off
  | .hold on => .hold !on
  | .pulse n => .pulse (n - 1)

def LampItem.second (i : LampItem) : LampItem := { i with seconds := i.seconds - 1 }

/-- A desk at a hall second: its lamp pending comes into effect, then its timed items count down (R115). -/
def Desk.second (held : Bool) (pending : Pattern) (d : Desk) : Desk :=
  { d with lamp := pending, override := d.override.map LampItem.second,
           feedback := d.feedback.map LampItem.second, window := d.window.map (· - 1),
           warning := if held then d.warning else d.warning.map (· - 1) }

/-- A collector's round timer at a hall second (R125). -/
def Collector.second (held : Bool) (k : Collector) : Collector :=
  if held || k.state != .round then k else { k with timer := k.timer.map (· - 1) }

/-- Every block counts one second (R62). -/
def countSecond (s : State) : State :=
  let held := s.ssu.held
  { s with
    rsu := { s.rsu with slots := s.rsu.slots.mapAll fun _ x => x.second held }
    ssu := { s.ssu with
      papers := s.ssu.papers.mapAll fun _ r => r.second held
      holdLength := if held then min (s.ssu.holdLength + 1) Config.maxElapsed else s.ssu.holdLength
      signal := s.ssu.signal.second }
    dbc := { s.dbc with desks := s.dbc.desks.mapAll fun a d => d.second held (s.lampPending a) }
    clu := { s.clu with collectors := s.clu.collectors.mapAll fun _ k => k.second held } }

/-! ### Steps made due -/

/-- Whether a timer that counts one second now runs out. -/
def runsOut : Option Nat → Bool
  | none => false
  | some n => n ≤ 1

/-- Whether a walk timer runs out at this hall second (R33). -/
def Slot.walkEnds (held : Bool) (x : Slot) : Bool :=
  !x.suspect && !held && x.cand.state == .admitted && x.cand.walk == some 1

/-- Whether a PAUSED clock's budget runs out at this hall second (R94). -/
def Slot.breakEnds (held : Bool) (x : Slot) : Bool :=
  !x.suspect && !held && x.clock.state == .paused && x.clock.budget ≤ 1

/-- Whether a RUNNING clock runs out at this hall second (R84). -/
def Slot.expires (held : Bool) (x : Slot) : Bool :=
  !x.suspect && !held && x.clock.state == .running && x.clock.remaining ≤ 1

/-- Whether a RUNNING clock stands at the threshold of its warning index (R86). -/
def atWarning (r : Paper) (k : Clock) : Bool :=
  k.state == .running && (r.warnings[k.warnIndex]?.map fun t => k.remaining == 60 * t).getD false

/-- Whether a RUNNING clock comes to a warning at this hall second (R86). -/
def State.warns (s : State) (x : Slot) : Bool :=
  !x.suspect && !s.ssu.held && x.clock.state == .running
    && ((s.paper? x.cand.paper).map fun r => atWarning r (x.clock.second false)).getD false

/-- Whether an item of a desk runs out at this hall second (R115). -/
def Desk.itemEnds (held : Bool) (d : Desk) : Bool :=
  runsOut (d.override.map (·.seconds)) || runsOut (d.feedback.map (·.seconds)) || (!held && runsOut d.warning)

/-- Whether a desk's finish window runs out at this hall second (R110, R115). -/
def Desk.windowEnds (d : Desk) : Bool := runsOut d.window

/-- The step of a desk's timed items at a hall second (R115): its window, then its other items. -/
def deskDue (held : Bool) (a : Nat) (d : Desk) : List Due :=
  (if d.windowEnds then [Due.finishWindowExpiry a] else [])
    ++ (if d.itemEnds held then [Due.lampItemExpiry a] else [])

/-- The thresholds whose notice WARNING a paper sends as its counters stand (R86). -/
def Paper.warningsNow (r : Paper) : List Nat :=
  if r.state == .writing then r.warnings.filter fun t => r.elapsed + 60 * t == 60 * r.duration else []

/-- Whether a paper's admission closes by its late-entry limit as its counters stand (R85, R36). -/
def Paper.admissionEnds (r : Paper) : Bool :=
  r.state == .writing && 0 < r.late && r.elapsed == 60 * r.late && !r.admClosed

/-- Whether a paper's writing ends as its counters stand (R85, R87). -/
def Paper.writingEnds (r : Paper) : Bool := r.state == .writing && r.elapsed == 60 * r.duration

/-- The steps of a paper as its counters stand after a hall second (R85). -/
def paperDue (p : Nat) (r : Paper) : List Due :=
  (if r.state == .reading && r.readingLeft == 0 then [Due.readingEnd p] else [])
    ++ (if r.admissionEnds then [Due.admissionCloses p] else [])
    ++ (if r.writingEnds then [Due.writingEnd p] else [])

/-- The used slots that satisfy a test, ascending. -/
def State.slotsWhere (s : State) (p : Slot → Bool) : List Nat := s.rsu.slots.keysWhere p

/-- The steps that counting a second makes due, from the state `s` before it and the state `t` after it, in
the order the model gives them; steps of one kind are in ascending index, round timeouts by collector (log
entry 3). -/
def dueAfter (s t : State) : List Due :=
  let held := s.ssu.held
  (s.slotsWhere (·.walkEnds held)).map Due.notSeated
    ++ ((s.clu.collectors.keysWhere fun k => k.state == .round && !held && runsOut k.timer).map
        Due.roundTimeout)
    ++ s.dbc.desks.flatMap (fun e => deskDue held e.1 e.2)
    ++ (match s.ssu.signal with
        | .pulse n => if n ≤ 1 then [Due.pulseEnd] else []
        | _ => [])
    ++ (s.slotsWhere (·.breakEnds held)).map Due.breakOverrun
    ++ (if (s.slotsWhere (·.expires held)).isEmpty then [] else [Due.clockExpiry])
    ++ (if held then [] else t.ssu.papers.flatMap fun e => paperDue e.1 e.2)
    ++ (s.slotsWhere s.warns).map Due.clockWarning
    ++ (if held then [] else (t.ssu.papers.keysWhere fun r => !r.warningsNow.isEmpty).map Due.warning)
    ++ (if t.htb.timeSet then (t.startsDue fun i => i == t.htb.time).map Due.scheduledStart else [])

/-- The hall second (R60 to R63): the time base makes it, the records counted are read (R177), every block
counts, and the steps that follow are made due. The reads come first, so a seat they find suspect already shows
its lamp by its mark at this second (R115, log entry 20). Every slot is read before every seat (log entry 15). -/
def makeHallSecond (s : State) : State :=
  let s := readAllSeats (readSlots { s with htb := s.htb.second })
  let t := countSecond s
  { t with due := t.due ++ dueAfter s t }

/-- Whether the phase accumulator has reached D (R60). -/
def State.secondReached (s : State) : Bool := s.htb.trim ≤ s.htb.phase

/-- HALL_SECOND (R62). -/
def hallSecondStep (s : State) : State := if s.secondReached then makeHallSecond s else s

/-! ### The steps themselves -/

/-- A walk timer has run out (R33). -/
def notSeatedStep (k : Nat) (s : State) : State :=
  match s.slot? k with
  | none => s
  | some x =>
    if x.suspect || x.cand.state != .admitted || x.cand.walk != some 0 then s
    else notify .notSeated ([u16 k, u32 x.cand.number, u8 x.cand.paper] ++ s.labelFields x.cand.seat) s

/-- A break budget has run out: the clock becomes RUNNING, with notice BREAK OVERRUN (R84, R94). -/
def breakOverrunStep (k : Nat) (s : State) : State :=
  match s.slot? k with
  | none => s
  | some x =>
    if x.suspect || x.clock.state != .paused || x.clock.budget != 0 then s
    else
      notify .breakOverrun (u16 k :: s.labelFields x.cand.seat) (modClock k (fun c => { c with state := .running }) s)

/-- The clocks that have run out expire together (R84). -/
def clockExpiryStep (s : State) : State :=
  let ks := s.slotsWhere fun x => !x.suspect && x.clock.state == .running && x.clock.remaining == 0
  if ks.isEmpty then s else expireSlots ks s

/-- A paper's reading time has run out: its writing start is made (R85). -/
def readingEndStep (p : Nat) (s : State) : State :=
  match s.paper? p with
  | none => s
  | some r => if r.state == .reading && r.readingLeft == 0 then writingStart p s else s

/-- A paper's late-entry limit is reached (R85, R36). -/
def admissionClosesStep (p : Nat) (s : State) : State :=
  match s.paper? p with
  | none => s
  | some r => if r.admissionEnds then closeAdmission p s else s

/-- A paper's writing time ends: it becomes OVERTIME or CLOSED (R87). -/
def writingEndStep (p : Nat) (s : State) : State :=
  match s.paper? p with
  | none => s
  | some r =>
    if !r.writingEnds then s
    else
      let s := readPaper p s
      if s.clocksOpen p then enterPaperState p .overtime s else closePaper p s

/-- A clock stands at a warning threshold: the warning fires and the index advances (R86). -/
def clockWarningStep (k : Nat) (s : State) : State :=
  match s.slot? k with
  | none => s
  | some x =>
    match s.paper? x.cand.paper with
    | none => s
    | some r =>
      if x.suspect || !atWarning r x.clock then s
      else
        let s := modClock k (fun c => { c with warnIndex := c.warnIndex + 1 }) s
        match x.cand.seat with
        | none => s
        | some n => fireWarning n s

/-- A paper's remaining base time stands at thresholds: notice WARNING (R86). -/
def warningStep (p : Nat) (s : State) : State :=
  match s.paper? p with
  | none => s
  | some r => r.warningsNow.foldl (fun s t => notify .warning [u8 p, u8 t] s) s

/-- A scheduled start falls due (R78). -/
def scheduledStartStep (p : Nat) (s : State) : State :=
  match s.paper? p with
  | none => s
  | some r =>
    if r.state != .admitting then s
    else if s.ssu.held then modPaper p (fun r => { r with startPending := true }) s
    else makeStart p s

/-- A pulse has run out (R98). -/
def pulseEndStep (s : State) : State :=
  if s.ssu.signal == .pulse 0 then { s with ssu := { s.ssu with signal := .off } } else s

/-- A finish window has run out (R110). -/
def windowExpiryStep (a : Nat) (s : State) : State :=
  modDesk a (fun d => { d with window := if d.window == some 0 then none else d.window }) s

/-- Lamp items that have run out are removed (R115). -/
def lampExpiryStep (a : Nat) (s : State) : State :=
  modDesk a (fun d => { d with
    override := d.override.filter (·.seconds != 0), feedback := d.feedback.filter (·.seconds != 0),
    warning := d.warning.filter (· != 0) }) s

/-- A step made due is taken. -/
def takeDue (s : State) : Due → State
  | .notSeated k => notSeatedStep k s
  | .roundTimeout c => roundTimesOut c s
  | .finishWindowExpiry a => windowExpiryStep a s
  | .lampItemExpiry a => lampExpiryStep a s
  | .pulseEnd => pulseEndStep s
  | .breakOverrun k => breakOverrunStep k s
  | .clockExpiry => clockExpiryStep s
  | .readingEnd p => readingEndStep p s
  | .admissionCloses p => admissionClosesStep p s
  | .writingEnd p => writingEndStep p s
  | .clockWarning k => clockWarningStep k s
  | .warning p => warningStep p s
  | .scheduledStart p => scheduledStartStep p s

/-- Every step made due is taken, oldest first. -/
def takeAllDue (s : State) : State := s.due.foldl takeDue { s with due := [] }

/-- The block a step made due belongs to: Roster Unit, Collection Unit, Desk Bus Controller, Session Unit. -/
def Due.block : Due → Nat
  | .notSeated _ => 0
  | .roundTimeout _ => 1
  | .finishWindowExpiry _ => 2
  | .lampItemExpiry _ => 2
  | _ => 3

/-- The steps of one block up to and including `d` are taken, oldest first; the others stay due. No effect
where `d` is not due. -/
def takeDueNow (d : Due) (s : State) : State :=
  if s.due.contains d then
    let now := ((s.due.takeWhile (· != d)).filter fun e => e.block == d.block) ++ [d]
    let later := ((s.due.takeWhile (· != d)).filter fun e => e.block != d.block) ++ (s.due.dropWhile (· != d)).drop 1
    now.foldl takeDue { s with due := later }
  else s

end Sys2Proof.Machine
end

