-- ==== Sys2Proof/Machine/Allocator.lean ====
section
/-! DEFINITION. The Seat Allocator (chapter 3): the arbiter (R42), pre-placement (R44), the search (R45 to
R47), the outcome step (R48), the retry walk (R52 to R54) and PLACE (R55 to R57). -/

namespace Sys2Proof.Machine

/-! ### The retry walk -/

/-- A try has ended: the next candidate of the span is tried, or the walk ends (R53). -/
def afterTry (s : State) : State :=
  if s.sal.untried.isEmpty then endWalk s
  else { s with sal := { s.sal with reqRetry := true } }

/-! ### How an allocation ends -/

/-- What an admission's allocation came to (R30). -/
inductive Outcome where
  | seat (n : Nat)
  | wait
  | listFull
  | suspect
  deriving DecidableEq, Repr

/-- The door answer of an outcome (R30). -/
def State.outcomeAnswer (s : State) : Outcome → DoorAnswer
  | .seat n => .seat ((s.labelOf n).getD [])
  | .wait => .wait
  | .listFull => .refused .listFull
  | .suspect => .refused .suspect

/-- The ADMIT reply of an outcome (R30). -/
def State.outcomeReply (s : State) : Outcome → Answer
  | .seat n => .ok (u16 n :: s.labelFields (some n))
  | .wait => .ok (o16 none :: s.labelFields none)
  | .listFull => .no .full
  | .suspect => .no .suspect

/-- The Roster Unit answers the door or the ADMIT of an admission (R30). -/
def answerAdmission (r : Requester) (o : Outcome) (s : State) : State :=
  match r with
  | .door0 => answerDoor 0 (s.outcomeAnswer o) s
  | .door1 => answerDoor 1 (s.outcomeAnswer o) s
  | .station => answerTaken (s.outcomeReply o) s
  | .retry => s

/-- The allocation being served is over (R43). -/
def stopServing (s : State) : State := { s with sal := { s.sal with serving := none } }

/-- An allocation ends with no seat held because the candidate record is suspect: an admission is
answered, a retry try is over (R43, R48, R54). -/
def endSuspect (r : Requester) (s : State) : State :=
  let s := stopServing s
  if r == .retry then afterTry s else answerAdmission r .suspect s

/-- The candidate's seat, last seat and walk timer as it enters ADMITTED at a seat (R21, R33). -/
def Candidate.admittedAt (n walk : Nat) (c : Candidate) : Candidate :=
  { c with state := .admitted, seat := some n, lastSeat := some n, walk := some walk, source := none }

/-- The walk limit of a paper (R33). -/
def State.walkLimit (s : State) (p : Nat) : Nat := ((s.paper? p).map (·.walk)).getD 240

/-- The cursor of a paper and zone moves to the place after the chosen one; from the last place it moves to
0 (R48). -/
def moveCursor (p z place : Nat) (s : State) : State :=
  setCursor p z (if place + 1 < s.seatCount z then place + 1 else 0) s

/-- Notice PLACED (R53). -/
def placedNotice (k n : Nat) (bySearch : Bool) (s : State) : State :=
  match s.slot? k with
  | none => s
  | some x =>
    notify .placed ([u16 k, u32 x.cand.number, u8 x.cand.paper, u16 n] ++ s.labelFields (some n)
      ++ [u8 bySearch.toNat]) s

/-- The outcome "a seat" is written: the seat is held and the candidate ADMITTED in one step (R48); a retry
try sends PLACED (R53), an admission is answered and the Session Unit told (R30, R83). -/
def writeSeat (a : Allocation) (n : Nat) (bySearch : Bool) (s : State) : State :=
  let s := holdSeat n a.slot a.paper false s
  let s := modCand a.slot (Candidate.admittedAt n (s.walkLimit a.paper)) s
  if a.requester == .retry then afterTry (stopServing (placedNotice a.slot n bySearch (leaveWaitList a.slot s)))
  else
    let s := modCand a.slot (fun c => { c with admTime := some s.htb.time }) (stopServing s)
    giveClock a.slot (answerAdmission a.requester (.seat n) s)

/-- The outcome "wait" of an admission (R30, R48). -/
def writeWait (a : Allocation) (s : State) : State :=
  let s := modCand a.slot
    (fun c => { c with state := .waiting, source := none, admTime := some s.htb.time }) s
  let s := { s with sal := { s.sal with wait := s.sal.wait ++ [a.slot] } }
  giveClock a.slot (answerAdmission a.requester .wait (stopServing s))

/-- The outcome "list full" of an admission: the candidate stays EXPECTED, or becomes ABSENT where
admission to the paper has closed meanwhile (R31, R48). Notice DOOR ANSWER joins before ABSENT (log entry 32). -/
def writeListFull (a : Allocation) (s : State) : State :=
  let closed := (s.paper? a.paper).map (·.admClosed) == some true
  let s := modCand a.slot
    (fun c => { c with source := none, state := if closed then .absent else c.state }) s
  let s := answerAdmission a.requester .listFull (stopServing s)
  if closed then notify .absent [u8 a.paper, u16 1] s else s

/-- The outcome of a search that found no seat (R48). -/
def writeNoSeat (a : Allocation) (s : State) : State :=
  if a.requester == .retry then afterTry (stopServing s)
  else if s.sal.wait.length < Config.waitLimit then writeWait a s
  else writeListFull a s

/-! ### Pre-placement -/

/-- Why pre-placement ends without a seat, in the order of R44's table. -/
inductive PreplaceReason where
  | noSeat | suspect | notFree | zoneClosed | zoneCode | spacing
  deriving DecidableEq, Repr

/-- The test of R44 that a pre-placed seat fails first, if any. -/
def State.preplaceFails (s : State) (n paper : Nat) (cls : CandidateClass) : Option PreplaceReason :=
  match s.seat? n with
  | none => some .noSeat
  | some t =>
    if t.suspect then some .suspect
    else if t.state != .free then some .notFree
    else match s.zone? t.zone with
      | none => some .zoneClosed
      | some z =>
        if z.state != .opened then some .zoneClosed
        else if z.code cls == .none then some .zoneCode
        else if !s.spacingHolds paper n then some .spacing
        else none

/-- The reason that matches the Hall Map Unit's refusal of a pre-placement hold (R44); a seat that exists no
longer gives NO SEAT (log entry 43). -/
def preplaceReasonOf : Reason → PreplaceReason
  | .suspect => .suspect
  | .conflict => .spacing
  | .notFound => .noSeat
  | _ => .notFree

/-- Notice PREPLACE MISSED of an admission; a retry try sends none (R44). -/
def preplaceMissed (a : Allocation) (n : Nat) (r : PreplaceReason) (s : State) : State :=
  if a.requester == .retry then s
  else match s.slot? a.slot with
    | none => s
    | some x =>
      notify .preplaceMissed ([u16 a.slot, u32 x.cand.number, u16 n] ++ s.labelFields (some n)
        ++ [u8 r.ctorIdx]) s

/-- The search as it begins (R46). -/
def Search.first (order : List Nat) : Search := ⟨order, false, false, 0, 0, false⟩

def Allocation.withStage (a : Allocation) (g : Stage) : Allocation := { a with stage := g }

def serve (a : Allocation) (s : State) : State := { s with sal := { s.sal with serving := some a } }

/-- The course of an allocation begins: the candidate record is read; a pre-placed seat is tested, and the
search follows where it is not to be had (R43, R44). The seat and its neighbours are read before every test (log
entry 15). -/
def beginAllocation (r : Requester) (k : Nat) (s : State) : State :=
  let s := readSlot k s
  match s.slot? k with
  | none => endSuspect r s
  | some x =>
    if x.suspect then endSuspect r s
    else
      let order := ((s.paper? x.cand.paper).map (·.zoneOrder)).getD []
      let a : Allocation := ⟨r, k, x.cand.paper, x.cand.cls, order, .searching (.first order)⟩
      match x.cand.preplaced with
      | none => serve a s
      | some n =>
        let s := readAround n s
        match s.preplaceFails n x.cand.paper x.cand.cls with
        | none => serve (a.withStage (.preplaced n)) s
        | some why => preplaceMissed a n why (serve a s)

/-! ### PLACE -/

/-- PLACE on a WAITING candidate: the named seat is given (R56). A neighbour whose read fails in the spacing test
does not refuse it (log entry 39), and the neighbours are read whether or not that test is made (log entry 15). -/
def placeWaiting (k : Nat) (x : Slot) (n : Nat) (override : Bool) (s : State) : State × Answer :=
  let s := readAround n s
  match s.holdRefusal n x.cand.paper override with
  | some r => (s, .no r)
  | none =>
    let s := holdSeat n k x.cand.paper override s
    let s := modCand k (Candidate.admittedAt n (s.walkLimit x.cand.paper)) s
    (leaveWaitList k s, .ok (u16 n :: s.labelFields (some n)))

/-- PLACE on an ADMITTED or SEATED candidate: a move to the named seat (R57, R12). The old seat, the named one and its
neighbours are read before either is judged (log entry 15). -/
def placeMove (k : Nat) (x : Slot) (n : Nat) (override : Bool) (s : State) : State × Answer :=
  let old := x.cand.seat.getD 0
  let s := readAround n (readSeat old s)
  if (s.seat? n).isNone then (s, .no .notFound)
  else match s.moveRefusal old n k x.cand.paper override with
    | some r => (s, .no r)
    | none =>
      let s := moveSeats old n k x.cand.paper override s
      let s := modCand k (Candidate.admittedAt n (s.walkLimit x.cand.paper)) s
      (s, .ok (u16 n :: s.labelFields (some n)))

/-- PLACE as it is served (R55). -/
def servePlace (number : Nat) (seat : Option Nat) (code : Nat) (s : State) : State × Answer :=
  match flagOfCode code with
  | none => (s, .no .badValue)
  | some override =>
    if Config.maxNumber < number || beyond 511 seat then (s, .no .badValue)
    else
      let s := readNumber number s
      match s.slotOf number with
      | none => (s, .no .notFound)
      | some k =>
        match s.slot? k with
        | none => (s, .no .notFound)
        | some x =>
          if x.suspect then (s, .no .suspect)
          else if x.cand.source.isSome then (s, .no .busy)
          else match x.cand.state, seat with
            | .expected, n => (modCand k (fun c => { c with preplaced := n }) s, .ok [])
            | .waiting, some n => placeWaiting k x n override s
            | .admitted, some n => placeMove k x n override s
            | .seated, some n => placeMove k x n override s
            | .waiting, none => (s, .no .badValue)
            | .admitted, none => (s, .no .badValue)
            | .seated, none => (s, .no .badValue)
            | _, _ => (s, .no .wrongState)

/-- PLACE is taken: it waits at the arbiter as the station's request (R55). -/
def takePlace (number : Nat) (seat : Option Nat) (code : Nat) (s : State) : Response :=
  ({ s with sal := { s.sal with reqStation := some (.place number seat code) } }, none)

/-! ### The arbiter -/

/-- Whether a requester has a request waiting that a choice now may serve; the retry requester is passed
over while the hall is held (R42). -/
def State.requests (s : State) : Requester → Bool
  | .door0 => s.sal.reqDoor0.isSome
  | .door1 => s.sal.reqDoor1.isSome
  | .station => s.sal.reqStation.isSome
  | .retry => s.sal.reqRetry && !s.ssu.held

/-- The cyclic order of the requesters, from the one after the one served last (R42). -/
def Requester.after : Requester → List Requester
  | .door0 => [.door1, .station, .retry, .door0]
  | .door1 => [.station, .retry, .door0, .door1]
  | .station => [.retry, .door0, .door1, .station]
  | .retry => [.door0, .door1, .station, .retry]

/-- The retry requester is served: a PENDING walk fixes its span; the first untried candidate is tried
(R53). A suspect candidate is passed over as though tried without a seat (R54, in `beginAllocation`). -/
def serveRetry (s : State) : State :=
  let s := { s with sal := { s.sal with reqRetry := false } }
  let s :=
    if s.sal.retry == .pending then
      { s with sal := { s.sal with span := s.sal.wait, retry := .walking } }
    else s
  match s.sal.untried with
  | [] => endWalk s
  | k :: _ =>
    beginAllocation .retry k { s with sal := { s.sal with span := s.sal.span.filter (· != k) } }

/-- The arbiter serves the request of a requester (R42). -/
def serveRequester (r : Requester) (s : State) : State :=
  let s := { s with sal := { s.sal with last := r } }
  match r with
  | .door0 =>
    match s.sal.reqDoor0 with
    | none => s
    | some k => beginAllocation .door0 k { s with sal := { s.sal with reqDoor0 := none } }
  | .door1 =>
    match s.sal.reqDoor1 with
    | none => s
    | some k => beginAllocation .door1 k { s with sal := { s.sal with reqDoor1 := none } }
  | .station =>
    match s.sal.reqStation with
    | none => s
    | some (.allocation k) => beginAllocation .station k { s with sal := { s.sal with reqStation := none } }
    | some (.place number seat code) =>
      let (s, a) := servePlace number seat code { s with sal := { s.sal with reqStation := none } }
      answerTaken a s
  | .retry => serveRetry s

/-- The arbiter's choice, when no request is being served (R42). -/
def chooseRequest (s : State) : State :=
  if s.sal.serving.isSome then s
  else match s.sal.last.after.find? s.requests with
    | none => s
    | some r => serveRequester r s

/-! ### The search -/

/-- Whether the search passes over a zone (R46). -/
def State.zoneSkipped (s : State) (z : Nat) (cls : CandidateClass) : Bool :=
  match s.zone? z with
  | none => true
  | some r => r.state == .closed || r.code cls != .admits

/-- A pass over a zone as it begins, at a place or at 0 where that is beyond the zone's seats (R47). The first pass
is given the cursor's place, as the search starts in the zone (R49), and the second the place the first began at. -/
def passStart (z : Nat) (rest : List Nat) (second : Bool) (place seats : Nat) : Search :=
  let start := if place < seats then place else 0
  ⟨z :: rest, true, second, start, start, false⟩

/-- The next place the search considers: its zone and place, and the search as it then stands. Where the
pass at hand holds no further place, it wraps, the second pass begins, or the next zone is entered; none
where the zones are exhausted. `fuel` bounds these turns (at most 5 for each zone). -/
def nextPlace (s : State) (paper : Nat) (cls : CandidateClass) : Nat → Search → Option (Nat × Nat × Search)
  | 0, _ => none
  | fuel + 1, q =>
    match q.zones with
    | [] => none
    | z :: rest =>
      let seats := s.seatCount z
      if !q.entered then
        if s.zoneSkipped z cls then nextPlace s paper cls fuel { q with zones := rest }
        else nextPlace s paper cls fuel (passStart z rest false (s.cursorOf paper z) seats)
      else if !q.wrapped && q.next < seats then some (z, q.next, { q with next := q.next + 1 })
      else if !q.wrapped then nextPlace s paper cls fuel { q with next := 0, wrapped := true }
      else if q.next < q.start && q.next < seats then some (z, q.next, { q with next := q.next + 1 })
      else if !q.second then nextPlace s paper cls fuel (passStart z rest true q.start seats)
      else nextPlace s paper cls fuel { q with zones := rest, entered := false }

/-- Whether a class of candidate accepts a class of seat (R5, R47). -/
def CandidateClass.accepts : CandidateClass → SeatClass → Bool
  | .arranged, _ => true
  | .standard, .standard => true
  | .standard, .nearExit => true
  | .standard, _ => false

/-- Whether a seat qualifies for a candidate's class and paper in a pass (R47). -/
def State.qualifies (s : State) (n paper : Nat) (cls : CandidateClass) (second : Bool) : Bool :=
  match s.seat? n with
  | none => false
  | some t =>
    t.used == second && t.state == .free && !s.deskWithholds t && !t.suspect && cls.accepts t.cls
      && s.spacingHolds paper n

/-- The search considers its next place (R47): a seat that qualifies is to be held; where no place is left,
the search ends without a seat. The seat at the place and its neighbours are read before any test, also where the pass, the
state or the class already fails it (log entry 15). -/
def searchOn (a : Allocation) (q : Search) (s : State) : State :=
  match nextPlace s a.paper a.cls (5 * q.zones.length + 5) q with
  | none => serve (a.withStage .noSeat) s
  | some (z, place, q') =>
    match (s.fillOrder z)[place]? with
    | none => serve (a.withStage (.searching q')) s
    | some n =>
      let s := readAround n s
      if s.qualifies n a.paper a.cls q'.second then serve (a.withStage (.found n z place q')) s
      else serve (a.withStage (.searching q')) s

/-- One place of the search of the allocation being served (R47). -/
def searchStep (s : State) : State :=
  match s.sal.serving with
  | none => s
  | some a =>
    match a.stage with
    | .searching q => searchOn a q s
    | _ => s

/-! ### The outcome step -/

/-- Whether the Roster Unit refuses the change to ADMITTED or WAITING: the candidate has left the state
the allocation assumed (R48, R54). -/
def State.allocationStale (s : State) (a : Allocation) : Bool :=
  (s.slot? a.slot).map (·.cand.state) != some (if a.requester == .retry then .waiting else .expected)

/-- The hold of a seat is asked of the Hall Map Unit, which judges it anew (R13, R48). If it is taken the
outcome is written, and for a seat the search found at a place of its zone the cursor moves in the same
step; `missed` is what follows a refusal. The seat and its neighbours are read before any test, also where no spacing test
is needed (log entry 15). -/
def askHold (a : Allocation) (n : Nat) (found : Option (Nat × Nat)) (missed : Reason → State → State)
    (s : State) : State :=
  let s := readAround n s
  match s.holdRefusal n a.paper false, found with
  | some r, _ => missed r s
  | none, none => writeSeat a n false s
  | none, some (z, place) => writeSeat a n true (moveCursor a.paper z place s)

/-- The allocation being served ends with the outcome its stage has come to (R48). A refused hold lets
the pass go on with the next place, or pre-placement end and the search begin (R44, R47). The candidate's
record is read and judged before the hold is asked (log entry 45), and it is read whichever outcome is written, also
where a retry try ends in wait and changes nothing in it (log entry 15). -/
def outcomeStep (s : State) : State :=
  match s.sal.serving with
  | none => s
  | some a =>
    match a.stage with
    | .searching _ => s
    | g =>
      let s := readSlot a.slot s
      if (s.slot? a.slot).map (·.suspect) == some true then endSuspect a.requester s
      else if s.allocationStale a then
        if a.requester == .retry then afterTry (stopServing s) else stopServing s
      else match g with
        | .preplaced n =>
          askHold a n none
            (fun r s => preplaceMissed a n (preplaceReasonOf r)
              (serve (a.withStage (.searching (.first a.order))) s)) s
        | .found n z place q =>
          askHold a n (some (z, place)) (fun _ s => serve (a.withStage (.searching q)) s) s
        | _ => writeNoSeat a s

end Sys2Proof.Machine
end

