-- ==== Sys2Proof/Machine/HallMap.lean ====
section
/-! DEFINITION. The station's requests on zones, rows and seats, as the Hall Map Unit takes them
(chapter 1: R2 to R4, R16 to R20). -/

namespace Sys2Proof.Machine

/-- The seats of a zone, ascending. -/
def State.seatsOfZone (s : State) (z : Nat) : List Nat := s.hmu.seats.keysWhere fun t => t.zone == z

/-- DEFINE ZONE (R2). A seat that was suspect already counts by the state its record last held (log entry 51);
one whose read fails here refuses the request SUSPECT (log entry 16). -/
def takeDefineZone (zone spacing standard arranged : Nat) (s : State) : Response :=
  match Spacing.ofCode spacing, AdmissionCode.ofCode standard, AdmissionCode.ofCode arranged with
  | some sp, some a, some b =>
    if Config.zoneCount ≤ zone then refuse s .badValue
    else match s.zone? zone with
      | none => done (setZone zone ⟨.closed, sp, a, b⟩ s) []
      | some z =>
        let before := s.hmu.seats.count (·.suspect)
        let s := readSeats (s.seatsOfZone zone) s
        if s.hmu.seats.count (·.suspect) != before then refuse s .suspect
        else if s.hmu.seats.any fun t => t.zone == zone && t.state.inUse then refuse s .wrongState
        else
          let s := setZone zone { z with spacing := sp, standard := a, arranged := b } s
          done (if z.standard != a || z.arranged != b then retryTrigger s else s) []
  | _, _, _ => refuse s .badValue

/-- OPEN ZONE (R3). -/
def takeOpenZone (zone : Nat) (s : State) : Response :=
  if Config.zoneCount ≤ zone then refuse s .badValue
  else match s.zone? zone with
    | none => refuse s .notFound
    | some z =>
      let t := setZone zone { z with state := .opened } s
      done (if z.state == .closed then retryTrigger t else t) []

/-- CLOSE ZONE (R3). -/
def takeCloseZone (zone : Nat) (s : State) : Response :=
  if Config.zoneCount ≤ zone then refuse s .badValue
  else match s.zone? zone with
    | none => refuse s .notFound
    | some z => done (setZone zone { z with state := .closed } s) []

/-- A zone with its admission code for a class set. -/
def Zone.withCode (z : Zone) (c : CandidateClass) (a : AdmissionCode) : Zone :=
  match c with
  | .standard => { z with standard := a }
  | .arranged => { z with arranged := a }

/-- SET ADMISSION (R3). -/
def takeSetAdmission (zone cls code : Nat) (s : State) : Response :=
  match CandidateClass.ofCode cls, AdmissionCode.ofCode code with
  | some c, some a =>
    if Config.zoneCount ≤ zone then refuse s .badValue
    else match s.zone? zone with
      | none => refuse s .notFound
      | some z =>
        let t := setZone zone (z.withCode c a) s
        done (if z.code c != a then retryTrigger t else t) []
  | _, _ => refuse s .badValue

/-- A seat as DEFINE ROW makes it (R4). -/
def Seat.initial (zone row position : Nat) : Seat :=
  { zone := zone, row := row, position := position, cls := .standard, desk := none, state := .free,
    occupant := none, lastPaper := none, used := false, override := false, suspect := false }

/-- A row and its seats are added at the end of the row map and of the seat table (R4). The new records
are written whole. -/
def addRow (zone number count first : Nat) (s : State) : State :=
  let seats := (List.range count).foldl
    (fun (t : Table Seat) i => t.put (first + i) (Seat.initial zone number (i + 1))) s.hmu.seats
  let fresh (u : Upset) : Bool :=
    match u.record with
    | .seat n => n < first
    | _ => true
  { s with hmu := { s.hmu with rows := s.hmu.rows ++ [⟨zone, number, count, first⟩], seats := seats }
           upsets := s.upsets.filter fresh }

/-- DEFINE ROW (R4). A seat that becomes FREE by being made is no transition of R8 and no trigger. The row number of
the reply goes in 1 byte (log entry 9). -/
def takeDefineRow (zone count : Nat) (s : State) : Response :=
  if Config.zoneCount ≤ zone || count < 1 || 32 < count then refuse s .badValue
  else match s.zone? zone with
    | none => refuse s .notFound
    | some _ =>
      let s := readAllSeats s
      let rows := (s.rowsOf zone).length
      let first := s.hmu.seats.length
      if s.hmu.seats.any (·.suspect) then refuse s .suspect
      else if s.hmu.seats.any (·.state.inUse) then refuse s .wrongState
      else if Config.zoneRowLimit ≤ rows || Config.rowLimit ≤ s.hmu.rows.length
          || Config.seatLimit < first + count then refuse s .full
      else done (addRow zone (rows + 1) count first s) [u8 (rows + 1), u16 first]

/-- A desk address is named by another seat (R5, R16), by the record last written where that seat is suspect (log
entry 64). -/
def State.addressTaken (s : State) (n : Nat) (desk : Option Nat) : Bool :=
  match desk with
  | none => false
  | some a => List.any s.hmu.seats fun e => e.1 != n && e.2.desk == some a

/-- Whether a desk address is in its range (R5). -/
def addressOk : Option Nat → Bool
  | none => true
  | some a => 1 ≤ a && a ≤ Config.maxDesk

/-- A seat with the availability SET SEAT gives it (R16); AVAILABLE is 0, UNAVAILABLE is 1. -/
def Seat.withAvailability (t : Seat) (availability : Nat) : Seat :=
  if availability == 0 then
    if t.state == .unavailable then { t with state := .free } else t
  else { t with state := .unavailable, lastPaper := none, override := false }

/-- SET SEAT (R16). Of table memory it reads the named seat alone: the address test takes every other seat's address as its
record last held it, with no read (log entries 15 and 64). -/
def takeSetSeat (seat cls : Nat) (desk : Option Nat) (availability : Nat) (s : State) : Response :=
  match SeatClass.ofCode cls with
  | none => refuse s .badValue
  | some c =>
    if 1 < availability || !addressOk desk then refuse s .badValue
    else
      let s := readSeat seat s
      match s.seat? seat with
      | none => refuse s .notFound
      | some t =>
        if t.suspect then refuse s .suspect
        else if s.addressTaken seat desk then refuse s .conflict
        else if t.state == .held || t.state == .occupied then refuse s .wrongState
        else done (syncDesks (putSeat seat
          ({ t with cls := c, desk := desk }.withAvailability availability) s)) []

/-- CLEAR SEAT (R17). -/
def takeClearSeat (seat : Nat) (s : State) : Response :=
  let s := readSeat seat s
  match s.seat? seat with
  | none => refuse s .notFound
  | some t =>
    if t.suspect then refuse s .suspect
    else if t.state != .vacated then refuse s .wrongState
    else done (freeSeat seat s) []

/-- RESET MAP (R18); a search under way leaves its zone (R50). -/
def takeResetMap (s : State) : Response :=
  let s := readAllSeats s
  if s.hmu.seats.any (·.suspect) then refuse s .suspect
  else if s.hmu.seats.any (·.state.inUse) then refuse s .wrongState
  else done (leaveZones (syncDesks { s with hmu := .reset })) []

/-- QUERY SEAT (R20). -/
def takeQuerySeat (seat : Nat) (s : State) : Response :=
  let s := readSeat seat s
  match s.seat? seat with
  | none => refuse s .notFound
  | some t =>
    if t.suspect then refuse s .suspect
    else done s ([u16 seat] ++ labelFields (some (labelOf t)) ++
      [u8 t.cls.ctorIdx, o16 t.desk, u8 t.state.ctorIdx, o16 t.occupant, o8 t.lastPaper, flag t.used,
       flag t.override, flag (s.withheld t)])

/-- QUERY ZONE (R20). A seat whose read fails is counted as suspect, and the query is not refused (log entry
38). The row numbers go in 1 byte each (log entry 9). -/
def takeQueryZone (zone : Nat) (s : State) : Response :=
  if Config.zoneCount ≤ zone then refuse s .badValue
  else match s.zone? zone with
    | none => refuse s .notFound
    | some z =>
      let s := readSeats (s.seatsOfZone zone) s
      let clear (p : Seat → Bool) : Nat := s.hmu.seats.count fun t => t.zone == zone && !t.suspect && p t
      let states := [SeatState.unavailable, .free, .held, .occupied, .vacated]
      done s ([u8 z.state.ctorIdx, u8 z.spacing.ctorIdx, u8 z.standard.ctorIdx, u8 z.arranged.ctorIdx,
          u16 (s.seatCount zone)]
        ++ listField (fun r => [u8 r.number, u8 r.count, u16 r.first]) (s.rowsOf zone)
        ++ states.map (fun st => u16 (clear fun t => t.state == st))
        ++ [u16 (s.hmu.seats.count fun t => t.zone == zone && t.suspect), u16 (clear s.withheld)])

end Sys2Proof.Machine
end

