-- ==== Sys2Proof/Machine/Scan.lean ====
section
/-! DEFINITION. Forms, sheet frames and the scan link (chapter 8: R138, R139, R142 to R147). -/

namespace Sys2Proof.Machine

/-! ### Forms -/

/-- The rows per frame of a form of some questions (R138). -/
def rowsPerFrame (questions : Nat) : Nat := 10 + questions

/-- Whether DEFINE FORM is refused WRONG STATE for a form: a buffer, an exception entry, a readable result
or a paper past DEFINED holds or names it (R138, check 2). -/
def State.formInUse (s : State) (f : Nat) : Bool :=
  s.mru.buffer0.form == some f || s.mru.buffer1.form == some f
    || s.mru.exceptions.any (·.form == f)
    || s.mru.results.any (fun r => !r.suspect && r.form == f)
    || s.ssu.papers.any fun r => r.form == f && r.state != .defined

/-- Reads of every result record, in slot order. -/
def readResults (s : State) : State := s.mru.results.keys.foldl (fun s k => readResult k s) s

/-- The keys of every paper that names a form are removed (R138, R157). -/
def formKeysFollow (f : Nat) (s : State) : State :=
  (s.ssu.papers.keysWhere fun r => r.form == f).foldl (fun s p => removeKeys p (fun _ => true) s) s

/-- DEFINE FORM (R138). It reads every result record; a read that fails refuses it SUSPECT (R177), and a
record that was suspect already is passed over (log entry 16). -/
def takeDefineForm (f questions : Nat) (s : State) : Response :=
  if Config.formCount ≤ f || questions < 1 || 120 < questions then refuse s .badValue
  else
    let before := s.mru.results.count (·.suspect)
    let s := readResults s
    if s.formInUse f then refuse s .wrongState
    else if before < s.mru.results.count (·.suspect) then refuse s .suspect
    else if s.ssu.papers.any fun r => r.form == f && questions < lastSection r.sections then refuse s .conflict
    else
      let held := s.mru.forms.find f
      let t := { s with mru := { s.mru with forms := s.mru.forms.put f questions } }
      done (if held.isSome && held != some questions then formKeysFollow f t else t)
        [u8 (rowsPerFrame questions)]

/-- The count of values of a row, by its index (R139). -/
def rowValues (index : Nat) : Nat :=
  if index = 0 then 2 else if index ≤ 8 then 10 else if index = 9 then 4 else 5

/-! ### Answers and the resend wait -/

def scanAnswer (a : ScanAnswer) (s : State) : State := { s with mru := { s.mru with out := some a } }

/-- The buffer that is FILLING, if a frame is open (R146). -/
def State.filling (s : State) : Option Nat := [0, 1].find? fun b => (s.bufferOf b).state == .filling

/-- The lower-numbered FREE buffer (R143). -/
def State.freeBuffer (s : State) : Option Nat := [0, 1].find? fun b => (s.bufferOf b).state == .free

/-- The ready line: high while a buffer is FREE (R141). -/
def State.readyLine (s : State) : Bool := s.freeBuffer.isSome

/-- The record kind a fault of source SCAN names (R178). -/
def ScanKind.faultRecord : ScanKind → FaultRecord
  | .frameOpen => .frameOpen
  | .row => .row
  | .frameClose => .frameClose

/-- A parity error is settled (R147). -/
def settleWait (kind : FaultKind) (w : ResendWait) (s : State) : State :=
  takeFault .scan w.kind.faultRecord w.row kind s

/-- The next unbroken record, of this kind and row index, settles the parity errors that wait: CORRECTED
where it is the record that was broken, and LOST otherwise (R147). -/
def settleWaits (kind : ScanKind) (row : Option Nat) (s : State) : State :=
  let ws := s.mru.resendWait
  ws.foldl (fun s w => settleWait (if w.kind == kind && w.row == row then .corrected else .lost) w s)
    { s with mru := { s.mru with resendWait := [] } }

/-- Every parity error that waits is settled LOST (R147, CLEAR SITTING). -/
def loseWaits (s : State) : State :=
  let ws := s.mru.resendWait
  ws.foldl (fun s w => settleWait .lost w s) { s with mru := { s.mru with resendWait := [] } }

/-- RESEND: the next index of the open frame, or no index (R142). -/
def answerResend (s : State) : State :=
  scanAnswer (.resend (s.filling.map fun b => (s.bufferOf b).rows.length)) s

/-- A record is broken by a parity error (R142, R147): answered RESEND at its end, or after a gap where
its end is not known. -/
def recordBroken (kind : ScanKind) (row : Option Nat) (endKnown : Bool) (s : State) : State :=
  let s := { s with mru := { s.mru with resendWait := s.mru.resendWait ++ [⟨kind, row⟩] } }
  if endKnown then answerResend s else { s with mru := { s.mru with discarding := true } }

/-- SCAN_RECORD_BROKEN: a record of this kind and row index meets a parity error, unless its characters
are being discarded (R142). -/
def scanBroken (kind index : Nat) (endKnown : Bool) (s : State) : State :=
  if s.mru.discarding then s
  else match ScanKind.ofCode kind with
    | none => s
    | some k => recordBroken k (if k == .row then some index else none) endKnown s

/-- SCAN_GAP: the scan link has been silent; a record in progress is broken, or characters discarded
until now are answered (R142). -/
def scanSilent (midRecord : Bool) (s : State) : State :=
  if s.mru.discarding then answerResend { s with mru := { s.mru with discarding := false } }
  else if midRecord then answerResend s
  else s

/-! ### Frames -/

/-- The frame open in a buffer is discarded with REJECT and notice SHEET REJECTED: serial, form, cause,
rows held (R144, R145). -/
def rejectFrame (b : Nat) (cause : RejectCause) (s : State) : State :=
  let r := s.bufferOf b
  let s := scanAnswer (.reject cause r.serial) (setBuffer b .initial s)
  notify .sheetRejected [u16 (r.serial.getD 0), u8 (r.form.getD 0), u8 cause.ctorIdx, u8 r.rows.length] s

/-- FRAME OPEN (R143). -/
def frameOpens (form serial : Nat) (s : State) : State :=
  let s := match s.filling with
    | none => s
    | some b => setBuffer b .initial s
  if (s.mru.forms.find form).isNone then scanAnswer (.reject .noForm (some serial)) s
  else match s.freeBuffer with
    | none => scanAnswer .busy s
    | some b => setBuffer b ⟨.filling, some form, some serial, [], false⟩ s

/-- The question count of a buffer's form. -/
def State.questionsOf (s : State) (b : Nat) : Nat :=
  (((s.bufferOf b).form).bind s.mru.forms.find).getD 0

/-- ROW (R144). -/
def rowArrives (index : Nat) (values : List Byte) (s : State) : State :=
  match s.filling with
  | none => s
  | some b =>
    let r := s.bufferOf b
    if index != r.rows.length || rowsPerFrame (s.questionsOf b) ≤ index then rejectFrame b .rowOrder s
    else if values.length != rowValues index then rejectFrame b .rowLength s
    else setBuffer b { r with rows := r.rows ++ [values] } s

/-- The white and black references of a frame's row 0 (R139). -/
def references (rows : List (List Byte)) : Nat × Nat :=
  match rows with
  | (w :: b :: _) :: _ => (w.toNat, b.toNat)
  | _ => (0, 0)

/-- FRAME CLOSE (R145). -/
def frameCloses (total : Nat) (s : State) : State :=
  match s.filling with
  | none => scanAnswer (.reject .noFrame none) s
  | some b =>
    let r := s.bufferOf b
    let rows := rowsPerFrame (s.questionsOf b)
    if total != rows || r.rows.length != rows then rejectFrame b .rowCount s
    else if (references r.rows).2 < (references r.rows).1 + 64 then rejectFrame b .lowContrast s
    else
      let s := setBuffer b { r with state := .full } s
      scanAnswer (.accept (r.serial.getD 0)) { s with mru := { s.mru with fullOrder := s.mru.fullOrder ++ [b] } }

/-- An unbroken scan record is taken, unless its characters are being discarded (R142, R147). The faults it
settles are taken before its own effect (log entry 21). -/
def scanRecord (kind : ScanKind) (row : Option Nat) (take : State → State) (s : State) : State :=
  if s.mru.discarding then s else take (settleWaits kind row s)

end Sys2Proof.Machine
end

