-- ==== Sys2Proof/Machine/Marking.lean ====
section
/-! DEFINITION. The marker (chapter 9): levels and row decisions (R154, R155), the identity decode (R156),
keys and the staging key (R157 to R159), scoring (R160), results (R161), the rescore pass (R162), retries
(R163) and the station's requests on sheets and results (R155, R164, R165). -/

namespace Sys2Proof.Machine

/-! ### Normalization and row decision -/

/-- The level of a raw value against a white and a black reference (R154). -/
def levelOf (w b r : Nat) : Nat :=
  if r ≤ w then 0 else if b ≤ r then 255 else (255 * (r - w) + (b - w) / 2) / (b - w)

/-- The highest level of a list, and 0 of none. -/
def highest (levels : List Nat) : Nat := levels.foldl max 0

/-- The outcome of a row from its levels (R155). -/
def decideRow (t : Settings) (levels : List Nat) : RowOutcome :=
  let d1 := highest levels
  let o1 := levels.findIdx (· == d1)
  let d2 := highest (levels.eraseIdx o1)
  if d1 < t.light then .blank
  else if d1 < t.mark then .light
  else if t.mark ≤ d2 && d1 - d2 < t.separation then .multiple
  else .single o1

/-- The outcome list of a frame's rows: one outcome for each row from 1 to the last (R154, R155). -/
def outcomesOf (t : Settings) (rows : List (List Byte)) : List RowOutcome :=
  let (w, b) := references rows
  rows.tail.map fun row => decideRow t (row.map fun r => levelOf w b r.toNat)

/-- SET MARKING (R155): MARK is clamped first, then SEPARATION, then LIGHT to 20 to MARK − 1. -/
def takeSetMarking (mark separation light : Nat) (s : State) : Response :=
  let m := clampTo 40 240 mark
  let t : Settings := ⟨m, clampTo 8 128 separation, clampTo 20 (m - 1) light⟩
  doneOr (t != ⟨mark, separation, light⟩) { s with mru := { s.mru with settings := t } }
    [u8 t.mark, u8 t.separation, u8 t.light]

/-! ### Identity decode -/

/-- The number the eight digit rows make, if each is SINGLE (R156, check 1). -/
def digitsOf : List RowOutcome → Option Nat → Option Nat
  | [], n => n
  | .single d :: l, some n => digitsOf l (some (n * 10 + d))
  | _ :: _, _ => none

/-- The candidate number an outcome list gives (R156, check 1). -/
def decodedNumber (outcomes : List RowOutcome) : Option Nat := digitsOf (outcomes.take 8) (some 0)

/-- The version an outcome list gives for a paper (R156, check 8). -/
def decodedVersion (r : Paper) (outcomes : List RowOutcome) : Option Nat :=
  if r.versions == 1 then some 0
  else match outcomes[8]? with
    | some (RowOutcome.single v) => if v < r.versions then some v else none
    | _ => none

/-- Checks 2 to 6 of the identity decode on the candidate of a number: the slot, or the reason and the
SUSPECT marker (R156, R161). The record has been read. -/
def State.sittingChecks (s : State) (number : Nat) : Except (SheetReason × Bool) (Nat × Slot) :=
  match s.slotOf number with
  | none => .error (.unknownCandidate, false)
  | some k =>
    match s.slot? k with
    | none => .error (.unknownCandidate, false)
    | some x =>
      if x.suspect then .error (.notSitting, true)
      else match x.cand.state with
        | .expected => .error (.notSitting, false)
        | .absent => .error (.notSitting, false)
        | .withdrawn => .error (.notSitting, false)
        | .waiting => .error (.earlySheet, false)
        | .admitted => .error (.earlySheet, false)
        | .seated => .error (.earlySheet, false)
        | .finished => result k x
        | .collected => result k x
where
  /-- Check 6: the slot holds no result record. -/
  result (k : Nat) (x : Slot) : Except (SheetReason × Bool) (Nat × Slot) :=
    if (s.mru.results.find k).isSome then .error (.duplicate, false) else .ok (k, x)

/-- Stage 3 on the outcome list of a sheet of a form (R156). The candidate record has been read. -/
def State.identityOf (s : State) (form : Nat) (outcomes : List RowOutcome) : Identity :=
  match decodedNumber outcomes with
  | none => .failed ⟨.idUnreadable, none, none, false⟩
  | some number =>
    match s.sittingChecks number with
    | .error (r, suspect) => .failed ⟨r, some number, none, suspect⟩
    | .ok (k, x) =>
      match s.paper? x.cand.paper with
      | none => .failed ⟨.wrongForm, some number, none, false⟩
      | some r =>
        if r.form != form then .failed ⟨.wrongForm, some number, none, false⟩
        else match decodedVersion r outcomes with
          | none => .failed ⟨.versionUnreadable, some number, none, false⟩
          | some v =>
            if (s.keyOf x.cand.paper v).key.isNone then .failed ⟨.noKey, some number, some v, false⟩
            else .found k x.cand.paper v number

/-- The candidate record an outcome list's number finds is read (R156, check 3). -/
def readDecoded (outcomes : List RowOutcome) (s : State) : State :=
  match decodedNumber outcomes with
  | none => s
  | some n => readNumber n s

/-! ### Scoring -/

/-- What a question row contributes, in quarter-marks (R160). -/
def contribution (r : Paper) : RowOutcome → KeyEntry → Int
  | _, .void => 0
  | .single o, .correct set weight => if set.testBit o then weight else -(r.penalty : Int)
  | .multiple, .correct _ _ => if r.multipleWrong then -(r.penalty : Int) else 0
  | .blank, .correct _ _ => 0
  | .light, .correct _ _ => 0

/-- The weight of a key entry; VOID has none (R160). -/
def KeyEntry.weight : KeyEntry → Nat
  | .void => 0
  | .correct _ w => w

/-- The sum of the contributions of questions `first` up to before `stop` (question 1 first), or 0 where it
is below 0 (R160). -/
def sectionScore (cs : List Int) (first stop : Nat) : Nat :=
  (((cs.drop (first - 1)).take (stop - first)).foldl (· + ·) 0).toNat

/-- The section scores, from the section starts (R160). -/
def sectionScores (cs : List Int) : List Nat → List Nat
  | [] => []
  | [a] => [sectionScore cs a (cs.length + 1)]
  | a :: b :: l => sectionScore cs a b :: sectionScores cs (b :: l)

/-- The percentage of a total, in hundredths of a percent, or NO SCORE (R160). -/
def percentOf (total maximum : Nat) : Option Nat :=
  if maximum = 0 then none else some ((10000 * total + maximum / 2) / maximum)

/-- Stage 4: an outcome list is scored against a key (R160). -/
def scoreOf (r : Paper) (key : List KeyEntry) (outcomes : List RowOutcome) : Score :=
  let questions := outcomes.drop 9
  let sections := sectionScores (List.zipWith (contribution r) questions key) r.sections
  let maximum := sumOf (key.map KeyEntry.weight)
  { sections := sections, total := sumOf sections, maximum := maximum,
    percent := percentOf (sumOf sections) maximum,
    blanks := questions.count .blank, lights := questions.count .light, multiples := questions.count .multiple }

/-! ### Results and the rescore pass -/

/-- The slots whose results belong to candidates of a paper and are stale or suspect (R162). The paper of each candidate,
suspect or not, is its shadow's, and the lookup reads no record (log entry 67). -/
def State.toRescore (s : State) (p : Nat) : List Nat :=
  (s.mru.results.keysWhere fun r => r.stale || r.suspect).filter fun k =>
    ((s.slot? k).map (·.ofPaper p)).getD false

/-- A result of a paper has become stale: the again flag of its running pass is set, or its rescore
pending flag (R159, R161). -/
def rescoreLater (p : Nat) (s : State) : State :=
  match s.mru.pass with
  | some q =>
    if q.paper == p then { s with mru := { s.mru with pass := some { q with again := true } } }
    else pending s
  | none => pending s
where
  /-- The rescore pending flag of the paper is set. -/
  pending (s : State) : State :=
    if s.mru.rescorePending.contains p then s
    else { s with mru := { s.mru with rescorePending := insertBy id p s.mru.rescorePending } }

/-- A result record is written whole into a slot (R161, R177): its words are mended, its suspect mark is
as given. -/
def writeResult (k : Nat) (r : ResultRecord) (s : State) : State :=
  mendRecord (.result k) { s with mru := { s.mru with results := s.mru.results.put k r } }

def dropResult (k : Nat) (s : State) : State :=
  mendRecord (.result k) { s with mru := { s.mru with results := s.mru.results.drop k } }

/-- The next slot of a running pass (R162). -/
def State.nextRescore (s : State) (q : Pass) : Option Nat :=
  (s.toRescore q.paper).find? fun k =>
    match q.last with
    | none => true
    | some l => l < k

/-- A pass with no slot left ends or repeats: it repeats where its again flag is set and a result of the
paper is still stale or suspect, and otherwise sends RESCORED (R162). -/
def passOn (s : State) : State :=
  match s.mru.pass with
  | none => s
  | some q =>
    if (s.nextRescore q).isSome then s
    else if q.again && !(s.toRescore q.paper).isEmpty then
      { s with mru := { s.mru with pass := some { q with last := none, again := false } } }
    else notify .rescored [u8 q.paper, u16 q.rescored, u16 q.removed] { s with mru := { s.mru with pass := none } }

/-- A pass starts for the lowest-indexed paper whose rescore pending flag is set, if none is running
(R162). -/
def startPass (s : State) : State :=
  match s.mru.pass, s.mru.rescorePending with
  | none, p :: rest => { s with mru := { s.mru with pass := some ⟨p, none, false, 0, 0⟩, rescorePending := rest } }
  | _, _ => s

/-! ### The exception list -/

/-- The first value from `n` on, modulo 65,536, that no entry of the list holds (R148). -/
def freeNumber (l : List SheetException) : Nat → Nat → Nat
  | 0, n => n
  | fuel + 1, n => if l.any (·.number == n) then freeNumber l fuel ((n + 1) % 65536) else n

/-- Notice SHEET EXCEPTION: entry number, serial, form, reason, decoded number where present, and the
SUSPECT marker (R153, R156). -/
def exceptionNotice (e : SheetException) (suspect : Bool) (s : State) : State :=
  notify .sheetException [u16 e.number, u16 e.serial, u8 e.form, u8 e.reason.ctorIdx, ⟨4, e.decNumber⟩,
    flag suspect] s

/-- An exception entry joins the tail of the list with its entry number (R148, R149). -/
def joinExceptions (serial form : Nat) (f : Failure) (outcomes : List RowOutcome) (s : State) : State :=
  let n := freeNumber s.mru.exceptions 33 s.mru.counter
  let e : SheetException := ⟨n, serial, form, f.reason, f.number, f.version, outcomes, false⟩
  exceptionNotice e f.suspect
    { s with mru := { s.mru with exceptions := s.mru.exceptions ++ [e], counter := (n + 1) % 65536 } }

/-- A held buffer's flag is cleared as an entry leaves the exception list (R149). -/
def Buffer.unheld (b : Buffer) : Buffer := { b with held := false }

/-- An entry leaves the exception list, which releases the held buffers (R149, R150). -/
def leaveExceptions (n : Nat) (s : State) : State :=
  { s with mru := { s.mru with
      exceptions := s.mru.exceptions.filter (·.number != n)
      buffer0 := s.mru.buffer0.unheld, buffer1 := s.mru.buffer1.unheld } }

/-- The exception entry of a number. -/
def State.exception? (s : State) (n : Nat) : Option SheetException :=
  s.mru.exceptions.find? fun e => e.number == n

/-- An entry of the exception list is changed. -/
def modException (n : Nat) (f : SheetException → SheetException) (s : State) : State :=
  { s with mru := { s.mru with exceptions := s.mru.exceptions.map fun e => if e.number == n then f e else e } }

/-! ### The marker takes work -/

/-- The oldest FULL buffer whose held flag is clear (R152). -/
def State.sheetWork (s : State) : Option Nat := s.mru.fullOrder.find? fun b => !(s.bufferOf b).held

def setMarker (m : Option MarkOp) (s : State) : State := { s with mru := { s.mru with marker := m } }

/-- A rescore step starts, if a pass is running: it takes the record of the next slot and, for a stale one,
the key and generation of its version (R160, R162). A pass whose last slot went between two steps ends here, when
the marker next chooses a rescore step (log entry 66). -/
def takeRescore (s : State) : State :=
  let s := passOn (startPass s)
  match s.mru.pass with
  | none => s
  | some q =>
    match s.nextRescore q with
    | none => s
    | some k =>
      match s.mru.results.find k with
      | none => s
      | some r =>
        let key := s.keyOf q.paper r.version
        setMarker (some ⟨.rescore k r key.key key.generation, s.mru.settings⟩) s

/-- The IDLE marker takes one piece of work: a sheet, then a retry, then a rescore step (R152). -/
def takeWork (s : State) : State :=
  match s.sheetWork with
  | some b =>
    setMarker (some ⟨.sheet b .taken, s.mru.settings⟩)
      (setBuffer b { s.bufferOf b with state := .marking }
        { s with mru := { s.mru with fullOrder := s.mru.fullOrder.filter (· != b) } })
  | none =>
    match s.mru.exceptions.find? (·.queued) with
    | some e =>
      setMarker (some ⟨.retry e.number .taken, s.mru.settings⟩)
        (modException e.number (fun x => { x with queued := false }) s)
    | none => takeRescore s

/-! ### The stages of a SHEET or RETRY operation -/

/-- The serial, form and outcome list an operation works on: from the raw rows of a buffer, with the
settings read at the start, or from an exception entry (R153, R155, R163). -/
def State.subject (s : State) (m : MarkOp) : Option (Nat × Nat × List RowOutcome) :=
  match m.work with
  | .sheet b _ =>
    let r := s.bufferOf b
    some (r.serial.getD 0, r.form.getD 0, outcomesOf m.settings r.rows)
  | .retry n _ => (s.exception? n).map fun e => (e.serial, e.form, e.outcomes)
  | .rescore _ _ _ _ => none

/-- Stage 3 made on an operation's outcome list: the candidate record is read, and the paper, version and
number found, or the exception the stage ends in (R156). -/
def decodeStage (form : Nat) (outcomes : List RowOutcome) (s : State) : State × Except Failure Decoded :=
  let s := readDecoded outcomes s
  match s.identityOf form outcomes with
  | .failed f => (s, .error f)
  | .found _ p v number => (s, .ok ⟨p, v, number⟩)

/-- The key and generation taken at the start of Stage 4; with no key in its slot the stage ends in NO KEY
(R160). -/
def State.snapshotOf (s : State) (d : Decoded) : Except Failure Snapshot :=
  let key := s.keyOf d.paper d.version
  match key.key with
  | none => .error ⟨.noKey, some d.number, some d.version, false⟩
  | some k => .ok ⟨d, k, key.generation⟩

/-- An operation's stages up to the identity decode are made, where they have not been yet. -/
def reachDecoded (form : Nat) (outcomes : List RowOutcome) (g : Progress) (s : State) :
    State × Except Failure Progress :=
  match g with
  | .taken =>
    let (s, d) := decodeStage form outcomes s
    (s, d.map .decoded)
  | _ => (s, .ok g)

/-- An operation's stages up to the snapshot of Stage 4 are made, where they have not been yet. -/
def reachSnapshot (form : Nat) (outcomes : List RowOutcome) (g : Progress) (s : State) :
    State × Except Failure Snapshot :=
  match g with
  | .snapshot n => (s, .ok n)
  | .decoded d => (s, s.snapshotOf d)
  | .taken =>
    match decodeStage form outcomes s with
    | (s, .error f) => (s, .error f)
    | (s, .ok d) => (s, s.snapshotOf d)

/-- The progress of an operation's work. -/
def MarkWork.progress : MarkWork → Progress
  | .sheet _ g => g
  | .retry _ g => g
  | .rescore _ _ _ _ => .taken

def MarkWork.withProgress (g : Progress) : MarkWork → MarkWork
  | .sheet b _ => .sheet b g
  | .retry n _ => .retry n g
  | .rescore k r key gen => .rescore k r key gen

/-! ### The end of a marking operation -/

/-- The marker becomes IDLE and the held CORRECTED notices are released (R152, R178). -/
def markerIdle (s : State) : State := releaseHeld (setMarker none s)

/-- What a SHEET or RETRY operation comes to. -/
inductive Marked where
  /-- The result to be written into a slot, with the paper, the candidate number and whether it is stale. -/
  | scored (slot paper number : Nat) (r : ResultRecord)
  | failed (f : Failure)
  deriving DecidableEq, Repr

/-- The writing step's judgement: checks 2 to 6 are made again, and the result is stale if the snapshot's
generation is not the key slot's (R161). -/
def State.judge (s : State) (serial form : Nat) (outcomes : List RowOutcome) (n : Snapshot) : Marked :=
  match s.paper? n.found.paper, s.sittingChecks n.found.number with
  | _, .error (why, suspect) => .failed ⟨why, some n.found.number, none, suspect⟩
  | none, _ => .failed ⟨.wrongForm, some n.found.number, none, false⟩
  | some r, .ok (k, _) =>
    .scored k n.found.paper n.found.number
      { serial := serial, form := form, version := n.found.version, generation := n.generation,
        outcomes := outcomes, score := scoreOf r n.key outcomes,
        stale := n.generation != (s.keyOf n.found.paper n.found.version).generation, suspect := false }

/-- The operation's stages left are made, and its writing step judged (R153, R161). -/
def finishStages (serial form : Nat) (outcomes : List RowOutcome) (g : Progress) (s : State) : State × Marked :=
  match reachSnapshot form outcomes g s with
  | (s, .error f) => (s, .failed f)
  | (s, .ok n) =>
    let s := readDecoded outcomes s
    (s, s.judge serial form outcomes n)

/-- The result of a writing step is written; a stale one is to be rescored (R161). A write does not clear
a suspect mark: the slot holds no record, and so no mark. -/
def storeResult (k p : Nat) (r : ResultRecord) (s : State) : State :=
  let s := writeResult k r s
  if r.stale then rescoreLater p s else s

/-- A SHEET operation of a buffer ends (R153, R149). Notice SHEET HELD gives the buffer number as 1 byte (log
entry 9). -/
def endSheet (b serial form : Nat) (outcomes : List RowOutcome) (o : Marked) (s : State) : State :=
  match o with
  | .scored k p number r =>
    let s := setBuffer b .initial (storeResult k p r s)
    notify .sheetMarked [u16 serial, u16 k, u32 number, u8 p, u8 r.version, u16 r.score.total,
      u16 r.score.maximum, o16 r.score.percent] s
  | .failed f =>
    if s.mru.exceptions.length < Config.exceptionLimit then
      joinExceptions serial form f outcomes (setBuffer b .initial s)
    else
      let s := setBuffer b { s.bufferOf b with state := .full, held := true } s
      notify .sheetHeld [u16 serial, u8 form, u8 b, u8 f.reason.ctorIdx]
        { s with mru := { s.mru with fullOrder := s.mru.fullOrder ++ [b] } }

/-- A retry of an exception entry ends (R163). -/
def endRetry (e : SheetException) (o : Marked) (s : State) : State :=
  match o with
  | .scored k p _ r =>
    let s := leaveExceptions e.number (storeResult k p r s)
    notify .exceptionResolved [u16 e.number, u16 e.serial, u16 k, o16 r.score.percent] s
  | .failed f =>
    let new := { e with reason := f.reason, decNumber := f.number, decVersion := f.version }
    let s := modException e.number
      (fun x => { x with reason := f.reason, decNumber := f.number, decVersion := f.version }) s
    if f.reason != e.reason then exceptionNotice new f.suspect s else s

/-- A SHEET or RETRY operation ends with its outcome, and the marker is IDLE (R152, R153, R163). -/
def endOperation (work : MarkWork) (serial form : Nat) (outcomes : List RowOutcome) (o : Marked) (s : State) :
    State :=
  markerIdle <|
    match work with
    | .sheet b _ => endSheet b serial form outcomes o s
    | .retry n _ =>
      match s.exception? n with
      | none => s
      | some e => endRetry e o s
    | .rescore _ _ _ _ => s

/-- The operation in flight makes the stages it has left, and ends. -/
def finishOperation (m : MarkOp) (s : State) : State :=
  match s.subject m with
  | none => markerIdle s
  | some (serial, form, outcomes) =>
    let (s, o) := finishStages serial form outcomes m.work.progress s
    endOperation m.work serial form outcomes o s

/-- SHEET_OPERATION_END (R153). -/
def sheetEnds (s : State) : State :=
  match s.mru.marker with
  | some ⟨.sheet b g, settings⟩ => finishOperation ⟨.sheet b g, settings⟩ s
  | _ => s

/-- RETRY_END (R163). -/
def retryEnds (s : State) : State :=
  match s.mru.marker with
  | some ⟨.retry n g, settings⟩ => finishOperation ⟨.retry n g, settings⟩ s
  | _ => s

/-! ### An operation goes on -/

/-- The operation in flight reaches a stage, 1 the identity decode, 2 the snapshot of Stage 4; a stage that ends
in an exception ends the operation there (R153, R156, R160). -/
def advanceMarker (reach : Nat) (s : State) : State :=
  match s.mru.marker with
  | none => s
  | some m =>
    match s.subject m with
    | none => s
    | some (serial, form, outcomes) =>
      if reach = 0 then s
      else
        let (s, g) :=
          if reach = 1 then reachDecoded form outcomes m.work.progress s
          else
            let (s, n) := reachSnapshot form outcomes m.work.progress s
            (s, n.map .snapshot)
        match g with
        | .ok g => setMarker (some { m with work := m.work.withProgress g }) s
        | .error f => endOperation m.work serial form outcomes (.failed f) s

/-- MARKER_TAKES_WORK: an IDLE marker takes work (R152); the operation in flight then goes on as far as
`reach` says (log entry 19). -/
def markerTakesWork (reach : Nat) (s : State) : State :=
  advanceMarker reach (if s.mru.marker.isNone then takeWork s else s)

/-! ### Rescore steps -/

/-- A pass with its again flag set. -/
def Pass.repeated (q : Pass) : Pass := { q with again := true }

def modPass (f : Pass → Pass) (s : State) : State := { s with mru := { s.mru with pass := s.mru.pass.map f } }

/-- Whether a slot's record is the one a rescore step took: the same but for its stale and suspect marks. -/
def ResultRecord.same (a b : ResultRecord) : Bool :=
  { a with stale := b.stale, suspect := b.suspect } == b

/-- A suspect record is removed, and the DUPLICATE entries of its candidate are queued for retry (R162,
R163). The number is the candidate's shadow's, with no read of its record (log entry 67). -/
def removeSuspect (k : Nat) (s : State) : State :=
  let number := (s.slot? k).bind (·.shadow.number)
  let s := notify .resultDropped [u16 k, ⟨4, number⟩] (dropResult k s)
  modPass (fun q => { q with removed := q.removed + 1 })
    (queueRetries (fun e => e.reason == .duplicate && e.decNumber == number) s)

/-- A stale record is scored again and written, if the slot still holds the record the step took. Where the record has
become suspect, or the step's own read makes it so, nothing is written and the pass's again flag is set (R162). A step
whose snapshot holds no key writes nothing and counts nothing (log entry 55). -/
def rescoreRecord (k : Nat) (p : Nat) (old : ResultRecord) (key : Option (List KeyEntry)) (gen : Nat)
    (s : State) : State :=
  let before := s.suspectOf (.result k)
  let s := readResult k s
  match s.mru.results.find k with
  | none => s
  | some r =>
    if r.suspect then if r.same old || before == some false then modPass Pass.repeated s else s
    else if !r.same old then s
    else
      match key, s.paper? p with
      | some key, some paper =>
        let stale := gen != (s.keyOf p r.version).generation
        let new := { r with generation := gen, score := scoreOf paper key r.outcomes, stale := stale }
        let s := { s with mru := { s.mru with results := s.mru.results.put k new } }
        let s := modPass (fun q => { q with rescored := q.rescored + 1 }) s
        if stale then rescoreLater p s else s
      | _, _ => s

/-- RESCORE_STEP_END (R162). DESIGN CHOICE (log entry 69): a step on a suspect record looks only at the suspect mark the
slot carries at its end, also where ASSIGN SHEET replaced the record since the step began. The replacement is removed if
it is suspect too; else nothing is written and nothing counted. -/
def rescoreEnds (s : State) : State :=
  match s.mru.marker, s.mru.pass with
  | some ⟨.rescore k old key gen, _⟩, some q =>
    let s :=
      if old.suspect then
        if (s.mru.results.find k).map (·.suspect) == some true then removeSuspect k s else s
      else rescoreRecord k q.paper old key gen s
    markerIdle (passOn (modPass (fun q => { q with last := some k }) s))
  | _, _ => s

/-! ### Keys -/

/-- The staging key as an install takes it: every question's entry, question 1 first. -/
def Staging.complete (g : Staging) : Bool := g.entries.length == g.questions

/-- A result becomes stale where a key of its version with another generation is installed (R159). -/
def ResultRecord.afterInstall (v gen : Nat) (r : ResultRecord) : ResultRecord :=
  if !r.suspect && r.version == v && r.generation != gen then { r with stale := true } else r

/-- Whether the candidate of a slot number is of a paper, by its shadow: an install counts the suspect candidates too, and
reads no candidate record (R159, log entry 67). -/
def State.slotOfPaper (s : State) (p k : Nat) : Bool := ((s.slot? k).map (·.ofPaper p)).getD false

/-- The results of a paper's candidates are read (R177), the candidate records not (log entry 67). -/
def readPaperResults (p : Nat) (s : State) : State :=
  (s.mru.results.keys.filter (s.slotOfPaper p)).foldl (fun s k => readResult k s) s

/-- Whether an exception entry is queued for retry by the install of a key (R159, R163). -/
def State.awaitsKey (s : State) (p v : Nat) (e : SheetException) : Bool :=
  e.reason == .noKey && e.decVersion == some v
    && ((e.decNumber.bind s.slotOf).map (s.slotOfPaper p)).getD false

/-- The staged key is installed and the staging key cleared (R158, R159). A result whose read fails is passed over, and
the entry is answered DONE (log entry 62). -/
def installKey (g : Staging) (s : State) : State :=
  let p := g.paper
  let v := g.version
  let gen := ((s.keyOf p v).generation + 1) % 65536
  let s := readPaperResults p s
  let stale (r : ResultRecord) : Bool := !r.suspect && r.version == v && r.generation != gen
  let any := List.any s.mru.results fun e => s.slotOfPaper p e.1 && stale e.2
  let results := s.mru.results.mapAll fun k r => if s.slotOfPaper p k then r.afterInstall v gen else r
  let keys := s.mru.keys.put (p * 4 + v) ⟨some (g.entries.map Prod.snd), gen⟩
  let queue := queueRetries (s.awaitsKey p v)
  let s := queue { s with mru := { s.mru with keys := keys, results := results, staging := none } }
  if any then rescoreLater p s else s

/-- Why a LOAD KEY header is refused, if it is (R158). -/
def State.keyHeaderRefusal (s : State) (paper version questions mode : Nat) : Option Reason :=
  if Config.paperCount ≤ paper || 4 ≤ version || 2 ≤ mode then some .badValue
  else match s.paper? paper with
    | none => some .notFound
    | some r =>
      if r.versions ≤ version then some .badValue
      else if s.mru.forms.find r.form != some questions then some .wrongForm
      else if mode == 1 && !(s.mru.staging.map fun g => g.paper == paper && g.version == version).getD false then
        some .wrongState
      else none

/-- A LOAD KEY header that passes: with NEW (mode 0) the staging key is cleared for the paper and version
(R158). -/
def startStaging (paper version questions mode : Nat) (s : State) : State :=
  if mode == 0 then { s with mru := { s.mru with staging := some ⟨paper, version, questions, []⟩ } } else s

/-- A key entry from the pair that was sent, or none where the pair is refused (R158). -/
def keyEntryOf (pair : Nat × Nat) : Option KeyEntry :=
  match pair with
  | (0, 0) => some .void
  | (set, weight) =>
    if set == 0 || 32 ≤ set || weight < 1 || 32 < weight then none else some (.correct set weight)

/-- A run of key entries written into the staging key, from a question on. -/
def stageRun (t : Table KeyEntry) : Nat → List KeyEntry → Table KeyEntry
  | _, [] => t
  | q, e :: l => stageRun (t.put q e) (q + 1) l

/-- One LOAD KEY entry, and whether it installed a key (R158, R159). -/
def takeKeyEntry (first run : Nat) (pairs : List (Nat × Nat)) (s : State) : State × Answer × Bool :=
  match s.mru.staging with
  | none => (s, .no .wrongState, false)
  | some g =>
    if run < 1 || 8 < run || first < 1 || g.questions < first + run - 1 then (s, .no .badValue, false)
    else match pairs.mapM keyEntryOf with
      | none => (s, .no .badValue, false)
      | some es =>
        let g := { g with entries := stageRun g.entries first es }
        if g.complete then (installKey g s, .ok [], true)
        else ({ s with mru := { s.mru with staging := some g } }, .ok [], false)

/-! ### Station requests on sheets and results -/

/-- Whether the marker's operation in flight is the retry of an entry. -/
def State.retrying (s : State) (n : Nat) : Bool :=
  match s.mru.marker with
  | some ⟨.retry m _, _⟩ => m == n
  | _ => false

/-- The result record ASSIGN SHEET writes (R164). -/
def assignedResult (e : SheetException) (v gen : Nat) (score : Score) : ResultRecord :=
  { serial := e.serial, form := e.form, version := v, generation := gen, outcomes := e.outcomes,
    score := score, stale := false, suspect := false }

/-- ASSIGN SHEET (R164). -/
def takeAssignSheet (entry number version : Nat) (s : State) : Response :=
  if Config.maxNumber < number || 4 ≤ version then refuse s .badValue
  else match s.exception? entry, s.slotOf number with
    | some e, some k =>
      let s := readSlot k s
      match s.slot? k with
      | none => refuse s .notFound
      | some x =>
        if x.suspect then refuse s .suspect
        else if !(x.cand.state == .finished || x.cand.state == .collected) then refuse s .wrongState
        else match s.paper? x.cand.paper with
          | none => refuse s .wrongForm
          | some r =>
            if r.form != e.form then refuse s .wrongForm
            else if r.versions ≤ version then refuse s .badValue
            else match (s.keyOf x.cand.paper version).key with
              | none => refuse s .wrongState
              | some key =>
                if s.retrying entry then refuse s .busy
                else
                  let score := scoreOf r key e.outcomes
                  let gen := (s.keyOf x.cand.paper version).generation
                  done (leaveExceptions entry (writeResult k (assignedResult e version gen score) s))
                    [u16 k, u16 score.total, u16 score.maximum, o16 score.percent]
    | _, _ => refuse s .notFound

/-- DISCARD SHEET (R165). -/
def takeDiscardSheet (entry : Nat) (s : State) : Response :=
  match s.exception? entry with
  | none => refuse s .notFound
  | some e =>
    let t := leaveExceptions entry s
    done (if s.retrying entry then markerIdle t else t) [u16 e.serial, u8 e.reason.ctorIdx]

/-- An outcome as one byte: BLANK 0, LIGHT 1, MULTIPLE 2, SINGLE 3 and its bubble (log entry 9). -/
def RowOutcome.field : RowOutcome → Field
  | .blank => u8 0
  | .light => u8 1
  | .multiple => u8 2
  | .single b => u8 (3 + b)

/-- READ EXCEPTION (R165): the entry's fields in the order of R148, its position, the number of entries. -/
def takeReadException (entry : Nat) (s : State) : Response :=
  match s.exception? entry with
  | none => refuse s .notFound
  | some e =>
    done s ([u16 e.number, u16 e.serial, u8 e.form, u8 e.reason.ctorIdx, ⟨4, e.decNumber⟩, o8 e.decVersion]
      ++ listField (fun o => [o.field]) e.outcomes
      ++ [flag e.queued, o8 (positionOf entry (s.mru.exceptions.map (·.number))), u8 s.mru.exceptions.length])

/-- The fields READ RESULT gives of a readable record: those of R161 in their order, and the paper's current
generation for its version (R165). -/
def State.resultFields (s : State) (paper : Nat) (r : ResultRecord) : List Field :=
  [u16 r.serial, u8 r.form, u8 r.version, u16 r.generation]
    ++ listField (fun o => [o.field]) r.outcomes ++ listField (fun n => [u16 n]) r.score.sections
    ++ [u16 r.score.total, u16 r.score.maximum, o16 r.score.percent, u8 r.score.blanks,
        u8 r.score.lights, u8 r.score.multiples, flag r.stale, u16 (s.keyOf paper r.version).generation]

/-- READ RESULT (R165): NOT FOUND where no slot holds the number or the slot has no result, before the candidate
is looked at; the SUSPECT marker alone, or the marker clear and the record's fields. -/
def takeReadResult (number : Nat) (s : State) : Response :=
  if number ≤ Config.maxNumber && ((s.slotOf number).bind s.mru.results.find).isNone then refuse s .notFound
  else withCandidate number s fun k x s =>
    match s.mru.results.find k with
    | none => refuse s .notFound
    | some r =>
      if r.suspect then done s [flag true]
      else
        let s := readResult k s
        if ((s.mru.results.find k).map (·.suspect)).getD true then refuse s .suspect
        else done s (flag false :: s.resultFields x.cand.paper r)

end Sys2Proof.Machine
end

