-- ==== Sys2Proof/Machine/Capture.lean ====
section
/-! DEFINITION. Fault Capture's requests (chapter 11): SET REPORTING (R178), READ FAULT (R179), REPAIR SEAT
(R180) and REPAIR CANDIDATE (R181). -/

namespace Sys2Proof.Machine

/-- SET REPORTING (R178). -/
def takeSetReporting (level : Nat) (s : State) : Response :=
  match Reporting.ofCode level with
  | none => refuse s .badValue
  | some l => done { s with fcu := { s.fcu with level := l } } [u8 s.fcu.level.ctorIdx]

/-- The fields of the capture record, or of its absence, each field all ones (R179, log entry 63). -/
def captureFields : Option FaultReport → List Field
  | some f => f.fields
  | none => [o8 none, o8 none, o16 none, o8 none, o24 none]

/-- READ FAULT (R179). -/
def takeReadFault (s : State) : Response :=
  done { s with fcu := { s.fcu with capture := none, further := false } }
    (captureFields s.fcu.capture ++ [flag s.fcu.further])

/-! ### REPAIR SEAT -/

/-- The record REPAIR SEAT writes over an old one, zone, row and position kept (R180). -/
def repairedSeat (old : Seat) (f : SeatFields) (c : SeatClass) (st : SeatState) : Seat :=
  { old with cls := c, desk := f.desk, state := st, occupant := f.occupant, lastPaper := f.lastPaper,
             used := f.used == 1, override := f.override == 1, suspect := false }

/-- The value checks of REPAIR SEAT (R180, check 1). -/
def seatFieldsOk (seat : Nat) (f : SeatFields) (st : SeatState) : Bool :=
  seat ≤ 511 && addressOk f.desk && !beyond 575 f.occupant && !beyond 15 f.lastPaper && f.used ≤ 1 && f.override ≤ 1
    && f.occupant.isSome == (st == .held || st == .occupied)
    && (if st.inUse then f.lastPaper.isSome else f.lastPaper.isNone && f.override == 0)

/-- Whether a non-suspect candidate that names a seat disagrees with the record given for it (R180). -/
def disagrees (seat : Nat) (f : SeatFields) (st : SeatState) (k : Nat) (x : Slot) : Bool :=
  !x.suspect && x.cand.seat == some seat &&
    (f.occupant != some k
      || !(x.cand.state == .admitted || x.cand.state == .seated || x.cand.state == .finished)
      || (x.cand.state == .admitted && st == .occupied) || (x.cand.state == .seated && st == .held))

/-- Whether the occupant given disagrees with its own record: no candidate, or a non-suspect one that does
not name the seat or is of another paper (R180). -/
def State.occupantWrong (s : State) (seat : Nat) (f : SeatFields) : Bool :=
  match f.occupant with
  | none => false
  | some k =>
    match s.slot? k with
    | none => true
    | some x => !x.suspect && (x.cand.seat != some seat || some x.cand.paper != f.lastPaper)

/-- The conflicts of REPAIR SEAT (R180, check 4). The address that a suspect seat's record last held counts as named
(log entry 64). -/
def State.seatConflict (s : State) (seat : Nat) (f : SeatFields) (st : SeatState) : Bool :=
  s.addressTaken seat f.desk
    || (f.occupant.isSome && List.any s.hmu.seats fun e => e.1 != seat && !e.2.suspect && e.2.occupant == f.occupant)
    || (List.any s.rsu.slots fun e => disagrees seat f st e.1 e.2)
    || s.occupantWrong seat f
    || (f.override == 0 && (f.lastPaper.map fun p => !s.spacingHolds p seat).getD false)

/-- A desk whose seat's record has been repaired: nothing of the damaged record is read, so its finish window
is closed whoever sits there now (log entry 50), and its long-press count goes unless the seat is OCCUPIED. -/
def Desk.afterRepair (st : SeatState) (d : Desk) : Desk :=
  { d with window := none, longPress := if st == .occupied then d.longPress else none }

/-- A repaired seat record is written whole, with what follows in the same step (R180). -/
def writeRepairedSeat (seat : Nat) (new : Seat) (s : State) : State :=
  let s := mendRecord (.seat seat) { s with hmu := { s.hmu with seats := s.hmu.seats.put seat new } }
  let s := syncDesks s
  let s := match new.desk with
    | none => s
    | some a => modDesk a (Desk.afterRepair new.state) s
  let s := if new.state == .occupied then s else dropCall seat s
  if new.state == .free then retryTrigger s else s

/-- How many seats and candidates carry the suspect mark. -/
def State.suspects (s : State) : Nat := s.hmu.seats.count (·.suspect) + s.rsu.slots.count (·.suspect)

/-- REPAIR SEAT (R180). The conflicts are looked for in every seat and candidate record that is not suspect; where
a read of theirs fails, the request is refused SUSPECT (R177), in the conflicts' place (log entry 57). Every seat is
read before every slot (log entry 15). -/
def takeRepairSeat (seat : Nat) (f : SeatFields) (s : State) : Response :=
  match SeatClass.ofCode f.cls, SeatState.ofCode f.state with
  | some c, some st =>
    if !seatFieldsOk seat f st then refuse s .badValue
    else match s.seat? seat with
      | none => refuse s .notFound
      | some old =>
        if !old.suspect then refuse s .wrongState
        else
          let t := readSlots (readAllSeats s)
          if t.suspects != s.suspects then refuse t .suspect
          else if t.seatConflict seat f st then refuse t .conflict
          else done (writeRepairedSeat seat (repairedSeat old f c st) t) []
  | _, _ => refuse s .badValue

/-! ### REPAIR CANDIDATE -/

/-- The states before hold, in the order of R81. -/
def beforeOfCode (n : Nat) : Option ClockState := [ClockState.reading, .running, .paused][n]?

/-- An optional named value: absent, or a value of its list. -/
def optionally {α : Type} (ofCode : Nat → Option α) : Option Nat → Option (Option α)
  | none => some none
  | some n => (ofCode n).map some

/-- The ranges of the numbers REPAIR CANDIDATE gives (R21, R81, R181 check 1). -/
def candidateRangesOk (slot : Nat) (f : CandidateFields) : Bool :=
  slot < Config.slotCount && f.number ≤ Config.maxNumber && f.paper < Config.paperCount && f.allowance ≤ 100
    && f.breakBudget ≤ 3600 && !beyond 511 f.preplaced && !beyond 511 f.seat && !beyond 511 f.lastSeat
    && !beyond 86399 f.admTime && !beyond 900 f.walk && f.issued ≤ 8 && !beyond 8 f.returned
    && f.remaining ≤ Config.maxRemaining && !beyond Config.maxRemaining f.extended && f.budget ≤ 3600
    && f.warnIndex ≤ 4

/-- Whether the seat field's presence fits the state (R181, check 1). -/
def seatPresenceOk (st : CandidateState) (seat : Option Nat) : Bool :=
  match st with
  | .admitted => seat.isSome
  | .seated => seat.isSome
  | .finished => true
  | _ => seat.isNone

/-- The record and clock REPAIR CANDIDATE writes, if its values are in their ranges (R181, check 1). The last
seat is written as given, whatever seat is given beside it (log entry 25). -/
def repairedCandidate (slot : Nat) (f : CandidateFields) : Option (Candidate × Clock) := do
  let cls ← CandidateClass.ofCode f.cls
  let st ← CandidateState.ofCode f.state
  let reason ← optionally FinishReason.ofCode f.reason
  let clock ← ClockState.ofCode f.clockState
  let before ← optionally beforeOfCode f.before
  let discrepancy ← flagOfCode f.discrepancy
  if candidateRangesOk slot f && seatPresenceOk st f.seat then
    some ({ number := f.number, paper := f.paper, cls := cls, allowance := f.allowance,
            breakBudget := f.breakBudget, preplaced := f.preplaced, state := st, seat := f.seat,
            lastSeat := f.lastSeat, source := none, admTime := f.admTime, walk := f.walk, reason := reason,
            issued := f.issued, returned := f.returned, discrepancy := discrepancy },
          { state := clock, remaining := f.remaining, extended := f.extended, before := before,
            budget := f.budget, warnIndex := f.warnIndex })
  else none

/-- Whether an allocation request for a slot waits at the arbiter or is being served (R181, check 2). The retry
requester's waiting request is for no slot until it is served, and is not counted (log entry 65). -/
def State.allocating (s : State) (k : Nat) : Bool :=
  s.sal.reqDoor0 == some k || s.sal.reqDoor1 == some k || s.sal.reqStation == some (.allocation k)
    || (s.sal.serving.map (·.slot)) == some k

/-- Whether a readable seat names a slot as occupant (R181, check 6). -/
def State.occupies (s : State) (k : Nat) : Bool := s.hmu.seats.any fun t => !t.suspect && t.occupant == some k

/-- Whether a seat's state fits the state of its occupant (R181, check 6). -/
def seatFits : CandidateState → SeatState → Bool
  | .admitted, st => st == .held
  | .seated, st => st == .occupied
  | _, st => st == .held || st == .occupied

/-- Whether the seat a repaired record names, or its absence, conflicts with the seat table (R181, check 6). -/
def State.seatFieldConflict (s : State) (k : Nat) (c : Candidate) : Bool :=
  match c.seat with
  | none => s.occupies k
  | some n =>
    match s.seat? n with
    | none => true
    | some t => t.occupant != some k || !seatFits c.state t.state

/-- Whether a clock breaks the law of R81 on states and papers. -/
def clockUnlawful (c : Candidate) (g : Clock) (r : Paper) : Bool :=
  let begun := r.state == .reading || r.state == .writing || r.state == .overtime || r.state == .closed
  let ended := g.state == .stopped || g.state == .expired
  let past := c.state == .finished || c.state == .collected
  (g.state != .none && !((c.state.present || past) && begun)) || (past && !ended)

/-- Whether a clock is held as the hall is not, or runs while the hall is held, or keeps a state before
hold without being HELD (R181, check 6). -/
def clockAgainstHold (held : Bool) (g : Clock) : Bool :=
  (g.state == .held && !held)
    || ((g.state == .reading || g.state == .running || g.state == .paused) && held)
    || (g.before.isSome && g.state != .held)

/-- The conflicts of REPAIR CANDIDATE with USED (R181, check 6). -/
def State.candidateConflict (s : State) (k : Nat) (c : Candidate) (g : Clock) (r : Paper) : Bool :=
  s.seatFieldConflict k c
    || (c.state == .waiting && !s.sal.wait.contains k)
    || clockUnlawful c g r
    || (g.state.isOpen && r.state == .closed)
    || clockAgainstHold s.ssu.held g
    || ((s.mru.results.find k).isSome && !(c.state == .finished || c.state == .collected))

/-- What follows a repair of a slot in the same step: the wait list, the Collection Unit, the Mark Reader
Unit, and the closing of an OVERTIME paper it settles (R181). -/
def afterRepair (k : Nat) (waiting : Bool) (number : Option Nat) (papers : List Nat) (s : State) : State :=
  let s := if waiting then s else leaveWaitList k s
  let s := repairReport k s
  let s := queueRetries (fun e => (e.reason == .notSitting || e.reason == .earlySheet)
    && number.isSome && e.decNumber == number) s
  papers.foldl (fun s p => closeIfSettled p s) s

/-- The papers a repair may settle: the one the slot's shadow held and the one written, ascending (log
entry 24). -/
def papersTouched (old : Slot) (new : Option Nat) : List Nat :=
  sortBy id (dedup ((old.shadow.paper.toList) ++ new.toList))

/-- The seats REPAIR CANDIDATE looks at are read: the seat the repaired record names, or every seat where it
names none (R177, R181). -/
def readSeatsNamed (seat : Option Nat) (s : State) : State :=
  match seat with
  | some n => readSeat n s
  | none => readAllSeats s

/-- REPAIR CANDIDATE with USED (R181). A seat's read that fails refuses it SUSPECT (R177, log entry 57). -/
def repairUsed (k : Nat) (f : CandidateFields) (s : State) : Response :=
  match repairedCandidate k f with
  | none => refuse s .badValue
  | some (c, g) =>
    match s.slot? k with
    | none => refuse s .wrongState
    | some old =>
      if !old.suspect then refuse s .wrongState
      else if s.allocating k then refuse s .busy
      else match s.paper? c.paper with
        | none => refuse s .notFound
        | some r =>
          if List.any s.rsu.slots fun e => e.1 != k && e.2.shadow.number == some c.number then refuse s .duplicate
          else
            let t := readSeatsNamed c.seat s
            if t.suspects != s.suspects || ((c.seat.bind t.seat?).map (·.suspect)).getD false then refuse t .suspect
            else if t.candidateConflict k c g r then refuse t .conflict
            else
              done (afterRepair k (c.state == .waiting) (some c.number) (papersTouched old (some c.paper))
                (writeSlot k c g t)) []

/-- A slot becomes unused (R181). -/
def unuseSlot (k : Nat) (s : State) : State :=
  mendRecord (.candidate k) { s with rsu := { s.rsu with slots := s.rsu.slots.drop k } }

/-- REPAIR CANDIDATE with UNUSED (R181). A seat's read that fails refuses it SUSPECT (R177, log entry 57). It
queues no sheet for retry: the slot then holds no candidate number, and the one its shadow held is not used (log
entry 56). -/
def repairUnused (k : Nat) (s : State) : Response :=
  match s.slot? k with
  | none => refuse s .wrongState
  | some old =>
    if !old.suspect then refuse s .wrongState
    else if s.allocating k then refuse s .busy
    else
      let t := readAllSeats s
      if t.suspects != s.suspects then refuse t .suspect
      else if t.occupies k || t.sal.wait.contains k || (t.mru.results.find k).isSome then refuse t .conflict
      else done (afterRepair k false none (papersTouched old none) (unuseSlot k t)) []

/-- REPAIR CANDIDATE (R181): USED is 0 with the fields, UNUSED is 1 with none. UNUSED with fields ignores them, and USED
with none is refused BAD VALUE (log entry 61). -/
def takeRepairCandidate (k use : Nat) (f : Option CandidateFields) (s : State) : Response :=
  match use, f with
  | 0, some f => repairUsed k f s
  | 1, _ => repairUnused k s
  | _, _ => refuse s .badValue

end Sys2Proof.Machine
end

