-- ==== Sys2Proof/Machine/Sitting.lean ====
section
/-! DEFINITION. CLEAR SITTING (R99): the values each block takes (R19, R40, R58, R117, R137, R151, R166,
R182). -/

namespace Sys2Proof.Machine

/-- A seat for a new sitting (R19). -/
def Seat.cleared (t : Seat) : Seat :=
  { t with state := if t.state == .unavailable then .unavailable else .free, occupant := none,
           lastPaper := none, used := false, override := false }

/-- A desk for a new sitting (R117). -/
def Desk.cleared (d : Desk) : Desk :=
  { d with presses := [], longPress := none, window := none, override := none, feedback := none, warning := none }

/-- A paper for a new sitting (R99). -/
def Paper.cleared (r : Paper) : Paper :=
  { r with state := .defined, startPending := false, readingLeft := 0, elapsed := 0, admClosed := false }

/-- The slot of a suspect record for a new sitting: its shadow holds no number, no paper and a clock of NONE,
and its clock is NONE (R40, R99). -/
def Slot.cleared (x : Slot) : Slot := { x with clock := .zero, shadow := ⟨none, none, true⟩ }

/-- The roster for a new sitting: the suspect slots alone stay used (R40). -/
def clearedSlots (t : Table Slot) : Table Slot :=
  (t.filter fun e => e.2.suspect).map fun e => (e.1, e.2.cleared)

def Sal.cleared (a : Sal) : Sal := { Sal.reset with last := a.last }

/-- The Mark Reader Unit for a new sitting (R151, R166). Characters of the scan link that were being discarded are
discarded no longer, and the RESEND that the gap would have brought is not sent (log entry 21). -/
def Mru.cleared (m : Mru) : Mru :=
  { m with buffer0 := .initial, buffer1 := .initial, fullOrder := [], discarding := false, exceptions := [],
           counter := 0, results := [], pass := none, rescorePending := [] }

/-- The tables and counters of every block at their CLEAR SITTING values. -/
def clearTables (s : State) : State :=
  { s with
    hmu := { s.hmu with seats := s.hmu.seats.mapAll fun _ t => t.cleared }
    rsu := { s.rsu with slots := clearedSlots s.rsu.slots }
    sal := s.sal.cleared
    ssu := { s.ssu with papers := s.ssu.papers.mapAll fun _ r => r.cleared, signal := .off }
    dbc := { s.dbc with desks := s.dbc.desks.mapAll fun _ d => d.cleared, calls := [] }
    clu := .reset
    mru := s.mru.cleared
    upsets := s.upsets.filter fun u => match u.record with
      | .seat _ => true
      | _ => false }

/-- Notice PAPER STATE of each paper that CLEAR SITTING returns to DEFINED (R76). -/
def clearedNotices (ps : List Nat) (s : State) : State :=
  ps.foldl (fun s p => notify .paperState [u8 p, u8 PaperState.defined.ctorIdx, u24 s.htb.time] s) s

/-- Whether a paper's sitting is under way: READING, WRITING or OVERTIME (R99). -/
def PaperState.underWay (st : PaperState) : Bool := st == .reading || st == .writing || st == .overtime

/-- CLEAR SITTING (R99). It reads every seat, for the ones that are UNAVAILABLE, and passes over those a read
finds suspect (R19, R177). Its notices join in the order PAPER STATE, DOOR ANSWER, FAULT, and a door answer's
slot is absent, the roster being empty (log entry 23). -/
def takeClearSitting (s : State) : Response :=
  if s.ssu.held || s.ssu.papers.any fun r => r.state.underWay then refuse s .busy
  else
    let ps := s.ssu.papers.keysWhere fun r => r.state != .defined
    let s := clearedNotices ps (clearTables (readAllSeats s))
    let s := answerDoor 1 (.refused .unknown) (answerDoor 0 (.refused .unknown) s)
    done (markerIdle (loseWaits s)) []

end Sys2Proof.Machine
end

