-- ==== Sys2Proof/Machine/Requests.lean ====
section
/-! DEFINITION. The request kinds (section 12.2), the STATUS reply (R176) and the handing of a request to
its owner (R169, the catalogue of section 10.6). -/

namespace Sys2Proof.Machine

/-- The kind code of a station request, none for a command that is no request record (section 12.2). -/
def requestKind : Instr → Option Nat
  | .defineZone _ _ _ _ => some 16
  | .defineRow _ _ => some 17
  | .setSeat _ _ _ _ => some 18
  | .openZone _ => some 19
  | .closeZone _ => some 20
  | .setAdmission _ _ _ => some 21
  | .clearSeat _ => some 22
  | .resetMap => some 23
  | .querySeat _ => some 24
  | .queryZone _ => some 25
  | .loadCandidates _ _ _ => some 32
  | .setAllowance _ _ => some 33
  | .admitCandidate _ => some 34
  | .place _ _ _ => some 35
  | .withdraw _ => some 36
  | .queryCandidate _ => some 37
  | .setBooklets _ _ => some 38
  | .definePaper _ _ => some 48
  | .setZoneOrder _ _ => some 49
  | .setWarnings _ _ => some 50
  | .openPaper _ => some 51
  | .startPaper _ => some 52
  | .endPaper _ => some 53
  | .hold => some 54
  | .release => some 55
  | .setContactSense _ => some 56
  | .breakGrant _ => some 57
  | .finishCandidate _ => some 58
  | .grantTime _ _ => some 59
  | .setTime _ => some 60
  | .calibrate _ => some 61
  | .setTrim _ => some 62
  | .clearSitting => some 63
  | .queryPaper _ => some 64
  | .setButtonSense _ _ => some 80
  | .answerCall _ => some 81
  | .setLamp _ _ _ _ => some 82
  | .queryCalls => some 83
  | .collectorOn _ _ _ _ => some 96
  | .collectorOff _ => some 97
  | .takeRound _ _ => some 98
  | .confirm _ _ _ _ => some 99
  | .defer _ _ => some 100
  | .collectDirect _ _ => some 101
  | .queryReconcile _ => some 102
  | .queryQueue _ => some 103
  | .defineForm _ _ => some 112
  | .loadKey _ _ _ _ _ _ => some 113
  | .setMarking _ _ _ => some 114
  | .assignSheet _ _ _ => some 115
  | .discardSheet _ => some 116
  | .readException _ => some 117
  | .readResult _ => some 118
  | .setReporting _ => some 128
  | .readFault => some 129
  | .repairSeat _ _ => some 130
  | .repairCandidate _ _ _ => some 131
  | .status => some 132
  | _ => none

/-! ### STATUS -/

/-- STATUS fields of the Hall Time Base (R72). -/
def Htb.statusFields (h : Htb) : List Field :=
  let running := h.cal != .idle
  [u24 h.time, flag h.timeSet, u24 h.trim, o24 h.pendingTrim, u8 h.cal.ctorIdx,
   o16 (if running then some h.calLength else none), o16 (if running then some h.pulses else none),
   o24 (if running then some h.ticks else none)]

/-- The hall signal pattern as a code (R98); PULSE goes without its pulse count (log entry 9). -/
def Signal.code : Signal → Nat
  | .off => 0
  | .hold _ => 1
  | .pulse _ => 2

/-- STATUS fields of the Session Unit (R100); sources and contact level are flags (the model's layout, log entry
9). -/
def Ssu.statusFields (u : Ssu) : List Field :=
  [flag u.held, flag u.srcStation, flag u.srcContact, u16 u.holdLength, u8 u.sense.ctorIdx, flag u.contact,
   u8 u.signal.code]

/-- STATUS fields of the Desk Bus Controller (R117). -/
def Dbc.statusFields (d : Dbc) : List Field :=
  let counted (st : DeskState) : Field := u16 (d.desks.count fun k => k.state == st)
  [counted .offline, counted .quiet, counted .online, flag d.inverted.present, flag d.inverted.finish,
   flag d.inverted.call, flag d.inverted.breakKey, u8 d.calls.length]

/-- A buffer in the STATUS reply: state, serial, form, and whether it is held (R151); a serial
that is not present is all ones, and the held flag stands with its buffer (the model's layout, log entry 9). -/
def Buffer.statusFields (b : Buffer) : List Field := [u8 b.state.ctorIdx, o16 b.serial, o8 b.form, flag b.held]

/-- STATUS fields of the sheet intake (R151); the ready line's level is a flag, high 1 and low 0 (log entry 9). -/
def State.intakeFields (s : State) : List Field :=
  s.mru.buffer0.statusFields ++ s.mru.buffer1.statusFields
    ++ [flag s.readyLine, flag s.filling.isSome, o8 (s.filling.map fun b => (s.bufferOf b).rows.length),
        u8 s.mru.exceptions.length]

/-- The kind of a marking operation and the buffer, entry or slot it concerns (R152). -/
def MarkWork.statusFields : MarkWork → Nat × Nat
  | .sheet b _ => (0, b)
  | .retry n _ => (1, n)
  | .rescore k _ _ _ => (2, k)

/-- STATUS fields of the marker, the pass and the staging key (R166). A SHEET operation's buffer goes in the 2 bytes of an
entry number or slot, and the questions the staging key holds are its staged entries (log entry 9). -/
def Mru.markingFields (m : Mru) : List Field :=
  let work := m.marker.map fun op => op.work.statusFields
  [flag m.marker.isSome, o8 (work.map (·.1)), o16 (work.map (·.2)), o8 (m.pass.map (·.paper))]
    ++ listField (fun p => [u8 p]) m.rescorePending
    ++ [o8 (m.staging.map (·.paper)), o8 (m.staging.map (·.version)), o8 (m.staging.map (·.entries.length))]

/-- STATUS fields of Fault Capture (R182). -/
def State.captureStatus (s : State) : List Field :=
  [u8 s.fcu.level.ctorIdx, flag s.fcu.capture.isSome, flag s.fcu.further, u8 s.fcu.held.length,
   u16 (s.hmu.seats.count (·.suspect)), u16 (s.rsu.slots.count (·.suspect)), u16 (s.mru.results.count (·.suspect))]

/-- The fields of the STATUS reply (R176). -/
def State.statusFields (s : State) : List Field :=
  [u24 s.sli.rate, u8 s.sli.notices.length, flag s.sli.lost] ++ s.htb.statusFields ++ s.ssu.statusFields
    ++ s.dbc.statusFields ++ s.intakeFields ++ s.mru.markingFields ++ s.captureStatus

/-- STATUS: the reply is made and the lost-notice flag, if it carries it set, cleared (R172, R176). -/
def takeStatus (s : State) : State :=
  let r : Reply := ⟨132, .ok s.statusFields, s.sli.lost⟩
  { s with sli := { s.sli with replies := s.sli.replies ++ [r], lost := false } }

/-! ### Handing a request to its owner -/

/-- A request other than STATUS and the batches is handed to its owner (section 10.6). A command that is no
such request is none of the catalogue's kinds. -/
def runRequest (s : State) : Instr → Response
  | .defineZone zone spacing standard arranged => takeDefineZone zone spacing standard arranged s
  | .openZone zone => takeOpenZone zone s
  | .closeZone zone => takeCloseZone zone s
  | .setAdmission zone cls code => takeSetAdmission zone cls code s
  | .defineRow zone count => takeDefineRow zone count s
  | .setSeat seat cls desk availability => takeSetSeat seat cls desk availability s
  | .clearSeat seat => takeClearSeat seat s
  | .resetMap => takeResetMap s
  | .querySeat seat => takeQuerySeat seat s
  | .queryZone zone => takeQueryZone zone s
  | .setAllowance number allowance => takeSetAllowance number allowance s
  | .admitCandidate number => takeAdmit number s
  | .place number seat code => takePlace number seat code s
  | .withdraw number => takeWithdraw number s
  | .queryCandidate number => takeQueryCandidate number s
  | .setBooklets number count => takeSetBooklets number count s
  | .definePaper paper fields => takeDefinePaper paper fields s
  | .setZoneOrder paper order => takeSetZoneOrder paper order s
  | .setWarnings paper thresholds => takeSetWarnings paper thresholds s
  | .openPaper paper => takeOpenPaper paper s
  | .startPaper paper => takeStartPaper paper s
  | .endPaper paper => takeEndPaper paper s
  | .hold => takeHold s
  | .release => takeRelease s
  | .setContactSense sense => takeSetContactSense sense s
  | .breakGrant number => takeBreakGrant number s
  | .finishCandidate number => takeFinishCandidate number s
  | .grantTime number minutes => takeGrantTime number minutes s
  | .setTime time => takeSetTime time s
  | .calibrate length => takeCalibrate length s
  | .setTrim trim => takeSetTrim trim s
  | .clearSitting => takeClearSitting s
  | .queryPaper paper => takeQueryPaper paper s
  | .setButtonSense button sense => takeSetButtonSense button sense s
  | .answerCall seat => takeAnswerCall seat s
  | .setLamp seat colour cadence duration => takeSetLamp seat colour cadence duration s
  | .queryCalls => takeQueryCalls s
  | .collectorOn collector zones size timeout => takeCollectorOn collector zones size timeout s
  | .collectorOff collector => takeCollectorOff collector s
  | .takeRound collector zone => takeTakeRound collector zone s
  | .defer collector seat => takeDefer collector seat s
  | .collectDirect slot returned => takeCollectDirect slot returned s
  | .queryReconcile paper => takeQueryReconcile paper s
  | .queryQueue zone => takeQueryQueue zone s
  | .defineForm form questions => takeDefineForm form questions s
  | .setMarking mark separation light => takeSetMarking mark separation light s
  | .assignSheet entry number version => takeAssignSheet entry number version s
  | .discardSheet entry => takeDiscardSheet entry s
  | .readException entry => takeReadException entry s
  | .readResult number => takeReadResult number s
  | .setReporting level => takeSetReporting level s
  | .readFault => takeReadFault s
  | .repairSeat seat fields => takeRepairSeat seat fields s
  | .repairCandidate slot use fields => takeRepairCandidate slot use fields s
  | _ => refuse s .badRecord

/-- A reply is made at once, or the request keeps the taken place until its owner answers (R169). -/
def finishTaking (kind : Nat) : Response → State
  | (s, some a) => addReply kind a s
  | (s, none) => { s with sli := { s.sli with taken := some (.deferred kind false) } }

/-- A request becomes the request being taken: it is handed to its owner (R169). -/
def takeRequest (i : Instr) (s : State) : State :=
  if requestKind i = some 132 then takeStatus s else finishTaking ((requestKind i).getD 0) (runRequest s i)

end Sys2Proof.Machine
end

