-- ==== Sys2Proof/Machine/Link.lean ====
section
/-! DEFINITION. The station link (chapter 10): requests as they complete (R168, R169), batch records (R170),
breaks (R167), output (R172, R173) and the link reset (R174). A request command is the arrival of one
complete record of its kind; the header, the entries and the check of a batch record are commands of their
own (log entry 10). -/

namespace Sys2Proof.Machine

/-! ### Batch records -/

/-- The request kind of a batch record. -/
def BatchHeader.kind : BatchHeader → Nat
  | .loadCandidates => 32
  | .confirm _ => 99
  | .loadKey _ _ _ _ => 113

/-- Why the owner refuses a header, if it does (R127, R158). -/
def State.headerRefusal (s : State) : BatchHeader → Option Reason
  | .loadCandidates => none
  | .confirm c => if Config.collectorCount ≤ c then some .badValue else none
  | .loadKey p v q m => s.keyHeaderRefusal p v q m

/-- What an accepted header does before any entry (R158). -/
def startBatch : BatchHeader → State → State
  | .loadKey p v q m, s => startStaging p v q m s
  | _, s => s

/-- An entry is handed to its owner: what it answers, and whether it installed a key (R26, R127, R158). -/
def runEntry (h : BatchHeader) (e : BatchEntry) (s : State) : State × Answer × Bool :=
  match h, e with
  | .loadCandidates, .candidate k n p c a m b z =>
    let (s, r) := takeCandidateEntry k n p c a m b z s
    (s, r, false)
  | .confirm c, .confirm seat returned =>
    let (s, r) := takeConfirmEntry c seat returned s
    (s, r, false)
  | .loadKey _ _ _ _, .key first run pairs => takeKeyEntry first run pairs s
  | _, _ => (s, .no .badValue, false)

/-- An entry of the batch being taken has completed (R170): one whose own check fails stops the record; none
is handed on after that, or after a header refusal. -/
def handEntry (t : BatchTaken) (e : BatchEntry × Bool) (s : State) : State × BatchTaken :=
  if t.stopped then (s, t)
  else if !e.2 then (s, { t with stopped := true })
  else if t.refusal.isSome then (s, t)
  else
    let (s, a, installed) := runEntry t.header e.1 s
    (s, { t with answers := t.answers ++ [a], installed := t.installed || installed })

/-- Entries are handed on in record order (R170). -/
def handEntries : List (BatchEntry × Bool) → State → BatchTaken → State × BatchTaken
  | [], s, t => (s, t)
  | e :: l, s, t =>
    let (s, t) := handEntry t e s
    handEntries l s t

/-- A batch is taken: its header is handed to its owner, then the entries that have completed (R170). A
header whose own check fails is not handed on, and stops the record (log entry 11). -/
def takeBatch (b : Batch) (s : State) : State × BatchTaken :=
  let refusal := if b.headerOk then s.headerRefusal b.header else none
  let s := if b.headerOk && refusal.isNone then startBatch b.header s else s
  handEntries b.entries s ⟨b.header, refusal, [], !b.headerOk, false⟩

/-- The fields of a batch reply: the entries handed on, and for each its outcome, reason and fields (section
12.4). -/
def batchFields (answers : List Answer) : List Field :=
  u8 answers.length :: answers.flatMap fun a => [u8 a.result.ctorIdx, u8 a.reason.ctorIdx] ++ a.fields

/-- The record's own fields: for LOAD KEY whether a key was installed, and the generation after the record
(R158). -/
def State.recordFields (s : State) (t : BatchTaken) : List Field :=
  match t.header with
  | .loadKey p v _ _ => [flag t.installed, u16 (s.keyOf p v).generation]
  | _ => []

/-- The record's own outcome and reason: REFUSED with the reason of its first refused entry, else CLAMPED if
any entry was clamped, else DONE (R26, R127, R158). -/
def batchOutcome (answers : List Answer) : Result × Reason :=
  match answers.find? fun a => a.result == .refused with
  | some a => (.refused, a.reason)
  | none => if answers.any fun a => a.result == .clamped then (.clamped, .none) else (.done, .none)

/-- The answer to a batch whose own check character has arrived (R170). A BROKEN reply carries the entries' answers
and none of the record's own fields (log entry 18). -/
def State.batchAnswer (s : State) (t : BatchTaken) (sumOk : Bool) : Answer :=
  if t.stopped || !sumOk then ⟨.broken, .checkError, batchFields t.answers⟩
  else match t.refusal with
    | some r => ⟨.refused, r, batchFields t.answers⟩
    | none =>
      let (o, r) := batchOutcome t.answers
      ⟨o, r, batchFields t.answers ++ s.recordFields t⟩

def setReceive (r : Receive) (s : State) : State := { s with sli := { s.sli with receive := r } }
def setTaken (t : Option Taken) (s : State) : State := { s with sli := { s.sli with taken := t } }
def setWaiting (w : Option Waiting) (s : State) : State := { s with sli := { s.sli with waiting := w } }

/-- A waiting batch is taken: its entries are handed on one after another and its reply is made (R170). -/
def takeWholeBatch (b : Batch) (s : State) : State :=
  let (s, t) := takeBatch b s
  addReply b.header.kind (s.batchAnswer t true) s

/-! ### The taken and waiting places -/

/-- The waiting request becomes the request being taken, if the taken place is free (R169). -/
def takeWaitingRequest (s : State) : State :=
  match s.sli.taken, s.sli.waiting with
  | none, some (.request i) => takeRequest i (setWaiting none s)
  | none, some (.batch b) => takeWholeBatch b (setWaiting none s)
  | _, _ => s

/-- A batch that is arriving with its header complete becomes the request being taken, if the taken place is
free and no request waits (R169, R170). -/
def takeArriving (s : State) : State :=
  match s.sli.receive with
  | .inBatch b false =>
    if b.lengthOk && s.sli.taken.isNone && s.sli.waiting.isNone then
      let (t, k) := takeBatch b (setReceive (.inBatch { b with entries := [] } false) s)
      setTaken (some (.batch k)) t
    else s
  | _ => s

/-- WAITING_REQUEST_TAKEN: the waiting request, or else a batch whose header is complete, is taken (R169). -/
def takeNext (s : State) : State := if s.sli.waiting.isSome then takeWaitingRequest s else takeArriving s

/-! ### Records as they arrive -/

/-- Whether every character received is discarded, the reply list holding 8 or more (R168). -/
def State.deaf (s : State) : Bool := Config.replyLimit ≤ s.sli.replies.length

/-- Characters of the record in progress are discarded: it is incomplete (R168). -/
def loseCharacters (s : State) : State :=
  match s.sli.receive with
  | .inBatch b _ => setReceive (.inBatch b true) s
  | _ => s

/-- The record in progress is broken: a batch being taken is answered BROKEN with no reason, any other record
is discarded with no reply (R167, R170). -/
def breakRecord (s : State) : State :=
  match s.sli.receive, s.sli.taken with
  | .inBatch b _, some (.batch t) =>
    addReply b.header.kind ⟨.broken, .none, batchFields t.answers⟩ (setTaken none (setReceive .idle s))
  | _, _ => setReceive .idle s

/-- A record's characters arrive, its lead breaking a record in progress (R167). Nothing is received while
the reply list is full (R168); if the break's reply fills it, the record's later characters are
discarded. -/
def arrive (kind : Nat) (take : State → State) (s : State) : State :=
  if s.deaf then loseCharacters s
  else
    let s := breakRecord s
    if s.deaf then setReceive (.inRecord kind) s else take s

/-- A complete request is taken, or waits, or is answered OVERRUN (R168, steps 3 to 5). The SLI's own answers carry no
field, to a batch neither (log entry 18). -/
def placeRequest (kind : Nat) (w : Waiting) (take : State → State) (s : State) : State :=
  if s.sli.taken.isNone then take s
  else if s.sli.waiting.isNone then setWaiting (some w) s
  else addReply kind (.no .overrun) s

/-- The good record of a request arrives (R168). -/
def receiveRequest (i : Instr) (s : State) : State :=
  let kind := (requestKind i).getD 0
  arrive kind (placeRequest kind (.request i) (takeRequest i)) s

/-- The header of a batch record completes (R170): it is taken if the taken place is free. -/
def receiveHeader (h : BatchHeader) (checkOk : Bool) (left : Nat) (lengthOk : Bool) (s : State) : State :=
  arrive h.kind (fun s => takeArriving (setReceive (.inBatch ⟨h, checkOk, [], left, lengthOk⟩ false) s)) s

/-- Whether an entry is of a batch record's kind. -/
def BatchHeader.holds : BatchHeader → BatchEntry → Bool
  | .loadCandidates, .candidate _ _ _ _ _ _ _ _ => true
  | .confirm _, .confirm _ _ => true
  | .loadKey _ _ _ _, .key _ _ _ => true
  | _, _ => false

/-- An entry of a batch record completes, of so many body bytes: it is handed on if the batch is being taken,
and kept otherwise (R170). An entry that would run past the body does not complete its check (R183). A
command that no batch in progress of its kind has bytes left for is no record's part and has no effect. -/
def receiveEntry (e : BatchEntry) (checkOk : Bool) (size : Nat) (s : State) : State :=
  if s.deaf then loseCharacters s
  else match s.sli.receive with
    | .inBatch b false =>
      if !b.header.holds e || b.left == 0 then s
      else
        let entry := (e, checkOk && size ≤ b.left)
        let b := { b with left := b.left - size }
        match s.sli.taken with
        | some (.batch t) =>
          let (s, t) := handEntry t entry (setReceive (.inBatch b false) s)
          setTaken (some (.batch t)) s
        | _ => setReceive (.inBatch { b with entries := b.entries ++ [entry] } false) s
    | _ => s

/-- A whole batch record that was not taken before its end is judged (R168): CHECK ERROR, BAD RECORD for a
length its test refused, or the waiting place, or OVERRUN, each with no field (log entry 18). -/
def judgeBatch (b : Batch) (sumOk : Bool) (s : State) : State :=
  if !sumOk then addReply b.header.kind (.no .checkError) s
  else if !b.lengthOk then addReply b.header.kind (.no .badRecord) s
  else placeRequest b.header.kind (.batch b) (takeWholeBatch b) s

/-- The check character of a batch record arrives, after its last body character (R170). -/
def receiveEnd (sumOk : Bool) (s : State) : State :=
  if s.deaf then loseCharacters s
  else match s.sli.receive with
    | .inBatch b false =>
      if b.lengthOk && b.left != 0 then s
      else
        let s := setReceive .idle s
        match s.sli.taken with
        | some (.batch t) => addReply t.header.kind (s.batchAnswer t sumOk) (setTaken none s)
        | _ => judgeBatch b sumOk s
    | _ => s

/-- A lead character arrives: the record in progress is broken and a new one begins (R167). -/
def receiveLead (kind : Nat) (s : State) : State :=
  if s.deaf then loseCharacters s else setReceive (.inRecord kind) (breakRecord s)

/-- A complete record that is no good request is answered by the SLI itself (R168, steps 1 and 2), with no field, a
batch too (log entry 18). -/
def answerBad (kind : Nat) (sumOk : Bool) (s : State) : State :=
  arrive kind (addReply kind (.no (if sumOk then .badRecord else .checkError))) s

/-- SET WARNINGS arrives with its thresholds: a record of more than 4 has no length its kind allows (R75, R168,
R183). -/
def receiveWarnings (paper : Nat) (thresholds : List Nat) (s : State) : State :=
  if thresholds.length ≤ 4 then receiveRequest (.setWarnings paper thresholds) s else answerBad 50 true s

/-! ### Output -/

/-- The output side chooses the next record, if none is being sent: the start record, the first reply, the
first notice (R173). A start record or notice that begins with the lost-notice flag set carries it and clears
it (R172, R183). -/
def startOutput (s : State) : State :=
  match s.sli.sending with
  | some _ => s
  | none =>
    match s.sli.start, s.sli.replies, s.sli.notices with
    | some r, _, _ => { s with sli := { s.sli with sending := some (.start r s.sli.lost), lost := false } }
    | none, r :: _, _ => { s with sli := { s.sli with sending := some (.reply r) } }
    | none, [], n :: _ => { s with sli := { s.sli with sending := some (.notice n s.sli.lost), lost := false } }
    | none, [], [] => s

/-- A record has been sent whole: it leaves its place (R168, R172, R173). -/
def recordLeaves (s : State) : State :=
  match s.sli.sending with
  | none => s
  | some (.start _ _) => { s with sli := { s.sli with sending := none, start := none } }
  | some (.reply _) => { s with sli := { s.sli with sending := none, replies := s.sli.replies.drop 1 } }
  | some (.notice _ _) => { s with sli := { s.sli with sending := none, notices := s.sli.notices.drop 1 } }

/-- RECORD_SENT (R173). -/
def recordSent (s : State) : State :=
  if s.sli.sending.isSome then startOutput (recordLeaves s) else s

/-! ### The link reset -/

/-- Whether a record being sent carries the lost-notice flag set (R174). -/
def Sending.carriesLost : Sending → Bool
  | .start _ lost => lost
  | .reply r => r.carriesLost
  | .notice _ lost => lost

/-- The request being taken after a link reset: a deferred one goes on with its reply to be discarded, a
batch gets none (R174). -/
def Taken.afterReset : Taken → Option Taken
  | .deferred kind _ => some (.deferred kind true)
  | .batch _ => none

/-- The kind of a request whose reply will be discarded (R174). -/
def Taken.discardedKind : Taken → Option Nat
  | .deferred kind _ => some kind
  | .batch _ => none

/-- The start record pending after a link reset at a time of day (R174). -/
def Sli.startAfterReset (l : Sli) (time : Nat) : StartRecord :=
  match l.start with
  | some (.started rate t) => .started rate t
  | _ => .linkRestarted (l.taken.bind Taken.discardedKind) l.notices.length time

/-- LINK_RESET at a time of day (R174). -/
def Sli.linkReset (l : Sli) (time : Nat) : Sli :=
  { l with receive := .idle, taken := l.taken.bind Taken.afterReset, waiting := none, replies := [],
           sending := none, lost := l.lost || (l.sending.map Sending.carriesLost).getD false,
           start := some (l.startAfterReset time) }

end Sys2Proof.Machine
end

