-- ==== Sys2Proof/Machine/Records.lean ====
section
/-! DEFINITION. The layouts of request records (R183, R184, sections 12.2 to 12.5): the body of each request
kind, read and written, and whole records of any kind as they arrive by their characters (R168). -/

namespace Sys2Proof.Machine

/-! ### Reading fields -/

/-- Fields of 2, 3 and 4 bytes, the most significant first. -/
def n2 (a b : Nat) : Nat := a * 256 + b
def n3 (a b c : Nat) : Nat := (a * 256 + b) * 256 + c
def n4 (a b c d : Nat) : Nat := ((a * 256 + b) * 256 + c) * 256 + d

/-- Fields that may be absent: all ones is absence (R184). -/
def opt1 (n : Nat) : Option Nat := if n = 255 then none else some n
def opt2 (n : Nat) : Option Nat := if n = 65535 then none else some n
def opt3 (n : Nat) : Option Nat := if n = 16777215 then none else some n

/-- A flag byte: 0 clear, 1 set (section 12.3); another value is the free value of log entry 5. -/
def flagByte (n : Nat) : Bool := if n = 0 then false else if n = 1 then true else Config.otherFlag n

/-- A list of 1-byte items: its count, then its items; what follows it is given too. A count that the record's length
does not bear out makes it no good record (log entry 60). -/
def takeList : List Nat → Option (List Nat × List Nat)
  | [] => none
  | n :: l => if l.length < n then none else some (l.take n, l.drop n)

/-! ### Bodies, kind by kind -/

/-- Kinds 16 to 25: requests on the map. -/
def decodeMap : Nat → List Nat → Option Instr
  | 16, [z, sp, a, b] => some (.defineZone z sp a b)
  | 17, [z, c] => some (.defineRow z c)
  | 18, [s1, s0, c, d1, d0, a] => some (.setSeat (n2 s1 s0) c (opt2 (n2 d1 d0)) a)
  | 19, [z] => some (.openZone z)
  | 20, [z] => some (.closeZone z)
  | 21, [z, c, a] => some (.setAdmission z c a)
  | 22, [s1, s0] => some (.clearSeat (n2 s1 s0))
  | 23, [] => some .resetMap
  | 24, [s1, s0] => some (.querySeat (n2 s1 s0))
  | 25, [z] => some (.queryZone z)
  | _, _ => none

/-- Kinds 33 to 38: requests on the roster and PLACE. -/
def decodeRoster : Nat → List Nat → Option Instr
  | 33, [a, b, c, d, p] => some (.setAllowance (n4 a b c d) p)
  | 34, [a, b, c, d] => some (.admitCandidate (n4 a b c d))
  | 35, [a, b, c, d, s1, s0, f] => some (.place (n4 a b c d) (opt2 (n2 s1 s0)) f)
  | 36, [a, b, c, d] => some (.withdraw (n4 a b c d))
  | 37, [a, b, c, d] => some (.queryCandidate (n4 a b c d))
  | 38, [a, b, c, d, n] => some (.setBooklets (n4 a b c d) n)
  | _, _ => none

/-- The body of DEFINE PAPER, in the order of R73. Its two lists may have any count that fits (log entry 60). -/
def decodePaper : List Nat → Option Instr
  | p :: c0 :: c1 :: c2 :: c3 :: c4 :: c5 :: form :: ver :: read :: d1 :: d0 :: late :: bf :: bl :: bd :: bb
      :: w1 :: w0 :: rest =>
    match takeList rest with
    | some (order, t2 :: t1 :: t0 :: pen :: mw :: rest) =>
      match takeList rest with
      | some (sections, []) =>
        some (.definePaper p
          { code := [c0, c1, c2, c3, c4, c5], form := form, versions := ver, reading := read,
            duration := n2 d1 d0, late := late, blackFirst := bf, blackLast := bl, breakDefault := bd,
            bookletDefault := bb, walk := opt2 (n2 w1 w0), zoneOrder := order,
            scheduled := opt3 (n3 t2 t1 t0), penalty := pen, multipleWrong := flagByte mw,
            sections := sections })
      | _ => none
    | _ => none
  | _ => none

/-- A body that is a 1-byte index and a list, of any count (log entry 60). -/
def decodeIndexed (make : Nat → List Nat → Instr) : List Nat → Option Instr
  | p :: rest =>
    match takeList rest with
    | some (l, []) => some (make p l)
    | _ => none
  | [] => none

/-- Kinds 48 to 64: requests on papers, holds, clocks and the time base. -/
def decodeSession : Nat → List Nat → Option Instr
  | 48, l => decodePaper l
  | 49, l => decodeIndexed .setZoneOrder l
  | 50, p :: n :: l => if n ≤ 4 then decodeIndexed .setWarnings (p :: n :: l) else none
  | 51, [p] => some (.openPaper p)
  | 52, [p] => some (.startPaper p)
  | 53, [p] => some (.endPaper p)
  | 54, [] => some .hold
  | 55, [] => some .release
  | 56, [v] => some (.setContactSense v)
  | 57, [a, b, c, d] => some (.breakGrant (n4 a b c d))
  | 58, [a, b, c, d] => some (.finishCandidate (n4 a b c d))
  | 59, [a, b, c, d, m] => some (.grantTime (n4 a b c d) m)
  | 60, [a, b, c] => some (.setTime (n3 a b c))
  | 61, [a, b] => some (.calibrate (n2 a b))
  | 62, [a, b, c] => some (.setTrim (n3 a b c))
  | 63, [] => some .clearSitting
  | 64, [p] => some (.queryPaper p)
  | _, _ => none

/-- The body of COLLECTOR ON. A zone set of more than 8 items is taken, and judged BAD VALUE (R122, log entry 60). -/
def decodeCollectorOn : List Nat → Option Instr
  | c :: rest =>
    match takeList rest with
    | some (zones, [size, t1, t0]) => some (.collectorOn c zones (opt1 size) (opt2 (n2 t1 t0)))
    | _ => none
  | [] => none

/-- Kinds 80 to 83 and 96 to 103: requests on desks and collection. -/
def decodeDesk : Nat → List Nat → Option Instr
  | 80, [b, v] => some (.setButtonSense b v)
  | 81, [s1, s0] => some (.answerCall (n2 s1 s0))
  | 82, [s1, s0, c, d, t1, t0] => some (.setLamp (n2 s1 s0) c d (n2 t1 t0))
  | 83, [] => some .queryCalls
  | 96, l => decodeCollectorOn l
  | 97, [c] => some (.collectorOff c)
  | 98, [c, z] => some (.takeRound c z)
  | 100, [c, s1, s0] => some (.defer c (n2 s1 s0))
  | 101, [k1, k0, n] => some (.collectDirect (n2 k1 k0) n)
  | 102, [p] => some (.queryReconcile p)
  | 103, [z] => some (.queryQueue z)
  | _, _ => none

/-- The body of REPAIR SEAT (R180). -/
def decodeRepairSeat : List Nat → Option Instr
  | [s1, s0, c, d1, d0, st, o1, o0, p, u, v] =>
    some (.repairSeat (n2 s1 s0)
      { cls := c, desk := opt2 (n2 d1 d0), state := st, occupant := opt2 (n2 o1 o0), lastPaper := opt1 p,
        used := u, override := v })
  | _ => none

/-- The fields of REPAIR CANDIDATE after the use (R181): those of R21, then those of R81. -/
def decodeCandidate : List Nat → Option CandidateFields
  | a :: b :: c :: d :: paper :: cls :: allow :: b1 :: b0 :: p1 :: p0 :: st :: s1 :: s0 :: l1 :: l0 :: t2 :: t1
      :: t0 :: w1 :: w0 :: reason :: issued :: returned :: disc :: clk :: r1 :: r0 :: e1 :: e0 :: before :: g1
      :: g0 :: warn :: [] =>
    some { number := n4 a b c d, paper := paper, cls := cls, allowance := allow, breakBudget := n2 b1 b0,
           preplaced := opt2 (n2 p1 p0), state := st, seat := opt2 (n2 s1 s0), lastSeat := opt2 (n2 l1 l0),
           admTime := opt3 (n3 t2 t1 t0), walk := opt2 (n2 w1 w0), reason := opt1 reason, issued := issued,
           returned := opt1 returned, discrepancy := disc, clockState := clk,
           remaining := n2 r1 r0, extended := opt2 (n2 e1 e0), before := opt1 before, budget := n2 g1 g0,
           warnIndex := warn }
  | _ => none

/-- The body of REPAIR CANDIDATE (R181): the fields are there or not by its length, whatever the use (log entry 61). -/
def decodeRepairCandidate : List Nat → Option Instr
  | [k1, k0, use] => some (.repairCandidate (n2 k1 k0) use none)
  | k1 :: k0 :: use :: rest => (decodeCandidate rest).map fun f => .repairCandidate (n2 k1 k0) use (some f)
  | _ => none

/-- Kinds 112 to 118 and 128 to 132: requests on marking and Fault Capture. -/
def decodeMarking : Nat → List Nat → Option Instr
  | 112, [f, q] => some (.defineForm f q)
  | 114, [m, p, l] => some (.setMarking m p l)
  | 115, [e1, e0, a, b, c, d, v] => some (.assignSheet (n2 e1 e0) (n4 a b c d) v)
  | 116, [e1, e0] => some (.discardSheet (n2 e1 e0))
  | 117, [e1, e0] => some (.readException (n2 e1 e0))
  | 118, [a, b, c, d] => some (.readResult (n4 a b c d))
  | 128, [l] => some (.setReporting l)
  | 129, [] => some .readFault
  | 130, l => decodeRepairSeat l
  | 131, l => decodeRepairCandidate l
  | 132, [] => some .status
  | _, _ => none

/-- The request a body of a kind spells, none where the kind is no request kind, or is a batch, or does not
allow the body's length (R168, R183). -/
def decodeBody (kind : Nat) (body : List Nat) : Option Instr :=
  if kind < 32 then decodeMap kind body
  else if kind < 48 then decodeRoster kind body
  else if kind < 80 then decodeSession kind body
  else if kind < 112 then decodeDesk kind body
  else decodeMarking kind body

/-! ### Writing bodies -/

def list8 (l : List Nat) : List Field := listField (fun n => [u8 n]) l

/-- The fields of REPAIR CANDIDATE after the use (R181). -/
def candidateFieldsOf (f : CandidateFields) : List Field :=
  [u32 f.number, u8 f.paper, u8 f.cls, u8 f.allowance, u16 f.breakBudget, o16 f.preplaced, u8 f.state,
   o16 f.seat, o16 f.lastSeat, o24 f.admTime, o16 f.walk, o8 f.reason, u8 f.issued, o8 f.returned,
   u8 f.discrepancy, u8 f.clockState, u16 f.remaining, o16 f.extended, o8 f.before, u16 f.budget,
   u8 f.warnIndex]

/-- The fields of DEFINE PAPER after the index (R74). -/
def paperFieldsOf (f : PaperFields) : List Field :=
  f.code.map u8 ++ [u8 f.form, u8 f.versions, u8 f.reading, u16 f.duration, u8 f.late, u8 f.blackFirst,
      u8 f.blackLast, u8 f.breakDefault, u8 f.bookletDefault, o16 f.walk] ++ list8 f.zoneOrder
    ++ [o24 f.scheduled, u8 f.penalty, flag f.multipleWrong] ++ list8 f.sections

/-- The fields of a request record's body, in the order of its owning rule; none for the batch kinds, whose
parts are those of section 12.5, and for a command that is no request. -/
def requestFields : Instr → Option (List Field)
  | .defineZone z sp a b => some [u8 z, u8 sp, u8 a, u8 b]
  | .defineRow z c => some [u8 z, u8 c]
  | .setSeat n c d a => some [u16 n, u8 c, o16 d, u8 a]
  | .openZone z => some [u8 z]
  | .closeZone z => some [u8 z]
  | .setAdmission z c a => some [u8 z, u8 c, u8 a]
  | .clearSeat n => some [u16 n]
  | .resetMap => some []
  | .querySeat n => some [u16 n]
  | .queryZone z => some [u8 z]
  | .setAllowance n a => some [u32 n, u8 a]
  | .admitCandidate n => some [u32 n]
  | .place n seat f => some [u32 n, o16 seat, u8 f]
  | .withdraw n => some [u32 n]
  | .queryCandidate n => some [u32 n]
  | .setBooklets n c => some [u32 n, u8 c]
  | .definePaper p f => some (u8 p :: paperFieldsOf f)
  | .setZoneOrder p l => some (u8 p :: list8 l)
  | .setWarnings p l => some (u8 p :: list8 l)
  | .openPaper p => some [u8 p]
  | .startPaper p => some [u8 p]
  | .endPaper p => some [u8 p]
  | .hold => some []
  | .release => some []
  | .setContactSense v => some [u8 v]
  | .breakGrant n => some [u32 n]
  | .finishCandidate n => some [u32 n]
  | .grantTime n m => some [u32 n, u8 m]
  | .setTime t => some [u24 t]
  | .calibrate n => some [u16 n]
  | .setTrim d => some [u24 d]
  | .clearSitting => some []
  | .queryPaper p => some [u8 p]
  | .setButtonSense b v => some [u8 b, u8 v]
  | .answerCall n => some [u16 n]
  | .setLamp n c d t => some [u16 n, u8 c, u8 d, u16 t]
  | .queryCalls => some []
  | .collectorOn c l size t => some (u8 c :: list8 l ++ [o8 size, o16 t])
  | .collectorOff c => some [u8 c]
  | .takeRound c z => some [u8 c, u8 z]
  | .defer c n => some [u8 c, u16 n]
  | .collectDirect k n => some [u16 k, u8 n]
  | .queryReconcile p => some [u8 p]
  | .queryQueue z => some [u8 z]
  | .defineForm f q => some [u8 f, u8 q]
  | .setMarking m p l => some [u8 m, u8 p, u8 l]
  | .assignSheet e n v => some [u16 e, u32 n, u8 v]
  | .discardSheet e => some [u16 e]
  | .readException e => some [u16 e]
  | .readResult n => some [u32 n]
  | .setReporting l => some [u8 l]
  | .readFault => some []
  | .repairSeat n f =>
    some [u16 n, u8 f.cls, o16 f.desk, u8 f.state, o16 f.occupant, o8 f.lastPaper, u8 f.used, u8 f.override]
  | .repairCandidate k use f => some ([u16 k, u8 use] ++ (f.map candidateFieldsOf).getD [])
  | .status => some []
  | _ => none

/-- The station record of a request: its characters from the kind to the check (R183). -/
def requestRecord (i : Instr) : Option (List Byte) :=
  (requestFields i).bind fun fs => (requestKind i).map fun k => recordBytes k (fs.flatMap Field.bytes)

/-- The request a whole station record spells, if its sum holds and its kind and length are a request's (R167,
R168, R183). -/
def decodeRecord : List Byte → Option Instr
  | kind :: len :: rest =>
    if len.toNat ≤ 240 && rest.length = len.toNat + 1 && sumsToZero (kind :: len :: rest) then
      decodeBody kind.toNat (rest.dropLast.map BitVec.toNat)
    else none
  | _ => none

/-! ### Scan link records by their characters (R142, R185) -/

/-- The data bits of a scan record, from its kind to its end. -/
def scanRecordBytes : Instr → Option (List Byte)
  | .frameOpen form serial => some (([u8 1, u8 form, u16 serial] : List Field).flatMap Field.bytes)
  | .row index values => some ((([u8 2, u8 index, u8 values.length] : List Field).flatMap Field.bytes) ++ values)
  | .frameClose total => some (([u8 3, u8 total] : List Field).flatMap Field.bytes)
  | _ => none

/-- Whether a character is a record kind. -/
def scanKindByte (b : Byte) : Bool := 1 ≤ b.toNat && b.toNat ≤ 3

/-- The scan record whose data bits these are. -/
def scanRecordOf : List Byte → Option Instr
  | kind :: rest =>
    match kind.toNat, rest with
    | 1, [form, s1, s0] => some (.frameOpen form.toNat (n2 s1.toNat s0.toNat))
    | 2, index :: count :: values => if values.length = count.toNat then some (.row index.toNat values) else none
    | 3, [total] => some (.frameClose total.toNat)
    | _, _ => none
  | [] => none

/-- The scan record some characters spell: characters that pass their check and are no record kind are
discarded where the record should begin, and every character of the record passes its parity check. -/
def decodeScan (cs : List Character) : Option Instr :=
  let record := cs.dropWhile fun c => parityHolds c && !scanKindByte c.1
  if record.all parityHolds then scanRecordOf (record.map (·.1)) else none

/-- What arrives where the character at a place of a scan record fails its parity check: its end is not known
from a broken kind character, or from the broken count character of a ROW (R142). -/
def scanBrokenAt (place : Nat) : Instr → Option Instr
  | .frameOpen _ _ => some (.scanRecordBroken 0 0 (place != 0))
  | .row index _ => some (.scanRecordBroken 1 index (place != 0 && place != 2))
  | .frameClose _ => some (.scanRecordBroken 2 0 (place != 0))
  | _ => none

/-! ### Batch records by their characters (section 12.5) -/

/-- The length tests of the batch kinds (R183). -/
def candidatesLengthOk (length n : Nat) : Bool := 1 ≤ n && n ≤ 8 && length == 2 + 14 * n
def confirmLengthOk (length n : Nat) : Bool := 1 ≤ n && n ≤ 12 && length == 3 + 4 * n
def keyLengthOk (length : Nat) : Bool := 11 ≤ length && length ≤ 234

/-- The bytes of a batch entry (section 12.5). -/
def BatchEntry.size : BatchEntry → Nat
  | .candidate _ _ _ _ _ _ _ _ => 14
  | .confirm _ _ => 4
  | .key _ run _ => 3 + 2 * run

/-- Pairs of set and weight. -/
def pairsOf : List Nat → List (Nat × Nat)
  | a :: b :: l => (a, b) :: pairsOf l
  | _ => []

/-- The entries of a LOAD CANDIDATES body after its header, each with its check. -/
def candidateEntries : List Byte → List (BatchEntry × Bool)
  | k1 :: k0 :: a :: b :: c :: d :: p :: cls :: al :: br :: bk :: z1 :: z0 :: ck :: rest =>
    (.candidate (n2 k1.toNat k0.toNat) (n4 a.toNat b.toNat c.toNat d.toNat) p.toNat cls.toNat al.toNat
      (opt1 br.toNat) (opt1 bk.toNat) (opt2 (n2 z1.toNat z0.toNat)),
     sumsToZero [k1, k0, a, b, c, d, p, cls, al, br, bk, z1, z0, ck]) :: candidateEntries rest
  | _ => []

/-- The entries of a CONFIRM body after its header, each with its check. -/
def confirmEntries : List Byte → List (BatchEntry × Bool)
  | s1 :: s0 :: n :: ck :: rest =>
    (.confirm (n2 s1.toNat s0.toNat) n.toNat, sumsToZero [s1, s0, n, ck]) :: confirmEntries rest
  | _ => []

/-- The entries of a LOAD KEY body after its header, each with its check; `fuel` bounds their number. An entry
whose run would carry it past the body is one whose check fails (R183). -/
def keyEntries : Nat → List Byte → List (BatchEntry × Bool)
  | fuel + 1, first :: run :: rest =>
    let n := 2 * run.toNat
    let pairs := rest.take n
    (.key first.toNat run.toNat (pairsOf (pairs.map BitVec.toNat)),
     sumsToZero (first :: run :: rest.take (n + 1))) :: keyEntries fuel (rest.drop (n + 1))
  | _ + 1, [first] => [(.key first.toNat 0 [], false)]
  | _, _ => []

/-- The parts of a batch record arrive one after another (R170). -/
def receiveBatch (h : BatchHeader) (headerOk : Bool) (left : Nat) (lengthOk : Bool)
    (entries : List (BatchEntry × Bool)) (sumOk : Bool) (s : State) : State :=
  let s := receiveHeader h headerOk left lengthOk s
  receiveEnd sumOk (entries.foldl (fun s e => receiveEntry e.1 e.2 e.1.size s) s)

/-- BAD_RECORD: a whole station record arrives, known by its characters, and is judged (R168): CHECK ERROR,
BAD RECORD, or a request like any other. Characters that are not one whole record have no effect (log entry
46). -/
def receiveRecord (chars : List Byte) (s : State) : State :=
  match chars with
  | kind :: len :: rest =>
    let k := kind.toNat
    let body := rest.dropLast
    let ok := sumsToZero chars
    if rest.length != len.toNat + 1 then s
    else match k, body with
      | 32, n :: ck :: es =>
        receiveBatch .loadCandidates (sumsToZero [n, ck]) es.length (candidatesLengthOk body.length n.toNat)
          (candidateEntries es) ok s
      | 99, c :: n :: ck :: es =>
        receiveBatch (.confirm c.toNat) (sumsToZero [c, n, ck]) es.length
          (confirmLengthOk body.length n.toNat) (confirmEntries es) ok s
      | 113, p :: v :: q :: m :: sl :: ck :: es =>
        receiveBatch (.loadKey p.toNat v.toNat q.toNat m.toNat) (sumsToZero [p, v, q, m, sl, ck]) es.length
          (keyLengthOk body.length) (keyEntries es.length es) ok s
      | _, _ =>
        match decodeRecord chars with
        | some i => receiveRequest i s
        | none => answerBad k ok s
  | _ => s

end Sys2Proof.Machine
end

