-- ==== Sys2Proof/Machine/Prompt.lean ====
section
/-! DEFINITION. The steps the part takes of itself as soon as they fall due, which every command from outside
finds taken (log entry 3): reference loss (R70), the steps a hall second made due, the hall second (R60), the
waiting request and the arriving batch (R169, R170), and the start of the next output record (R173). -/

namespace Sys2Proof.Machine

/-- The hall second, if D is reached, with the steps it makes due (R60, R62). -/
def settleSecond (s : State) : State := if s.secondReached then takeAllDue (makeHallSecond s) else s

/-- Every step that has fallen due is taken. Where one tick makes a reference loss and a hall second, the loss is
taken first (log entry 3). -/
def settle (s : State) : State :=
  let s := settleSecond (takeAllDue (loseReference s))
  startOutput (takeAllDue (takeArriving (takeAllDue (takeWaitingRequest s))))

/-- A command from outside finds every step that has fallen due taken, then acts. -/
def settled (f : State → State) (s : State) : State := f (settle s)

/-- CRYSTAL_TICK: what went wrong in table memory is in it (R177), and the time base counts the tick (R60). -/
def crystalTick (upsets : List Upset) (s : State) : State :=
  { s with htb := s.htb.tick, upsets := s.upsets ++ upsets }

/-- A hold contact sample with the level of the input pin (R89). -/
def contactLevelSample (high : Bool) (s : State) : State :=
  contactSample (if s.ssu.sense == .inverted then !high else high) s

end Sys2Proof.Machine
end

