-- ==== Sys2Proof/Machine/Commands.lean ====
section
/-! DEFINITION. The meaning of every command: one definition for each row of spec/opcode_table.json. A request
is the arrival of its whole record (R168); a command from outside, or of a free-running block, finds the
steps that have fallen due taken (`settled`); a row that is itself such a step takes it if it is due, and has
no effect otherwise (log entry 3). -/

namespace Sys2Proof.Machine

/-- What every meaning answers: a next state; no command of the part stops it. -/
abbrev Answered := Host.Outcome State Fault Refusal

/-- FULL_RESET (R175). -/
def execFullReset (rate1 rate0 : Bool) (s : State) : Answered :=
  .next (State.resetWith (baseRate rate1 rate0) s.pending)
/-- LINK_RESET (R174). -/
def execLinkReset (s : State) : Answered := .next (settled (fun s => { s with sli := s.sli.linkReset s.htb.time }) s)
/-- RECORD_GAP (R167). -/
def execRecordGap (s : State) : Answered := .next (settled breakRecord s)
/-- FRAMING_FAULT (R167). -/
def execFramingFault (s : State) : Answered := .next (settled breakRecord s)
/-- BAD_RECORD (R168). -/
def execBadRecord (chars : List Byte) (s : State) : Answered := .next (settled (receiveRecord chars) s)
/-- WAITING_REQUEST_TAKEN (R169). -/
def execWaitingRequestTaken (s : State) : Answered := .next (takeNext s)
/-- RECORD_SENT (R173). -/
def execRecordSent (s : State) : Answered := .next (settled recordSent s)
/-- DEFINE_ZONE (R2). -/
def execDefineZone (zone spacing standard arranged : Nat) (s : State) : Answered :=
  .next (settled (receiveRequest (.defineZone zone spacing standard arranged)) s)
/-- OPEN_ZONE (R3). -/
def execOpenZone (zone : Nat) (s : State) : Answered := .next (settled (receiveRequest (.openZone zone)) s)
/-- CLOSE_ZONE (R3). -/
def execCloseZone (zone : Nat) (s : State) : Answered := .next (settled (receiveRequest (.closeZone zone)) s)
/-- SET_ADMISSION (R3). -/
def execSetAdmission (zone cls code : Nat) (s : State) : Answered :=
  .next (settled (receiveRequest (.setAdmission zone cls code)) s)
/-- DEFINE_ROW (R4). -/
def execDefineRow (zone count : Nat) (s : State) : Answered :=
  .next (settled (receiveRequest (.defineRow zone count)) s)
/-- SET_SEAT (R16). -/
def execSetSeat (seat cls : Nat) (desk : Option Nat) (availability : Nat) (s : State) : Answered :=
  .next (settled (receiveRequest (.setSeat seat cls desk availability)) s)
/-- CLEAR_SEAT (R17). -/
def execClearSeat (seat : Nat) (s : State) : Answered := .next (settled (receiveRequest (.clearSeat seat)) s)
/-- RESET_MAP (R18). -/
def execResetMap (s : State) : Answered := .next (settled (receiveRequest .resetMap) s)
/-- QUERY_SEAT (R20). -/
def execQuerySeat (seat : Nat) (s : State) : Answered := .next (settled (receiveRequest (.querySeat seat)) s)
/-- QUERY_ZONE (R20). -/
def execQueryZone (zone : Nat) (s : State) : Answered := .next (settled (receiveRequest (.queryZone zone)) s)
/-- LOAD_CANDIDATES (R170). -/
def execLoadCandidates (length entries : Nat) (checkOk : Bool) (s : State) : Answered :=
  .next (settled (receiveHeader .loadCandidates checkOk (length - 2) (candidatesLengthOk length entries)) s)
/-- LOAD_CANDIDATES_ENTRY (R26). -/
def execLoadCandidatesEntry (slot number paper cls allowance : Nat)
    (breakMinutes booklets preplaced : Option Nat) (checkOk : Bool) (s : State) : Answered :=
  .next (settled (receiveEntry (.candidate slot number paper cls allowance breakMinutes booklets preplaced) checkOk 14) s)
/-- SET_ALLOWANCE (R27). -/
def execSetAllowance (number allowance : Nat) (s : State) : Answered :=
  .next (settled (receiveRequest (.setAllowance number allowance)) s)
/-- ADMIT (R29). -/
def execAdmitCandidate (number : Nat) (s : State) : Answered :=
  .next (settled (receiveRequest (.admitCandidate number)) s)
/-- PLACE (R55). -/
def execPlace (number : Nat) (seat : Option Nat) (flag : Nat) (s : State) : Answered :=
  .next (settled (receiveRequest (.place number seat flag)) s)
/-- WITHDRAW (R37). -/
def execWithdraw (number : Nat) (s : State) : Answered :=
  .next (settled (receiveRequest (.withdraw number)) s)
/-- QUERY_CANDIDATE (R39). -/
def execQueryCandidate (number : Nat) (s : State) : Answered :=
  .next (settled (receiveRequest (.queryCandidate number)) s)
/-- SET_BOOKLETS (R120). -/
def execSetBooklets (number count : Nat) (s : State) : Answered :=
  .next (settled (receiveRequest (.setBooklets number count)) s)
/-- DEFINE_PAPER (R74). -/
def execDefinePaper (paper : Nat) (fields : PaperFields) (s : State) : Answered :=
  .next (settled (receiveRequest (.definePaper paper fields)) s)
/-- SET_ZONE_ORDER (R75). -/
def execSetZoneOrder (paper : Nat) (order : List Nat) (s : State) : Answered :=
  .next (settled (receiveRequest (.setZoneOrder paper order)) s)
/-- SET_WARNINGS (R75). -/
def execSetWarnings (paper : Nat) (thresholds : List Nat) (s : State) : Answered :=
  .next (settled (receiveWarnings paper thresholds) s)
/-- OPEN_PAPER (R77). -/
def execOpenPaper (paper : Nat) (s : State) : Answered :=
  .next (settled (receiveRequest (.openPaper paper)) s)
/-- START_PAPER (R77). -/
def execStartPaper (paper : Nat) (s : State) : Answered :=
  .next (settled (receiveRequest (.startPaper paper)) s)
/-- END_PAPER (R88). -/
def execEndPaper (paper : Nat) (s : State) : Answered := .next (settled (receiveRequest (.endPaper paper)) s)
/-- HOLD (R90). -/
def execHold (s : State) : Answered := .next (settled (receiveRequest .hold) s)
/-- RELEASE (R91). -/
def execRelease (s : State) : Answered := .next (settled (receiveRequest .release) s)
/-- SET_CONTACT_SENSE (R89). -/
def execSetContactSense (sense : Nat) (s : State) : Answered :=
  .next (settled (receiveRequest (.setContactSense sense)) s)
/-- BREAK_GRANT (R93). -/
def execBreakGrant (number : Nat) (s : State) : Answered :=
  .next (settled (receiveRequest (.breakGrant number)) s)
/-- FINISH_CANDIDATE (R95). -/
def execFinishCandidate (number : Nat) (s : State) : Answered :=
  .next (settled (receiveRequest (.finishCandidate number)) s)
/-- GRANT_TIME (R97). -/
def execGrantTime (number minutes : Nat) (s : State) : Answered :=
  .next (settled (receiveRequest (.grantTime number minutes)) s)
/-- SET_TIME (R64). -/
def execSetTime (time : Nat) (s : State) : Answered := .next (settled (receiveRequest (.setTime time)) s)
/-- CALIBRATE (R66). -/
def execCalibrate (length : Nat) (s : State) : Answered :=
  .next (settled (receiveRequest (.calibrate length)) s)
/-- SET_TRIM (R65). -/
def execSetTrim (trim : Nat) (s : State) : Answered := .next (settled (receiveRequest (.setTrim trim)) s)
/-- CLEAR_SITTING (R99). -/
def execClearSitting (s : State) : Answered := .next (settled (receiveRequest .clearSitting) s)
/-- QUERY_PAPER (R100). -/
def execQueryPaper (paper : Nat) (s : State) : Answered :=
  .next (settled (receiveRequest (.queryPaper paper)) s)
/-- SET_BUTTON_SENSE (R108). -/
def execSetButtonSense (button sense : Nat) (s : State) : Answered :=
  .next (settled (receiveRequest (.setButtonSense button sense)) s)
/-- ANSWER_CALL (R113). -/
def execAnswerCall (seat : Nat) (s : State) : Answered :=
  .next (settled (receiveRequest (.answerCall seat)) s)
/-- SET_LAMP (R116). -/
def execSetLamp (seat colour cadence duration : Nat) (s : State) : Answered :=
  .next (settled (receiveRequest (.setLamp seat colour cadence duration)) s)
/-- QUERY_CALLS (R113). -/
def execQueryCalls (s : State) : Answered := .next (settled (receiveRequest .queryCalls) s)
/-- COLLECTOR_ON (R122). -/
def execCollectorOn (collector : Nat) (zones : List Nat) (size timeout : Option Nat) (s : State) : Answered :=
  .next (settled (receiveRequest (.collectorOn collector zones size timeout)) s)
/-- COLLECTOR_OFF (R131). -/
def execCollectorOff (collector : Nat) (s : State) : Answered :=
  .next (settled (receiveRequest (.collectorOff collector)) s)
/-- TAKE_ROUND (R123). -/
def execTakeRound (collector zone : Nat) (s : State) : Answered :=
  .next (settled (receiveRequest (.takeRound collector zone)) s)
/-- CONFIRM (R127). -/
def execConfirm (length collector entries : Nat) (checkOk : Bool) (s : State) : Answered :=
  .next (settled (receiveHeader (.confirm collector) checkOk (length - 3) (confirmLengthOk length entries)) s)
/-- CONFIRM_ENTRY (R127). -/
def execConfirmEntry (seat returned : Nat) (checkOk : Bool) (s : State) : Answered :=
  .next (settled (receiveEntry (.confirm seat returned) checkOk 4) s)
/-- DEFER (R130). -/
def execDefer (collector seat : Nat) (s : State) : Answered :=
  .next (settled (receiveRequest (.defer collector seat)) s)
/-- COLLECT_DIRECT (R133). -/
def execCollectDirect (slot returned : Nat) (s : State) : Answered :=
  .next (settled (receiveRequest (.collectDirect slot returned)) s)
/-- QUERY_RECONCILE (R135). -/
def execQueryReconcile (paper : Nat) (s : State) : Answered :=
  .next (settled (receiveRequest (.queryReconcile paper)) s)
/-- QUERY_QUEUE (R137). -/
def execQueryQueue (zone : Nat) (s : State) : Answered :=
  .next (settled (receiveRequest (.queryQueue zone)) s)
/-- DEFINE_FORM (R138). -/
def execDefineForm (form questions : Nat) (s : State) : Answered :=
  .next (settled (receiveRequest (.defineForm form questions)) s)
/-- LOAD_KEY (R158). -/
def execLoadKey (length paper version questions mode : Nat) (checkOk : Bool) (s : State) : Answered :=
  .next (settled (receiveHeader (.loadKey paper version questions mode) checkOk (length - 6) (keyLengthOk length)) s)
/-- LOAD_KEY_ENTRY (R158). -/
def execLoadKeyEntry (first run : Nat) (pairs : List (Nat × Nat)) (checkOk : Bool) (s : State) : Answered :=
  .next (settled (receiveEntry (.key first run pairs) checkOk (3 + 2 * run)) s)
/-- BATCH_RECORD_END (R170). -/
def execBatchRecordEnd (sumOk : Bool) (s : State) : Answered := .next (settled (receiveEnd sumOk) s)
/-- SET_MARKING (R155). -/
def execSetMarking (mark separation light : Nat) (s : State) : Answered :=
  .next (settled (receiveRequest (.setMarking mark separation light)) s)
/-- ASSIGN_SHEET (R164). -/
def execAssignSheet (entry number version : Nat) (s : State) : Answered :=
  .next (settled (receiveRequest (.assignSheet entry number version)) s)
/-- DISCARD_SHEET (R165). -/
def execDiscardSheet (entry : Nat) (s : State) : Answered :=
  .next (settled (receiveRequest (.discardSheet entry)) s)
/-- READ_EXCEPTION (R165). -/
def execReadException (entry : Nat) (s : State) : Answered :=
  .next (settled (receiveRequest (.readException entry)) s)
/-- READ_RESULT (R165). -/
def execReadResult (number : Nat) (s : State) : Answered :=
  .next (settled (receiveRequest (.readResult number)) s)
/-- SET_REPORTING (R178). -/
def execSetReporting (level : Nat) (s : State) : Answered :=
  .next (settled (receiveRequest (.setReporting level)) s)
/-- READ_FAULT (R179). -/
def execReadFault (s : State) : Answered := .next (settled (receiveRequest .readFault) s)
/-- REPAIR_SEAT (R180). -/
def execRepairSeat (seat : Nat) (fields : SeatFields) (s : State) : Answered :=
  .next (settled (receiveRequest (.repairSeat seat fields)) s)
/-- REPAIR_CANDIDATE (R181). -/
def execRepairCandidate (slot use : Nat) (fields : Option CandidateFields) (s : State) : Answered :=
  .next (settled (receiveRequest (.repairCandidate slot use fields)) s)
/-- STATUS (R176). -/
def execStatus (s : State) : Answered := .next (settled (receiveRequest .status) s)
/-- CARD_RECORD (R28). -/
def execCardRecord (door : Nat) (n3 n2 n1 n0 check : Byte) (s : State) : Answered :=
  .next (settled (cardArrives door [n3, n2, n1, n0, check]) s)
/-- ARBITER_CHOICE (R42). -/
def execArbiterChoice (s : State) : Answered := .next (settled chooseRequest s)
/-- SEARCH_SEAT (R47). -/
def execSearchSeat (s : State) : Answered := .next (settled searchStep s)
/-- ALLOCATION_OUTCOME (R48). -/
def execAllocationOutcome (s : State) : Answered := .next (settled outcomeStep s)
/-- HALL_SECOND (R62). -/
def execHallSecond (s : State) : Answered := .next (hallSecondStep s)
/-- REFERENCE_PULSE (R68). -/
def execReferencePulse (s : State) : Answered := .next (settled referencePulseTaken s)
/-- CALIBRATION_LOST (R70). -/
def execCalibrationLost (s : State) : Answered := .next (loseReference s)
/-- CONTACT_GOES_ACTIVE (R90). -/
def execContactGoesActive (s : State) : Answered := .next (settled (contactSample true) s)
/-- CONTACT_CLEAR (R89). -/
def execContactClear (s : State) : Answered := .next (settled (contactSample false) s)
/-- CONTACT_LEVEL (R89). -/
def execContactLevel (high : Bool) (s : State) : Answered := .next (settled (contactLevelSample high) s)
/-- CLOCK_EXPIRY (R84). -/
def execClockExpiry (s : State) : Answered := .next (takeDueNow (.clockExpiry) s)
/-- BREAK_OVERRUN (R94). -/
def execBreakOverrun (slot : Nat) (s : State) : Answered := .next (takeDueNow (.breakOverrun slot) s)
/-- NOT_SEATED (R33). -/
def execNotSeated (slot : Nat) (s : State) : Answered := .next (takeDueNow (.notSeated slot) s)
/-- READING_END (R85). -/
def execReadingEnd (paper : Nat) (s : State) : Answered := .next (takeDueNow (.readingEnd paper) s)
/-- ADMISSION_CLOSES (R36). -/
def execAdmissionCloses (paper : Nat) (s : State) : Answered := .next (takeDueNow (.admissionCloses paper) s)
/-- WRITING_END (R87). -/
def execWritingEnd (paper : Nat) (s : State) : Answered := .next (takeDueNow (.writingEnd paper) s)
/-- SCHEDULED_START (R78). -/
def execScheduledStart (paper : Nat) (s : State) : Answered := .next (takeDueNow (.scheduledStart paper) s)
/-- CLOCK_WARNING (R86). -/
def execClockWarning (slot : Nat) (s : State) : Answered := .next (takeDueNow (.clockWarning slot) s)
/-- WARNING (R86). -/
def execWarning (paper : Nat) (s : State) : Answered := .next (takeDueNow (.warning paper) s)
/-- PULSE_END (R98). -/
def execPulseEnd (s : State) : Answered := .next (takeDueNow (.pulseEnd) s)
/-- DESK_POLL (R102). -/
def execDeskPoll (s : State) : Answered := .next (settled pollNext s)
/-- DESK_REPLY (R104). -/
def execDeskReply (addrHigh addrLow buttons sequence check : Byte) (s : State) : Answered :=
  .next (settled (deskReplies [addrHigh, addrLow, buttons, sequence, check] buttons sequence) s)
/-- REPLY_TIMEOUT (R103). -/
def execReplyTimeout (s : State) : Answered := .next (settled replyTimesOut s)
/-- FINISH_WINDOW_EXPIRY (R110). -/
def execFinishWindowExpiry (desk : Nat) (s : State) : Answered :=
  .next (takeDueNow (.finishWindowExpiry desk) s)
/-- LAMP_ITEM_EXPIRY (R115). -/
def execLampItemExpiry (desk : Nat) (s : State) : Answered := .next (takeDueNow (.lampItemExpiry desk) s)
/-- ROUND_TIMEOUT (R125). -/
def execRoundTimeout (collector : Nat) (s : State) : Answered :=
  .next (takeDueNow (.roundTimeout collector) s)
/-- FRAME_OPEN (R143). -/
def execFrameOpen (form serial : Nat) (s : State) : Answered :=
  .next (settled (scanRecord .frameOpen none (frameOpens form serial)) s)
/-- ROW (R144). -/
def execRow (index : Nat) (values : List Byte) (s : State) : Answered :=
  .next (settled (scanRecord .row (some index) (rowArrives index values)) s)
/-- FRAME_CLOSE (R145). -/
def execFrameClose (total : Nat) (s : State) : Answered :=
  .next (settled (scanRecord .frameClose none (frameCloses total)) s)
/-- SCAN_RECORD_BROKEN (R142). -/
def execScanRecordBroken (kind index : Nat) (endKnown : Bool) (s : State) : Answered :=
  .next (settled (scanBroken kind index endKnown) s)
/-- SCAN_GAP (R142). -/
def execScanGap (midRecord : Bool) (s : State) : Answered := .next (settled (scanSilent midRecord) s)
/-- MARKER_TAKES_WORK (R152). -/
def execMarkerTakesWork (reach : Nat) (s : State) : Answered := .next (settled (markerTakesWork reach) s)
/-- SHEET_OPERATION_END (R153). -/
def execSheetOperationEnd (s : State) : Answered := .next (settled sheetEnds s)
/-- RETRY_END (R163). -/
def execRetryEnd (s : State) : Answered := .next (settled retryEnds s)
/-- RESCORE_STEP_END (R162). -/
def execRescoreStepEnd (s : State) : Answered := .next (settled rescoreEnds s)
/-- CRYSTAL_TICK (R60). -/
def execCrystalTick (upsets : List Upset) (s : State) : Answered := .next (settled (crystalTick upsets) s)
/-- RECORD_BROKEN_BY_LEAD (R167). -/
def execRecordBrokenByLead (kind : Nat) (s : State) : Answered := .next (settled (receiveLead kind) s)

end Sys2Proof.Machine
end

