-- ==== Sys2Proof/Machine/Dispatch.lean ====
section
/-! DEFINITION. One arm for each command, each one call of its meaning. -/

namespace Sys2Proof.Machine

def exec (i : Instr) (s : State) : Host.Outcome State Fault Refusal :=
  match i with
  | .fullReset rate1 rate0 => Sys2Proof.Machine.execFullReset rate1 rate0 s
  | .linkReset => Sys2Proof.Machine.execLinkReset s
  | .recordGap => Sys2Proof.Machine.execRecordGap s
  | .framingFault => Sys2Proof.Machine.execFramingFault s
  | .badRecord chars => Sys2Proof.Machine.execBadRecord chars s
  | .waitingRequestTaken => Sys2Proof.Machine.execWaitingRequestTaken s
  | .recordSent => Sys2Proof.Machine.execRecordSent s
  | .defineZone zone spacing standard arranged => Sys2Proof.Machine.execDefineZone zone spacing standard arranged s
  | .openZone zone => Sys2Proof.Machine.execOpenZone zone s
  | .closeZone zone => Sys2Proof.Machine.execCloseZone zone s
  | .setAdmission zone cls code => Sys2Proof.Machine.execSetAdmission zone cls code s
  | .defineRow zone count => Sys2Proof.Machine.execDefineRow zone count s
  | .setSeat seat cls desk availability => Sys2Proof.Machine.execSetSeat seat cls desk availability s
  | .clearSeat seat => Sys2Proof.Machine.execClearSeat seat s
  | .resetMap => Sys2Proof.Machine.execResetMap s
  | .querySeat seat => Sys2Proof.Machine.execQuerySeat seat s
  | .queryZone zone => Sys2Proof.Machine.execQueryZone zone s
  | .loadCandidates length entries checkOk => Sys2Proof.Machine.execLoadCandidates length entries checkOk s
  | .loadCandidatesEntry slot number paper cls allowance breakMinutes booklets preplaced checkOk => Sys2Proof.Machine.execLoadCandidatesEntry slot number paper cls allowance breakMinutes booklets preplaced checkOk s
  | .setAllowance number allowance => Sys2Proof.Machine.execSetAllowance number allowance s
  | .admitCandidate number => Sys2Proof.Machine.execAdmitCandidate number s
  | .place number seat flag => Sys2Proof.Machine.execPlace number seat flag s
  | .withdraw number => Sys2Proof.Machine.execWithdraw number s
  | .queryCandidate number => Sys2Proof.Machine.execQueryCandidate number s
  | .setBooklets number count => Sys2Proof.Machine.execSetBooklets number count s
  | .definePaper paper fields => Sys2Proof.Machine.execDefinePaper paper fields s
  | .setZoneOrder paper order => Sys2Proof.Machine.execSetZoneOrder paper order s
  | .setWarnings paper thresholds => Sys2Proof.Machine.execSetWarnings paper thresholds s
  | .openPaper paper => Sys2Proof.Machine.execOpenPaper paper s
  | .startPaper paper => Sys2Proof.Machine.execStartPaper paper s
  | .endPaper paper => Sys2Proof.Machine.execEndPaper paper s
  | .hold => Sys2Proof.Machine.execHold s
  | .release => Sys2Proof.Machine.execRelease s
  | .setContactSense sense => Sys2Proof.Machine.execSetContactSense sense s
  | .breakGrant number => Sys2Proof.Machine.execBreakGrant number s
  | .finishCandidate number => Sys2Proof.Machine.execFinishCandidate number s
  | .grantTime number minutes => Sys2Proof.Machine.execGrantTime number minutes s
  | .setTime time => Sys2Proof.Machine.execSetTime time s
  | .calibrate length => Sys2Proof.Machine.execCalibrate length s
  | .setTrim trim => Sys2Proof.Machine.execSetTrim trim s
  | .clearSitting => Sys2Proof.Machine.execClearSitting s
  | .queryPaper paper => Sys2Proof.Machine.execQueryPaper paper s
  | .setButtonSense button sense => Sys2Proof.Machine.execSetButtonSense button sense s
  | .answerCall seat => Sys2Proof.Machine.execAnswerCall seat s
  | .setLamp seat colour cadence duration => Sys2Proof.Machine.execSetLamp seat colour cadence duration s
  | .queryCalls => Sys2Proof.Machine.execQueryCalls s
  | .collectorOn collector zones size timeout => Sys2Proof.Machine.execCollectorOn collector zones size timeout s
  | .collectorOff collector => Sys2Proof.Machine.execCollectorOff collector s
  | .takeRound collector zone => Sys2Proof.Machine.execTakeRound collector zone s
  | .confirm length collector entries checkOk => Sys2Proof.Machine.execConfirm length collector entries checkOk s
  | .confirmEntry seat returned checkOk => Sys2Proof.Machine.execConfirmEntry seat returned checkOk s
  | .defer collector seat => Sys2Proof.Machine.execDefer collector seat s
  | .collectDirect slot returned => Sys2Proof.Machine.execCollectDirect slot returned s
  | .queryReconcile paper => Sys2Proof.Machine.execQueryReconcile paper s
  | .queryQueue zone => Sys2Proof.Machine.execQueryQueue zone s
  | .defineForm form questions => Sys2Proof.Machine.execDefineForm form questions s
  | .loadKey length paper version questions mode checkOk => Sys2Proof.Machine.execLoadKey length paper version questions mode checkOk s
  | .loadKeyEntry first run pairs checkOk => Sys2Proof.Machine.execLoadKeyEntry first run pairs checkOk s
  | .batchRecordEnd sumOk => Sys2Proof.Machine.execBatchRecordEnd sumOk s
  | .setMarking mark separation light => Sys2Proof.Machine.execSetMarking mark separation light s
  | .assignSheet entry number version => Sys2Proof.Machine.execAssignSheet entry number version s
  | .discardSheet entry => Sys2Proof.Machine.execDiscardSheet entry s
  | .readException entry => Sys2Proof.Machine.execReadException entry s
  | .readResult number => Sys2Proof.Machine.execReadResult number s
  | .setReporting level => Sys2Proof.Machine.execSetReporting level s
  | .readFault => Sys2Proof.Machine.execReadFault s
  | .repairSeat seat fields => Sys2Proof.Machine.execRepairSeat seat fields s
  | .repairCandidate slot use fields => Sys2Proof.Machine.execRepairCandidate slot use fields s
  | .status => Sys2Proof.Machine.execStatus s
  | .cardRecord door n3 n2 n1 n0 check => Sys2Proof.Machine.execCardRecord door n3 n2 n1 n0 check s
  | .arbiterChoice => Sys2Proof.Machine.execArbiterChoice s
  | .searchSeat => Sys2Proof.Machine.execSearchSeat s
  | .allocationOutcome => Sys2Proof.Machine.execAllocationOutcome s
  | .hallSecond => Sys2Proof.Machine.execHallSecond s
  | .referencePulse => Sys2Proof.Machine.execReferencePulse s
  | .calibrationLost => Sys2Proof.Machine.execCalibrationLost s
  | .contactGoesActive => Sys2Proof.Machine.execContactGoesActive s
  | .contactClear => Sys2Proof.Machine.execContactClear s
  | .contactLevel high => Sys2Proof.Machine.execContactLevel high s
  | .clockExpiry => Sys2Proof.Machine.execClockExpiry s
  | .breakOverrun slot => Sys2Proof.Machine.execBreakOverrun slot s
  | .notSeated slot => Sys2Proof.Machine.execNotSeated slot s
  | .readingEnd paper => Sys2Proof.Machine.execReadingEnd paper s
  | .admissionCloses paper => Sys2Proof.Machine.execAdmissionCloses paper s
  | .writingEnd paper => Sys2Proof.Machine.execWritingEnd paper s
  | .scheduledStart paper => Sys2Proof.Machine.execScheduledStart paper s
  | .clockWarning slot => Sys2Proof.Machine.execClockWarning slot s
  | .warning paper => Sys2Proof.Machine.execWarning paper s
  | .pulseEnd => Sys2Proof.Machine.execPulseEnd s
  | .deskPoll => Sys2Proof.Machine.execDeskPoll s
  | .deskReply addrHigh addrLow buttons sequence check => Sys2Proof.Machine.execDeskReply addrHigh addrLow buttons sequence check s
  | .replyTimeout => Sys2Proof.Machine.execReplyTimeout s
  | .finishWindowExpiry desk => Sys2Proof.Machine.execFinishWindowExpiry desk s
  | .lampItemExpiry desk => Sys2Proof.Machine.execLampItemExpiry desk s
  | .roundTimeout collector => Sys2Proof.Machine.execRoundTimeout collector s
  | .frameOpen form serial => Sys2Proof.Machine.execFrameOpen form serial s
  | .row index values => Sys2Proof.Machine.execRow index values s
  | .frameClose total => Sys2Proof.Machine.execFrameClose total s
  | .scanRecordBroken kind index endKnown => Sys2Proof.Machine.execScanRecordBroken kind index endKnown s
  | .scanGap midRecord => Sys2Proof.Machine.execScanGap midRecord s
  | .markerTakesWork reach => Sys2Proof.Machine.execMarkerTakesWork reach s
  | .sheetOperationEnd => Sys2Proof.Machine.execSheetOperationEnd s
  | .retryEnd => Sys2Proof.Machine.execRetryEnd s
  | .rescoreStepEnd => Sys2Proof.Machine.execRescoreStepEnd s
  | .crystalTick upsets => Sys2Proof.Machine.execCrystalTick upsets s
  | .recordBrokenByLead kind => Sys2Proof.Machine.execRecordBrokenByLead kind s

end Sys2Proof.Machine
end

