-- ==== Sys2Proof/WellFormed.lean ====
section
/-! DEFINITION. Which commands can arrive: every operand fits the field that carries it (section 12.3, R183 to
R185), an optional operand is not the value that stands for its absence (R184), and a slot, paper, desk or
collector of a step of the part itself is one that exists. The meanings are total: they do not depend on
this. -/

namespace Sys2Proof

/-! ### Fields -/

/-- A number fits in 1, 2, 3 or 4 bytes. -/
def fits1 (n : Nat) : Bool := n < 256
def fits2 (n : Nat) : Bool := n < 65536
def fits3 (n : Nat) : Bool := n < 16777216
def fits4 (n : Nat) : Bool := n < 4294967296

/-- An optional number fits in 1, 2 or 3 bytes without being all ones (R184). -/
def fitsOpt (limit : Nat) : Option Nat → Bool
  | none => true
  | some n => n + 1 < limit

def opts1 (n : Option Nat) : Bool := fitsOpt 256 n
def opts2 (n : Option Nat) : Bool := fitsOpt 65536 n
def opts3 (n : Option Nat) : Bool := fitsOpt 16777216 n

/-- A list of 1-byte items with a 1-byte count, in a body of at most 240 characters (R167). -/
def fitsList (limit : Nat) (l : List Nat) : Bool := l.length ≤ limit && l.all fits1

/-- The fields of DEFINE PAPER; 26 characters of its body are not list items. -/
def fitsPaper (f : PaperFields) : Bool :=
  f.code.length == 6 && f.code.all fits1 && fits1 f.form && fits1 f.versions && fits1 f.reading
    && fits2 f.duration && fits1 f.late && fits1 f.blackFirst && fits1 f.blackLast && fits1 f.breakDefault
    && fits1 f.bookletDefault && opts2 f.walk && opts3 f.scheduled && fits1 f.penalty
    && fitsList 214 f.zoneOrder && fitsList 214 f.sections && f.zoneOrder.length + f.sections.length ≤ 214

def fitsSeat (f : SeatFields) : Bool :=
  fits1 f.cls && opts2 f.desk && fits1 f.state && opts2 f.occupant && opts1 f.lastPaper && fits1 f.used
    && fits1 f.override

def fitsCandidate (f : CandidateFields) : Bool :=
  fits4 f.number && fits1 f.paper && fits1 f.cls && fits1 f.allowance && fits2 f.breakBudget
    && opts2 f.preplaced && fits1 f.state && opts2 f.seat && opts2 f.lastSeat && opts3 f.admTime && opts2 f.walk
    && opts1 f.reason && fits1 f.issued && opts1 f.returned && fits1 f.discrepancy && fits1 f.clockState && fits2 f.remaining
    && opts2 f.extended && opts1 f.before && fits2 f.budget && fits1 f.warnIndex

/-- A seat number, roster slot, paper, desk address or collector that can exist (section "Capacities and
ranges"). -/
def isSeat (n : Nat) : Bool := n < 512
def isSlot (n : Nat) : Bool := n < 576
def isPaper (n : Nat) : Bool := n < 16
def isDesk (n : Nat) : Bool := 1 ≤ n && n ≤ 511
def isCollector (n : Nat) : Bool := n < 8

/-- A record of table memory that can exist (R177). -/
def isRecord : RecordRef → Bool
  | .seat n => isSeat n
  | .candidate k => isSlot k
  | .result k => isSlot k

/-- The characters of one whole station record: kind, length L, L characters, check; a sender may give an L
above 240, which no kind allows (R167, R168). -/
def wholeRecord : List Byte → Bool
  | _ :: len :: rest => rest.length == len.toNat + 1
  | _ => false

/-- Whether a command can arrive. -/
def Instr.wellFormed : Instr → Bool
  | .fullReset _ _ => true
  | .linkReset => true
  | .recordGap => true
  | .framingFault => true
  | .badRecord chars => wholeRecord chars
  | .waitingRequestTaken => true
  | .recordSent => true
  | .defineZone z sp a b => fits1 z && fits1 sp && fits1 a && fits1 b
  | .openZone z => fits1 z
  | .closeZone z => fits1 z
  | .setAdmission z c a => fits1 z && fits1 c && fits1 a
  | .defineRow z c => fits1 z && fits1 c
  | .setSeat n c d a => fits2 n && fits1 c && opts2 d && fits1 a
  | .clearSeat n => fits2 n
  | .resetMap => true
  | .querySeat n => fits2 n
  | .queryZone z => fits1 z
  | .loadCandidates l n _ => 2 ≤ l && l ≤ 240 && fits1 n
  | .loadCandidatesEntry k n p c a m b s _ =>
    fits2 k && fits4 n && fits1 p && fits1 c && fits1 a && opts1 m && opts1 b && opts2 s
  | .setAllowance n a => fits4 n && fits1 a
  | .admitCandidate n => fits4 n
  | .place n s f => fits4 n && opts2 s && fits1 f
  | .withdraw n => fits4 n
  | .queryCandidate n => fits4 n
  | .setBooklets n c => fits4 n && fits1 c
  | .definePaper p f => fits1 p && fitsPaper f
  | .setZoneOrder p l => fits1 p && fitsList 238 l
  | .setWarnings p l => fits1 p && fitsList 4 l
  | .openPaper p => fits1 p
  | .startPaper p => fits1 p
  | .endPaper p => fits1 p
  | .hold => true
  | .release => true
  | .setContactSense v => fits1 v
  | .breakGrant n => fits4 n
  | .finishCandidate n => fits4 n
  | .grantTime n m => fits4 n && fits1 m
  | .setTime t => fits3 t
  | .calibrate n => fits2 n
  | .setTrim d => fits3 d
  | .clearSitting => true
  | .queryPaper p => fits1 p
  | .setButtonSense b v => fits1 b && fits1 v
  | .answerCall n => fits2 n
  | .setLamp n c d t => fits2 n && fits1 c && fits1 d && fits2 t
  | .queryCalls => true
  | .collectorOn c l n t => fits1 c && fitsList 235 l && opts1 n && opts2 t
  | .collectorOff c => fits1 c
  | .takeRound c z => fits1 c && fits1 z
  | .confirm l c n _ => 3 ≤ l && l ≤ 240 && fits1 c && fits1 n
  | .confirmEntry n r _ => fits2 n && fits1 r
  | .defer c n => fits1 c && fits2 n
  | .collectDirect k n => fits2 k && fits1 n
  | .queryReconcile p => fits1 p
  | .queryQueue z => fits1 z
  | .defineForm f q => fits1 f && fits1 q
  | .loadKey l p v q m _ => 6 ≤ l && l ≤ 240 && fits1 p && fits1 v && fits1 q && fits1 m
  | .loadKeyEntry a r l _ =>
    fits1 a && fits1 r && l.length == r && l.all fun p => fits1 p.1 && fits1 p.2
  | .batchRecordEnd _ => true
  | .setMarking m p l => fits1 m && fits1 p && fits1 l
  | .assignSheet e n v => fits2 e && fits4 n && fits1 v
  | .discardSheet e => fits2 e
  | .readException e => fits2 e
  | .readResult n => fits4 n
  | .setReporting l => fits1 l
  | .readFault => true
  | .repairSeat n f => fits2 n && fitsSeat f
  | .repairCandidate k u f => fits2 k && fits1 u && (f.map fitsCandidate).getD true
  | .status => true
  | .cardRecord door _ _ _ _ _ => door < 2
  | .arbiterChoice => true
  | .searchSeat => true
  | .allocationOutcome => true
  | .hallSecond => true
  | .referencePulse => true
  | .calibrationLost => true
  | .contactGoesActive => true
  | .contactClear => true
  | .contactLevel _ => true
  | .clockExpiry => true
  | .breakOverrun k => isSlot k
  | .notSeated k => isSlot k
  | .readingEnd p => isPaper p
  | .admissionCloses p => isPaper p
  | .writingEnd p => isPaper p
  | .scheduledStart p => isPaper p
  | .clockWarning k => isSlot k
  | .warning p => isPaper p
  | .pulseEnd => true
  | .deskPoll => true
  | .deskReply _ _ _ _ _ => true
  | .replyTimeout => true
  | .finishWindowExpiry d => isDesk d
  | .lampItemExpiry d => isDesk d
  | .roundTimeout c => isCollector c
  | .frameOpen f n => fits1 f && fits2 n
  | .row i l => fits1 i && l.length < 256
  | .frameClose t => fits1 t
  | .scanRecordBroken k i _ => k < 3 && fits1 i
  | .scanGap _ => true
  | .markerTakesWork r => r ≤ 2
  | .sheetOperationEnd => true
  | .retryEnd => true
  | .rescoreStepEnd => true
  | .crystalTick l => l.all fun u => isRecord u.record
  | .recordBrokenByLead k => fits1 k

end Sys2Proof
end

