-- ==== Sys2Proof/Safety.lean ====
section
/-! DEFINITION. When nothing has fallen due and when the station link is ready for a request, as statements
about single commands assume, what a paper's writing start does (R80), and the laws of the device that every
step keeps: the time base (R60 to R63), the record tables' form (Word.lean), the hall map and its seats (R4, R7,
R8), the wait list (R51), candidates, clocks and results (R21, R81, R87, R161), and the lists of calls, exceptions,
rings and rounds (R112, R118, R124, R140). -/

namespace Sys2Proof.Machine

/-! ### Calm and ready -/

/-- The output side is sending, or has nothing to send (R173). -/
def Sli.outputBusy (l : Sli) : Bool :=
  l.sending.isSome || (l.start.isNone && l.replies.isEmpty && l.notices.isEmpty)

/-- A batch is arriving that would be taken if the taken place were free (R170). -/
def Sli.batchArriving (l : Sli) : Bool :=
  match l.receive with
  | .inBatch b false => b.lengthOk
  | _ => false

/-- No step of the part itself has fallen due: no reference loss, no hall second, no step a hall second made
due, no request to be taken, no record to be begun. -/
def State.calm (s : State) : Bool :=
  s.due.isEmpty && !s.secondReached && !s.referenceLost && s.sli.outputBusy
    && (s.sli.taken.isSome || (s.sli.waiting.isNone && !s.sli.batchArriving))

/-- Calm, with the station link free: the next good record is taken at once (R168, R169). -/
def State.ready (s : State) : Bool :=
  s.calm && s.sli.taken.isNone && s.sli.waiting.isNone && s.sli.receive == .idle && !s.deaf

/-- Table memory holds no wrong bit (R177). -/
def State.clean (s : State) : Bool := s.upsets.isEmpty

/-! ### Replies and single writes, as statements name the state after a command -/

/-- The state with a reply REFUSED of this kind and reason at the tail of the reply list (R168, R171). -/
def State.refused (s : State) (kind : Nat) (r : Reason) : State := addReply kind (.no r) s

/-- The state with a reply DONE of this kind and these fields at the tail of the reply list (R168, R171). -/
def State.replied (s : State) (kind : Nat) (fields : List Field) : State := addReply kind (.ok fields) s

/-- The state with a reply CLAMPED, or DONE where nothing was clamped (R171). -/
def State.repliedClamped (s : State) (kind : Nat) (clamped : Bool) (fields : List Field) : State :=
  addReply kind ⟨if clamped then .clamped else .done, .none, fields⟩ s

def State.withZone (s : State) (z : Nat) (r : Zone) : State :=
  { s with hmu := { s.hmu with zones := s.hmu.zones.put z r } }

def State.withSeat (s : State) (n : Nat) (r : Seat) : State :=
  { s with hmu := { s.hmu with seats := s.hmu.seats.put n r } }

def State.withPaperRecord (s : State) (p : Nat) (r : Paper) : State :=
  { s with ssu := { s.ssu with papers := s.ssu.papers.put p r } }

/-- A slot's candidate record and clock written whole, with their shadow (R177); the mark is not suspect. -/
def State.withSlot (s : State) (k : Nat) (c : Candidate) (g : Clock) : State :=
  let x : Slot := ⟨c, g, ⟨some c.number, some c.paper, g.state == .none⟩, false⟩
  { s with rsu := { s.rsu with slots := s.rsu.slots.put k x } }

def State.withDesk (s : State) (a : Nat) (d : Desk) : State :=
  { s with dbc := { s.dbc with desks := s.dbc.desks.put a d } }

/-- A retry trigger where a condition holds (R52). -/
def State.triggerIf (s : State) (b : Bool) : State := if b then retryTrigger s else s

/-- The candidate a number finds: its slot and the record there, readable (R24, R177). -/
def State.finds (s : State) (number k : Nat) (x : Slot) : Prop :=
  number ≤ 99999999 ∧ s.slotOf number = some k ∧ s.slot? k = some x ∧ x.suspect = false

/-! ### The starts of a paper and a hall hold, as statements name what they do -/

/-- The candidate record of a slot of a paper at its writing start: an EXPECTED one not being admitted becomes
ABSENT where the late-entry limit is 0 (R80, R36). -/
def Candidate.atWritingStart (r : Paper) (c : Candidate) : Candidate :=
  if r.late = 0 ∧ c.state = .expected ∧ c.source = none then { c with state := .absent } else c

/-- The clock a writing start gives for a paper, with this allowance and break budget (R80, R82, R86). -/
def Paper.fullClock (r : Paper) (allowance budget : Nat) : Clock :=
  let full := 60 * r.duration + (60 * r.duration * allowance + 99) / 100
  ⟨.running, full, some full, none, budget, r.warnings.findIdx fun w => 60 * w < full⟩

/-- Two states that agree in all but the roster, the Session Unit, the station link and the steps made due. -/
def SameButClocks (s t : State) : Prop :=
  t.rsu.door0 = s.rsu.door0 ∧ t.rsu.door1 = s.rsu.door1 ∧ t.hmu = s.hmu ∧ t.sal = s.sal ∧ t.htb = s.htb
  ∧ t.dbc = s.dbc ∧ t.clu = s.clu ∧ t.mru = s.mru ∧ t.fcu = s.fcu ∧ t.upsets = s.upsets ∧ t.pending = s.pending

/-- `t` is `s` after the writing start of paper `p`, whose record was `r` (R76, R80, R98). -/
def WritingStarted (s t : State) (p : Nat) (r : Paper) : Prop :=
  t.ssu = { s.ssu with
      papers := s.ssu.papers.put p { r with
        state := .writing, elapsed := 0, readingLeft := 0, admClosed := r.admClosed || r.late == 0 }
      signal := if s.ssu.held then s.ssu.signal else .pulse 3 }
  ∧ t.sli = { s.sli with notices := s.sli.notices ++ ⟨.paperState, s.htb.time, [u8 p, u8 3, u24 s.htb.time]⟩ ::
      if r.late = 0 then [⟨.absent, s.htb.time, [u8 p, u16 (s.rsu.slots.filter fun e =>
        !e.2.suspect && e.2.shadow.paper == some p && e.2.cand.state == .expected && e.2.cand.source.isNone).length]⟩]
      else [] }
  ∧ (∀ k x, s.slot? k = some x → x.suspect = false → x.shadow.paper = some p →
      let c := x.cand.atWritingStart r
      (x.clock.state = .reading →
        t.slot? k = (s.withSlot k c (r.fullClock c.allowance x.clock.budget)).slot? k)
      ∧ (x.clock.state = .none → r.reading = 0 → x.cand.state = .waiting ∨ x.cand.state = .admitted ∨ x.cand.state = .seated →
        t.slot? k = (s.withSlot k c (r.fullClock c.allowance c.breakBudget)).slot? k)
      ∧ (x.clock.state ≠ .reading → x.clock.state ≠ .none ∨ r.reading ≠ 0
          ∨ (x.cand.state ≠ .waiting ∧ x.cand.state ≠ .admitted ∧ x.cand.state ≠ .seated) →
        t.slot? k = (s.withSlot k c x.clock).slot? k))
  ∧ (∀ k, (∀ x, s.slot? k = some x → x.suspect = true ∨ x.shadow.paper ≠ some p) → t.slot? k = s.slot? k)
  ∧ SameButClocks s t

/-- `t` is `s` after the reading start of paper `p`, whose record was `r` (R76, R79). -/
def ReadingStarted (s t : State) (p : Nat) (r : Paper) : Prop :=
  t.ssu = { s.ssu with papers := s.ssu.papers.put p { r with state := .reading, readingLeft := 60 * r.reading } }
  ∧ t.sli = { s.sli with notices := s.sli.notices ++ [⟨.paperState, s.htb.time, [u8 p, u8 2, u24 s.htb.time]⟩] }
  ∧ (∀ k x, s.slot? k = some x → x.suspect = false → x.shadow.paper = some p → x.clock.state = .none →
      x.cand.state = .waiting ∨ x.cand.state = .admitted ∨ x.cand.state = .seated →
      t.slot? k = (s.withSlot k x.cand ⟨.reading, 0, none, none, x.cand.breakBudget, 0⟩).slot? k)
  ∧ (∀ k, (∀ x, s.slot? k = some x → x.suspect = true ∨ x.shadow.paper ≠ some p ∨ x.clock.state ≠ .none
      ∨ (x.cand.state ≠ .waiting ∧ x.cand.state ≠ .admitted ∧ x.cand.state ≠ .seated)) → t.slot? k = s.slot? k)
  ∧ SameButClocks s t

/-- `t` is `s` after a hold was raised with the hall not held, by the station or by the contact (R90, R98). -/
def HoldRaised (s t : State) (contact : Bool) : Prop :=
  t.ssu = { s.ssu with
    held := true, srcStation := !contact, srcContact := contact, holdLength := 0, signal := .hold true }
  ∧ t.sli = { s.sli with notices := s.sli.notices ++ [⟨.held, s.htb.time, [flag !contact, flag contact]⟩] }
  ∧ (∀ k x, s.slot? k = some x →
      (x.suspect = true → t.slot? k = some x)
      ∧ (x.suspect = false → x.clock.state = .reading ∨ x.clock.state = .running ∨ x.clock.state = .paused →
        t.slot? k = (s.withSlot k x.cand { x.clock with state := .held, before := some x.clock.state }).slot? k)
      ∧ (x.suspect = false → x.clock.state ≠ .reading → x.clock.state ≠ .running → x.clock.state ≠ .paused →
        t.slot? k = (s.withSlot k x.cand x.clock).slot? k))
  ∧ (∀ k, s.slot? k = none → t.slot? k = none)
  ∧ SameButClocks s t

/-! ### The marker, as statements name its failures and its writes -/

/-- The failure that the first of checks 2 to 6 that fails gives for a candidate number, with the decoded fields kept
and whether SHEET EXCEPTION carries the SUSPECT marker (R156, R161). -/
def State.SittingFails (s : State) (number : Nat) (f : Failure) : Prop :=
  (s.slotOf number = none ∧ f = ⟨.unknownCandidate, some number, none, false⟩)
  ∨ ∃ k x, s.slotOf number = some k ∧ s.slot? k = some x ∧
    (x.suspect = true ∧ f = ⟨.notSitting, some number, none, true⟩
    ∨ x.suspect = false ∧
      ((x.cand.state = .expected ∨ x.cand.state = .absent ∨ x.cand.state = .withdrawn) ∧
          f = ⟨.notSitting, some number, none, false⟩
      ∨ (x.cand.state = .waiting ∨ x.cand.state = .admitted ∨ x.cand.state = .seated) ∧
          f = ⟨.earlySheet, some number, none, false⟩
      ∨ (x.cand.state = .finished ∨ x.cand.state = .collected) ∧ (s.mru.results.find k).isSome = true ∧
          f = ⟨.duplicate, some number, none, false⟩))

/-- The failure the identity decode of an outcome list ends in, on a sheet of a form, by the first of the nine checks
that fails (R156). -/
def State.SheetFails (s : State) (form : Nat) (outcomes : List RowOutcome) (f : Failure) : Prop :=
  (decodedNumber outcomes = none ∧ f = ⟨.idUnreadable, none, none, false⟩)
  ∨ ∃ number, decodedNumber outcomes = some number ∧
    (s.SittingFails number f
    ∨ ∃ k x r, s.slotOf number = some k ∧ s.slot? k = some x ∧ x.suspect = false ∧
      (x.cand.state = .finished ∨ x.cand.state = .collected) ∧ s.mru.results.find k = none ∧
      s.paper? x.cand.paper = some r ∧
      (r.form ≠ form ∧ f = ⟨.wrongForm, some number, none, false⟩
      ∨ r.form = form ∧
        (decodedVersion r outcomes = none ∧ f = ⟨.versionUnreadable, some number, none, false⟩
        ∨ ∃ v, decodedVersion r outcomes = some v ∧ (s.keyOf x.cand.paper v).key = none ∧
          f = ⟨.noKey, some number, some v, false⟩)))

/-- The failure a SHEET or RETRY operation ends in from where it stands: taken, at any of the nine checks; decoded,
with no key left for the version, or else at the writing step; with its snapshot taken, at the writing step, which
makes checks 2 to 6 again (R156, R160, R161). -/
def State.OperationFails (s : State) (form : Nat) (outcomes : List RowOutcome) (g : Progress) (f : Failure) : Prop :=
  match g with
  | .taken => s.SheetFails form outcomes f
  | .decoded d => ((s.keyOf d.paper d.version).key = none ∧ f = ⟨.noKey, some d.number, some d.version, false⟩)
      ∨ ((s.keyOf d.paper d.version).key ≠ none ∧ s.SittingFails d.number f)
  | .snapshot n => s.SittingFails n.found.number f

/-- The Mark Reader Unit with a record written into one of its two buffers. -/
def Mru.withBuffer (m : Mru) (b : Nat) (r : Buffer) : Mru :=
  if b = 0 then { m with buffer0 := r } else { m with buffer1 := r }

/-- The Mark Reader Unit after a result of a paper was written, stale or not: a stale one sets the again flag of the
paper's running pass, or its rescore pending flag (R159, R161). -/
def Mru.afterWrite (m : Mru) (p : Nat) (stale : Bool) : Mru :=
  let runs := (m.pass.map (·.paper)) == some p
  { m with
    pass := m.pass.map fun q => { q with again := q.again || (stale && runs) }
    rescorePending := if stale && !runs && !m.rescorePending.contains p then insertBy id p m.rescorePending
      else m.rescorePending }

/-- The notices of the CORRECTED faults that are held, as they join the queue when a marking operation ends or is
abandoned: at the time of day as it stands, each with its fault's own time among its fields (R178). -/
def State.heldNotices (s : State) : List Notice :=
  s.fcu.held.map fun f =>
    ⟨.fault, s.htb.time, [u8 f.source.ctorIdx, u8 f.record.ctorIdx, o16 f.index, u8 f.kind.ctorIdx, u24 f.time]⟩

/-! ### Repairs of candidates, as statements name what follows them -/

/-- `t` is `s` with the collection entry of a slot taken out of its ring or round, the others keeping their order; a
round that empties so leaves its collector IDLE (R134). -/
def EntryRemoved (s t : State) (k : Nat) : Prop :=
  (∀ z, t.ringsOf z = { s.ringsOf z with
      urgent := (s.ringsOf z).urgent.filter (·.slot != k), main := (s.ringsOf z).main.filter (·.slot != k) })
  ∧ ∀ d, let c := s.collectorOf d
    let l := c.round.filter (·.slot != k)
    (c.state ≠ .round → t.collectorOf d = c)
    ∧ (c.state = .round → l ≠ [] → t.collectorOf d = { c with round := l })
    ∧ (c.state = .round → c.round ≠ [] → l = [] →
      t.collectorOf d = { c with state := .idle, zone := none, round := [], timer := none })

/-- Whether a paper is OVERTIME with no clock left to wait for, as a state shows it (R87). -/
def State.settled (u : State) (q : Nat) : Bool := (u.paper? q).map (·.state) == some .overtime && !u.clocksOpen q

/-- The notices of a paper that becomes CLOSED: PAPER STATE, and PAPER COLLECTED where none of its readable candidates
is FINISHED (R76, R136); an absent number of booklets returned counts as 0 (log entry 70). -/
def State.closingNotices (u : State) (q : Nat) : List Notice :=
  let here := u.rsu.slots.filter fun e => !e.2.suspect && e.2.shadow.paper == some q
  let collected := here.filter fun e => e.2.cand.state == .collected
  ⟨.paperState, u.htb.time, [u8 q, u8 5, u24 u.htb.time]⟩ ::
    if here.any fun e => e.2.cand.state == .finished then [] else
      [⟨.paperCollected, u.htb.time, [u8 q, u16 (collected.map fun e => e.2.cand.returned.getD 0).sum,
        u16 (collected.filter fun e => e.2.cand.discrepancy).length]⟩]

/-- The Session Unit and the notices after a repair that leaves `u`, for the papers it may settle, ascending: each
OVERTIME one that is settled is CLOSED, with its notices in order and, unless the hall is held, the END pulse (R87,
R98, R181); `said` are the notices before them. -/
def PapersSettled (s u t : State) (said : List Notice) (papers : List Nat) : Prop :=
  let closing := papers.filter u.settled
  let told := said ++ closing.flatMap u.closingNotices
  (∀ q, t.paper? q = (s.paper? q).map fun r => if closing.contains q then { r with state := .closed } else r)
  ∧ t.ssu = { s.ssu with
      papers := t.ssu.papers, signal := if closing = [] ∨ s.ssu.held = true then s.ssu.signal else .pulse 3 }
  ∧ (s.sli.notices.length + told.length ≤ 64 → t.sli = { s.sli with notices := s.sli.notices ++ told })

/-! ### Laws of the device -/

def inTrimRange (d : Nat) : Bool := Config.minTrim ≤ d && d ≤ Config.maxTrim

/-- The laws of the Hall Time Base: the ranges of D, the pending trim, the phase accumulator and the time of
day (R60, R61, R63). -/
def Htb.lawful (h : Htb) : Bool :=
  inTrimRange h.trim && (h.pendingTrim.map inTrimRange).getD true && h.phase < h.trim + 16
    && h.time < Config.daySeconds

/-- The record tables keep their indices strictly rising. -/
def State.tablesSorted (s : State) : Bool :=
  s.hmu.zones.sorted && s.hmu.seats.sorted && s.rsu.slots.sorted && s.ssu.papers.sorted && s.dbc.desks.sorted

/-! #### The hall map and its seats -/

/-- The law of a seat record (R5, R8): an occupant exactly in HELD and OCCUPIED, a last paper exactly while the
seat is in use, the override mark only then, and a desk address in its range. -/
def Seat.lawful (t : Seat) : Bool :=
  t.occupant.isSome == (t.state == .held || t.state == .occupied) && t.lastPaper.isSome == t.state.inUse
    && (!t.override || t.state.inUse) && addressOk t.desk

/-- The law of the seats and their desks (R5, R8, R101): every seat is lawful, no desk address is named twice, and
the desk records are those of the addresses that seats name. -/
def State.seatsLawful (s : State) : Bool :=
  s.tablesSorted && (List.all s.hmu.seats fun e => e.2.lawful) && distinct s.addresses
    && s.dbc.desks.keys.all s.addresses.contains && s.addresses.all s.dbc.desks.keys.contains

/-- The seats that rows make, in seat order: number, zone, row number and position (R4). -/
def Row.places (r : Row) : List (Nat × Nat × Nat × Nat) :=
  (List.range r.count).map fun i => (r.first + i, r.zone, r.number, i + 1)

/-- The law of the row map (R1, R4): seats are numbered from 0 and lie in their rows' order, the rows of a zone are
numbered from 1, and a seat's zone is defined. -/
def State.rowsLawful (s : State) : Bool :=
  s.tablesSorted
    && s.hmu.seats.map (fun e => (e.1, e.2.zone, e.2.row, e.2.position)) == s.hmu.rows.flatMap Row.places
    && s.hmu.seats.keys == List.range s.hmu.seats.length
    && (s.hmu.rows.all fun r => (s.rowsOf r.zone).map (·.number) == (List.range (s.rowsOf r.zone).length).map (· + 1))
    && List.all s.hmu.seats fun e => (s.zone? e.2.zone).isSome

/-- Whether two seats hold one paper with no override mark on either (R7). -/
def Seat.clashes (t u : Seat) : Bool :=
  !t.override && !u.override && (t.lastPaper.map fun p => t.holds p && u.holds p).getD false

/-- The law of spacing (R7): of two neighbours that hold one paper, one was given its seat with an override. -/
def State.spacingLawful (s : State) : Bool :=
  List.all s.hmu.seats fun e => (s.neighbours e.1).all fun m => !((s.seat? m).map e.2.clashes).getD false

/-! #### Candidates, clocks and results -/

/-- The law of the wait list (R51): at most 32 slots, none twice; each is suspect or WAITING, and each WAITING
candidate that is not suspect is there. -/
def State.waitLawful (s : State) : Bool :=
  s.tablesSorted && s.sal.wait.length ≤ Config.waitLimit && distinct s.sal.wait
    && (s.sal.wait.all fun k => ((s.slot? k).map fun x => x.suspect || x.cand.state == .waiting).getD false)
    && List.all s.rsu.slots fun e => e.2.suspect || e.2.cand.state != .waiting || s.sal.wait.contains e.1

/-- The law of a paper's settings (R73): its ranges, and a reading time where it is READING (R79). -/
def Paper.lawful (r : Paper) : Bool :=
  r.duration ≤ 360 && r.late ≤ 60 && 30 ≤ r.walk && r.walk ≤ 900
    && r.elapsed ≤ Config.maxElapsed && (r.state != .reading || 1 ≤ r.reading)

/-- The ranges of a candidate record and its clock (R21, R81), and an admission in progress only while EXPECTED. -/
def Slot.inRange (x : Slot) : Bool :=
  x.cand.number ≤ Config.maxNumber && x.cand.allowance ≤ 100 && x.cand.breakBudget ≤ 3600 && x.cand.issued ≤ 8
    && !beyond 8 x.cand.returned && x.clock.remaining ≤ Config.maxRemaining && x.clock.budget ≤ 3600
    && (x.cand.source.isNone || x.cand.state == .expected)

/-- The law of a clock beside its candidate's paper (R81, R87): a clock other than NONE only of a candidate that is
or was in the hall while its paper has begun, STOPPED or EXPIRED once it has finished, and none open in a CLOSED
paper. -/
def Slot.clockLawful (paper : Option Paper) (x : Slot) : Bool :=
  match paper with
  | none => x.clock.state == .none && !(x.cand.state == .finished || x.cand.state == .collected)
  | some r => !clockUnlawful x.cand x.clock r && !(x.clock.state.isOpen && r.state == .closed)

/-- The law of the clocks (R73, R81, R87, R90, R177): every paper is lawful; every record that is not suspect is in
its ranges, agrees with its shadow and its paper, and is HELD only while the hall is held, when none counts. -/
def State.clocksLawful (s : State) : Bool :=
  s.tablesSorted && (List.all s.ssu.papers fun e => e.2.lawful)
    && List.all s.rsu.slots fun e => e.2.suspect
      || (e.2.inRange && e.2.shadow == shadowOf e.2.cand e.2.clock && e.2.clockLawful (s.paper? e.2.cand.paper)
          && !clockAgainstHold s.ssu.held e.2.clock)

/-- The law of the results (R161): a result belongs to a candidate that is suspect, FINISHED or COLLECTED. -/
def State.resultsLawful (s : State) : Bool :=
  s.tablesSorted && s.mru.results.keys.all fun k =>
    ((s.slot? k).map fun x => x.suspect || x.cand.state == .finished || x.cand.state == .collected).getD false

/-! #### Lists: calls, exceptions, rings and rounds -/

/-- The law of the call list (R112): at most 64 entries, one to a seat. -/
def Dbc.callsLawful (d : Dbc) : Bool := d.calls.length ≤ Config.callLimit && distinct (d.calls.map (·.seat))

/-- Whether a seat's record is OCCUPIED. -/
def State.occupied (s : State) (n : Nat) : Bool := ((s.seat? n).map fun t => t.state == .occupied).getD false

/-- The law that calls are of OCCUPIED seats (R112): each entry is, and each desk that counts a long press is named
by an OCCUPIED seat. -/
def State.callsSeated (s : State) : Bool :=
  (s.dbc.calls.all fun c => s.occupied c.seat)
    && List.all s.dbc.desks fun e => e.2.longPress.isNone || ((s.seatOfDesk e.1).map s.occupied).getD false

/-- The law of the exception list (R140, R148): at most 32 entries, no entry number twice. -/
def Mru.exceptionsLawful (m : Mru) : Bool :=
  m.exceptions.length ≤ Config.exceptionLimit && distinct (m.exceptions.map (·.number))

/-- The law of a collector record (R121 to R123): its ranges; a round list, and a timer, exactly in ROUND; a zone
exactly in WAITING and ROUND; a round no longer than the round size. -/
def Collector.lawful (k : Collector) : Bool :=
  1 ≤ k.size && k.size ≤ 12 && 60 ≤ k.timeout && k.timeout ≤ 1800 && k.zones.all (· < Config.zoneCount)
    && distinct k.zones && k.round.isEmpty == (k.state != .round) && k.timer.isSome == (k.state == .round)
    && k.zone.isSome == (k.state == .waiting || k.state == .round) && k.round.length ≤ k.size

/-- The law of a zone's rings (R124): its waiters are WAITING for it, none twice, and none waits while an entry
lies in a ring. -/
def State.ringLawful (s : State) (z : Nat) (r : Rings) : Bool :=
  distinct r.waiters && (r.waiters.isEmpty || (r.urgent.isEmpty && r.main.isEmpty))
    && r.waiters.all fun c => (s.collectorOf c).state == .waiting && (s.collectorOf c).zone == some z

/-- The law of collection (R121 to R124): every collector and every zone's rings are lawful, and every WAITING
collector is in its zone's waiter list. -/
def State.collectionLawful (s : State) : Bool :=
  s.clu.rings.sorted && s.clu.collectors.sorted
    && (List.all s.clu.collectors fun e => e.2.lawful
      && (e.2.state != .waiting || (e.2.zone.map fun z => (s.ringsOf z).waiters.contains e.1).getD false))
    && List.all s.clu.rings fun e => s.ringLawful e.1 e.2

/-- The entries of every ring and every round. -/
def Clu.entries (u : Clu) : List Entry :=
  u.rings.flatMap (fun e => e.2.urgent ++ e.2.main) ++ u.collectors.flatMap fun e => e.2.round

/-- The law of the collection entries (R118): no slot has two, and each is of a candidate that is suspect, or
FINISHED at the entry's seat. -/
def State.entriesLawful (s : State) : Bool :=
  s.tablesSorted && s.collectionLawful && distinct (s.clu.entries.map (·.slot))
    && s.clu.entries.all fun e =>
      ((s.slot? e.slot).map fun x => x.suspect || (x.cand.state == .finished && x.cand.seat == some e.seat)).getD false

end Sys2Proof.Machine
end

