-- ==== Sys2Proof/Certificates/Slice0/Obligations.lean ====
section
/-! DEFINITION. The statements for the provers: what the commands and the device do by the rules of spec/,
one definition each. A command's effect is stated as the whole next state, so its frame is part of it. -/

open Sys2Proof Sys2Proof.Machine

/-- For every command c and state s: a step of s with c in front of its queue is exec of c on s with the queue's
rest. With nothing queued a step leaves the state as it is (the model's choice, log entry 2).
Spec: opcode_table.json; 00_scope.md How the blocks work together. -/
def Obligations.StepRunsFrontCommand : Prop :=
  (∀ (c : Instr) (rest : List Instr) (s : State),
    step { s with pending := c :: rest } = exec c { s with pending := rest })
  ∧ ∀ s : State, s.pending = [] → step s = .next s

/-- On a link ready for a request: each is refused BAD VALUE for an index outside 0 to 7 or a named value not
recognized and NOT FOUND for an undefined zone; otherwise it writes the zone and nothing else, replies DONE,
and is a retry trigger exactly when a CLOSED zone opens or a code changes.
Spec: R3. -/
def Obligations.ZoneStateRequests : Prop :=
  ∀ s : State, s.ready = true →
    (∀ z, 8 ≤ z →
      exec (.openZone z) s = .next (s.refused 19 .badValue)
      ∧ exec (.closeZone z) s = .next (s.refused 20 .badValue)
      ∧ ∀ c a, exec (.setAdmission z c a) s = .next (s.refused 21 .badValue))
    ∧ (∀ z c a, 2 ≤ c ∨ 3 ≤ a → exec (.setAdmission z c a) s = .next (s.refused 21 .badValue))
    ∧ (∀ z, z < 8 → s.zone? z = none →
      exec (.openZone z) s = .next (s.refused 19 .notFound)
      ∧ exec (.closeZone z) s = .next (s.refused 20 .notFound)
      ∧ ∀ c a, c < 2 → a < 3 → exec (.setAdmission z c a) s = .next (s.refused 21 .notFound))
    ∧ ∀ (z : Nat) (r : Zone), z < 8 → s.zone? z = some r →
      exec (.openZone z) s =
        .next (((s.withZone z { r with state := .opened }).triggerIf (r.state == .closed)).replied 19 [])
      ∧ exec (.closeZone z) s = .next ((s.withZone z { r with state := .closed }).replied 20 [])
      ∧ ∀ (a : Nat) (code : AdmissionCode), [AdmissionCode.none, .reserve, .admits][a]? = some code →
        exec (.setAdmission z 0 a) s =
          .next (((s.withZone z { r with standard := code }).triggerIf (r.standard != code)).replied 21 [])
        ∧ exec (.setAdmission z 1 a) s =
          .next (((s.withZone z { r with arranged := code }).triggerIf (r.arranged != code)).replied 21 [])

/-- On a link ready for a request, with table memory clean: DEFINE ZONE is refused BAD VALUE, then WRONG STATE
while a seat of the defined zone is in use, a suspect one by the state it last held (the model's choice, log
entry 51); on an undefined zone it makes a CLOSED zone, on a defined one it replaces spacing and codes, keeps
the state, and is a retry trigger exactly when a code changes. Nothing else changes.
Spec: 1.1 Zones; 1.7 Station requests on seats. -/
def Obligations.DefineZoneRequest : Prop :=
  ∀ (s : State) (z sp a b : Nat), s.ready = true → s.clean = true →
    (8 ≤ z ∨ 3 ≤ sp ∨ 3 ≤ a ∨ 3 ≤ b → exec (.defineZone z sp a b) s = .next (s.refused 16 .badValue))
    ∧ ∀ (sp' : Spacing) (a' b' : AdmissionCode), z < 8 → [Spacing.none, .side, .cross][sp]? = some sp' →
      [AdmissionCode.none, .reserve, .admits][a]? = some a' → [AdmissionCode.none, .reserve, .admits][b]? = some b' →
      (s.zone? z = none →
        exec (.defineZone z sp a b) s = .next ((s.withZone z ⟨.closed, sp', a', b'⟩).replied 16 []))
      ∧ ∀ r : Zone, s.zone? z = some r →
        ((∃ n t, (n, t) ∈ s.hmu.seats ∧ t.zone = z ∧ (t.state = .held ∨ t.state = .occupied ∨ t.state = .vacated)) →
          exec (.defineZone z sp a b) s = .next (s.refused 16 .wrongState))
        ∧ ((∀ n t, (n, t) ∈ s.hmu.seats → t.zone = z → t.state = .free ∨ t.state = .unavailable) →
          exec (.defineZone z sp a b) s =
            .next (((s.withZone z ⟨r.state, sp', a', b'⟩).triggerIf
              (r.standard != a' || r.arranged != b')).replied 16 []))

/-- On a link ready for a request, with table memory clean and no suspect seat, no seat in use and room left:
DEFINE ROW's row gets the next number of its zone and the number of seats as its first seat number, the reply
carries both (the row number in 1 byte, the model's layout, log entry 9), each new seat reads as R4 says,
every other seat, every zone and every other block is unchanged. With a full zone, map or seat table it is
refused FULL, with a seat in use WRONG STATE, for an undefined zone NOT FOUND, for bad values BAD VALUE. RESET
MAP is refused SUSPECT while a seat is suspect, then WRONG STATE while a seat is in use; otherwise the zones,
rows and seats are emptied, every desk record becomes UNUSED, an exchange on the bus is void, a search being
served leaves the zone it has entered (R50), and gives up a place it had found there (the model's choice, log
entry 41), and nothing else changes.
Spec: 1.2 Rows and seat numbering; 1.7 Station requests on seats; 3.3 The search. -/
def Obligations.MapIsBuiltAndEmptied : Prop :=
  (∀ (s : State) (z c : Nat), s.ready = true → s.clean = true →
      (8 ≤ z ∨ c = 0 ∨ 32 < c → exec (.defineRow z c) s = .next (s.refused 17 .badValue))
      ∧ (z < 8 → 1 ≤ c → c ≤ 32 →
        (s.zone? z = none → exec (.defineRow z c) s = .next (s.refused 17 .notFound))
        ∧ ((s.zone? z).isSome = true → (∃ e ∈ s.hmu.seats, e.2.suspect = true) →
          exec (.defineRow z c) s = .next (s.refused 17 .suspect))
        ∧ ((s.zone? z).isSome = true → (∀ e ∈ s.hmu.seats, e.2.suspect = false) →
          ((∃ e ∈ s.hmu.seats, e.2.state.inUse = true) → exec (.defineRow z c) s = .next (s.refused 17 .wrongState))
          ∧ ((∀ e ∈ s.hmu.seats, e.2.state.inUse = false) →
            (16 ≤ (s.rowsOf z).length ∨ 64 ≤ s.hmu.rows.length ∨ 512 < s.hmu.seats.length + c →
              exec (.defineRow z c) s = .next (s.refused 17 .full))
            ∧ ((s.rowsOf z).length < 16 → s.hmu.rows.length < 64 → s.hmu.seats.length + c ≤ 512 →
              ∃ seats : Table Seat,
                exec (.defineRow z c) s = .next (({ s with hmu := { s.hmu with
                    rows := s.hmu.rows ++ [Row.mk z ((s.rowsOf z).length + 1) c s.hmu.seats.length]
                    seats := seats } }).replied 17 [u8 ((s.rowsOf z).length + 1), u16 s.hmu.seats.length])
                ∧ (∀ i, i < c → seats.find (s.hmu.seats.length + i) =
                    some ⟨z, (s.rowsOf z).length + 1, i + 1, .standard, none, .free, none, none, false, false, false⟩)
                ∧ ∀ m, m < s.hmu.seats.length ∨ s.hmu.seats.length + c ≤ m → seats.find m = s.seat? m)))))
    ∧ (∀ s : State, s.ready = true → s.clean = true →
      ((∃ e ∈ s.hmu.seats, e.2.suspect = true) → exec .resetMap s = .next (s.refused 23 .suspect))
      ∧ ((∀ e ∈ s.hmu.seats, e.2.suspect = false) →
        ((∃ e ∈ s.hmu.seats, e.2.state.inUse = true) → exec .resetMap s = .next (s.refused 23 .wrongState))
        ∧ ((∀ e ∈ s.hmu.seats, e.2.state.inUse = false) →
          let out (q : Search) : Stage :=
            .searching (if q.entered = true then { q with zones := q.zones.tail, entered := false } else q)
          let gone (g : Stage) : Stage := match g with
            | .searching q => out q
            | .found _ _ _ q => out q
            | .preplaced n => .preplaced n
            | .noSeat => .noSeat
          exec .resetMap s = .next (({ s with
            hmu := Hmu.mk [] [] []
            sal := { s.sal with serving := s.sal.serving.map fun a : Allocation => { a with stage := gone a.stage } }
            dbc := { s.dbc with
              desks := []
              exchange := s.dbc.exchange.map fun x : Exchange => { x with void := true } } } : State).replied 23 []))))

/-- On a link ready for a request, with table memory clean: the refusals of SET SEAT in their order (CONFLICT for
the address of another seat, where the address a suspect seat's record last held counts as named, the model's
choice, log entry 64), and otherwise class, desk address and availability written at once, a retry trigger
exactly when an UNAVAILABLE seat becomes FREE, and the desk records following the addresses; nothing else
changes.
Spec: 1.7 Station requests on seats; 6.1 The desk table and the poll list. -/
def Obligations.SetSeatRequest : Prop :=
  ∀ (s : State) (n c : Nat) (d : Option Nat) (a : Nat), s.ready = true → s.clean = true →
    (4 ≤ c ∨ 1 < a ∨ d = some 0 ∨ (∃ x, d = some x ∧ 511 < x) →
      exec (.setSeat n c d a) s = .next (s.refused 18 .badValue))
    ∧ ∀ cls : SeatClass, [SeatClass.standard, .nearExit, .wide, .isolated][c]? = some cls → a ≤ 1 →
      (∀ x, d = some x → 1 ≤ x ∧ x ≤ 511) →
      (s.seat? n = none → exec (.setSeat n c d a) s = .next (s.refused 18 .notFound))
      ∧ ∀ r : Seat, s.seat? n = some r →
        (r.suspect = true → exec (.setSeat n c d a) s = .next (s.refused 18 .suspect))
        ∧ (r.suspect = false → s.addressTaken n d = true →
          exec (.setSeat n c d a) s = .next (s.refused 18 .conflict))
        ∧ (r.suspect = false → s.addressTaken n d = false →
          (r.state = .held ∨ r.state = .occupied → exec (.setSeat n c d a) s = .next (s.refused 18 .wrongState))
          ∧ (r.state ≠ .held → r.state ≠ .occupied →
            (a = 0 → exec (.setSeat n c d a) s = .next ((syncDesks ((s.withSeat n
                { r with cls := cls, desk := d, state := if r.state = .unavailable then .free else r.state }).triggerIf
                  (r.state == .unavailable))).replied 18 []))
            ∧ (a = 1 → exec (.setSeat n c d a) s = .next ((syncDesks (s.withSeat n
                { r with cls := cls, desk := d, state := .unavailable, lastPaper := none,
                         override := false })).replied 18 []))))

/-- On a link ready for a request, with table memory clean: NOT FOUND, SUSPECT and WRONG STATE as R17 gives them;
a VACATED seat, which has no occupant (R8), becomes FREE with last paper and override mark cleared and its
used mark kept, and a wait list retry is triggered; nothing else changes.
Spec: 1.5 Seat states and transitions; 1.7 Station requests on seats; 1.6 Seat marks and withholding. -/
def Obligations.ClearSeatRequest : Prop :=
  ∀ (s : State) (n : Nat), s.ready = true → s.clean = true →
    (s.seat? n = none → exec (.clearSeat n) s = .next (s.refused 22 .notFound))
    ∧ ∀ r : Seat, s.seat? n = some r →
      (r.suspect = true → exec (.clearSeat n) s = .next (s.refused 22 .suspect))
      ∧ (r.suspect = false → r.state ≠ .vacated → exec (.clearSeat n) s = .next (s.refused 22 .wrongState))
      ∧ (r.suspect = false → r.state = .vacated → r.occupant = none →
        exec (.clearSeat n) s = .next ((retryTrigger (s.withSeat n
          { r with state := .free, lastPaper := none, override := false })).replied 22 []))

/-- On a link ready for a request, with table memory clean: the refusals of R20, and otherwise a DONE reply with
the fields R20 lists, in its order (a row number in 1 byte, the model's layout, log entry 9); nothing but the
reply list changes.
Spec: 1.7 Station requests on seats; 12.3 Field widths. -/
def Obligations.SeatAndZoneQueries : Prop :=
  ∀ s : State, s.ready = true → s.clean = true →
    (∀ n, (s.seat? n = none → exec (.querySeat n) s = .next (s.refused 24 .notFound))
      ∧ ∀ r, s.seat? n = some r →
        (r.suspect = true → exec (.querySeat n) s = .next (s.refused 24 .suspect))
        ∧ (r.suspect = false → exec (.querySeat n) s = .next (s.replied 24
          ([u16 n] ++ (labelOf r).map u8 ++ [u8 r.cls.ctorIdx, o16 r.desk, u8 r.state.ctorIdx, o16 r.occupant,
            o8 r.lastPaper, flag r.used, flag r.override,
            flag (r.state == .free && !(r.desk.map s.online).getD false)]))))
    ∧ ∀ z, (8 ≤ z → exec (.queryZone z) s = .next (s.refused 25 .badValue))
      ∧ (z < 8 → s.zone? z = none → exec (.queryZone z) s = .next (s.refused 25 .notFound))
      ∧ ∀ r, z < 8 → s.zone? z = some r → exec (.queryZone z) s = .next (s.replied 25
        ([u8 r.state.ctorIdx, u8 r.spacing.ctorIdx, u8 r.standard.ctorIdx, u8 r.arranged.ctorIdx,
            u16 (s.seatCount z)]
          ++ listField (fun w => [u8 w.number, u8 w.count, u16 w.first]) (s.rowsOf z)
          ++ [SeatState.unavailable, .free, .held, .occupied, .vacated].map (fun st =>
            u16 (s.hmu.seats.count fun t => t.zone == z && !t.suspect && t.state == st))
          ++ [u16 (s.hmu.seats.count fun t => t.zone == z && t.suspect),
              u16 (s.hmu.seats.count fun t => t.zone == z && !t.suspect &&
                (t.state == .free && !(t.desk.map s.online).getD false))]))

/-- On a link ready for a request, with table memory clean: both are refused BAD VALUE for a number out of range,
NOT FOUND, SUSPECT and WRONG STATE as their rules give. Otherwise the allowance or the booklets issued are
written, clamped to 100 and 8, with CLAMPED where clamped, and nothing else of the candidate changes; for a
FINISHED candidate the slot's entry, in its place in a ring or a collector's round, expects the new count, and
no other entry changes.
Spec: 2.2 Loading the roster; 7.2 Booklet counts; 7.1 Rings and entries. -/
def Obligations.AllowanceAndBookletRequests : Prop :=
  ∀ (s : State) (number v : Nat), s.ready = true → s.clean = true →
    (99999999 < number → exec (.setAllowance number v) s = .next (s.refused 33 .badValue)
      ∧ exec (.setBooklets number v) s = .next (s.refused 38 .badValue))
    ∧ (number ≤ 99999999 → s.slotOf number = none →
      exec (.setAllowance number v) s = .next (s.refused 33 .notFound)
      ∧ exec (.setBooklets number v) s = .next (s.refused 38 .notFound))
    ∧ (∀ k x, number ≤ 99999999 → s.slotOf number = some k → s.slot? k = some x → x.suspect = true →
      exec (.setAllowance number v) s = .next (s.refused 33 .suspect)
      ∧ exec (.setBooklets number v) s = .next (s.refused 38 .suspect))
    ∧ ∀ k x, s.finds number k x →
      ((x.cand.state = .finished ∨ x.cand.state = .collected ∨ x.cand.state = .absent ∨ x.cand.state = .withdrawn
          ∨ (x.clock.state ≠ .none ∧ x.clock.state ≠ .reading) →
        exec (.setAllowance number v) s = .next (s.refused 33 .wrongState))
      ∧ (x.cand.state = .expected ∨ x.cand.state = .waiting ∨ x.cand.state = .admitted ∨ x.cand.state = .seated →
        x.clock.state = .none ∨ x.clock.state = .reading →
        exec (.setAllowance number v) s =
          .next ((s.withSlot k { x.cand with allowance := min v 100 } x.clock).repliedClamped 33 (100 < v) []))
      ∧ (x.cand.state = .collected ∨ x.cand.state = .absent ∨ x.cand.state = .withdrawn →
        exec (.setBooklets number v) s = .next (s.refused 38 .wrongState))
      ∧ (x.cand.state = .expected ∨ x.cand.state = .waiting ∨ x.cand.state = .admitted ∨ x.cand.state = .seated →
        exec (.setBooklets number v) s =
          .next ((s.withSlot k { x.cand with issued := min v 8 } x.clock).repliedClamped 38 (8 < v) [u8 (min v 8)]))
      ∧ (x.cand.state = .finished →
        exec (.setBooklets number v) s =
          .next ((setExpected k (min v 8) (s.withSlot k { x.cand with issued := min v 8 } x.clock)).repliedClamped 38
            (8 < v) [u8 (min v 8)]))
        ∧ (x.cand.state = .finished →
          let u := s.withSlot k { x.cand with issued := min v 8 } x.clock
          let t := setExpected k (min v 8) u
          let f (e : Entry) : Entry := if e.slot = k then { e with booklets := min v 8 } else e
          t = { u with clu := t.clu }
          ∧ (∀ z, t.ringsOf z =
              { s.ringsOf z with urgent := (s.ringsOf z).urgent.map f, main := (s.ringsOf z).main.map f })
          ∧ ∀ c, t.collectorOf c = { s.collectorOf c with round := (s.collectorOf c).round.map f }))

/-- On a link ready for a request, with table memory clean: BAD VALUE, NOT FOUND and SUSPECT as R39 gives them,
and otherwise a DONE reply with every field of the record, the seat labels alongside (7 bytes of all ones for
a seat that is absent or does not exist, the model's choice, log entry 7), the wait list position counted from
1, and the clock; nothing but the reply list changes.
Spec: 2.8 Queries and resets; 12.3 Field widths. -/
def Obligations.QueryCandidateRequest : Prop :=
  ∀ (s : State) (number : Nat), s.ready = true → s.clean = true →
    (99999999 < number → exec (.queryCandidate number) s = .next (s.refused 37 .badValue))
    ∧ (number ≤ 99999999 → s.slotOf number = none → exec (.queryCandidate number) s = .next (s.refused 37 .notFound))
    ∧ (∀ k x, number ≤ 99999999 → s.slotOf number = some k → s.slot? k = some x → x.suspect = true →
      exec (.queryCandidate number) s = .next (s.refused 37 .suspect))
    ∧ ∀ k x, s.finds number k x → exec (.queryCandidate number) s = .next (s.replied 37
      ([u16 k, u32 x.cand.number, u8 x.cand.paper, u8 x.cand.cls.ctorIdx, u8 x.cand.allowance,
          u16 x.cand.breakBudget, o16 x.cand.preplaced] ++ s.labelFields x.cand.preplaced
        ++ [u8 x.cand.state.ctorIdx, o16 x.cand.seat] ++ s.labelFields x.cand.seat
        ++ [o16 x.cand.lastSeat] ++ s.labelFields x.cand.lastSeat
        ++ [o8 (x.cand.source.map (·.ctorIdx)), o24 x.cand.admTime, o16 x.cand.walk,
            o8 (x.cand.reason.map (·.ctorIdx)), u8 x.cand.issued, o8 x.cand.returned, flag x.cand.discrepancy,
            flag x.suspect, flag (s.sal.wait.contains k),
            o8 (if s.sal.wait.contains k then some (s.sal.wait.findIdx (· == k) + 1) else none),
            u8 x.clock.state.ctorIdx, u16 x.clock.remaining, o16 x.clock.extended, u16 x.clock.budget]))

/-- On a link ready for a request, with table memory clean: ADMIT is refused as the table of the admission checks
gives, the first failing check deciding, and nothing else changes. If every check passes the admission source
becomes STATION, the allocation request waits at the arbiter, and the request keeps the taken place with no
reply yet.
Spec: 2.3 Door readers and admission; 10.2 Taking requests. -/
def Obligations.AdmitRequest : Prop :=
  ∀ (s : State) (number : Nat), s.ready = true → s.clean = true →
    (99999999 < number → exec (.admitCandidate number) s = .next (s.refused 34 .badValue))
    ∧ (number ≤ 99999999 → s.slotOf number = none → exec (.admitCandidate number) s = .next (s.refused 34 .notFound))
    ∧ (∀ k x, number ≤ 99999999 → s.slotOf number = some k → s.slot? k = some x → x.suspect = true →
      exec (.admitCandidate number) s = .next (s.refused 34 .suspect))
    ∧ ∀ k x, s.finds number k x →
      (x.cand.state ≠ .expected ∨ x.cand.source.isSome = true →
        exec (.admitCandidate number) s = .next (s.refused 34 .wrongState))
      ∧ (x.cand.state = .expected → x.cand.source = none →
        (s.ssu.held = true → exec (.admitCandidate number) s = .next (s.refused 34 .hallHeld))
        ∧ ∀ r, s.ssu.held = false → s.paper? x.cand.paper = some r →
          (r.state = .defined → exec (.admitCandidate number) s = .next (s.refused 34 .wrongState))
          ∧ (r.state = .overtime ∨ r.state = .closed ∨ (r.state = .writing ∧ 60 * r.late ≤ r.elapsed) →
            exec (.admitCandidate number) s = .next (s.refused 34 .tooLate))
          ∧ (r.state = .admitting ∨ r.state = .reading ∨ (r.state = .writing ∧ r.elapsed < 60 * r.late) →
            exec (.admitCandidate number) s =
              .next { s.withSlot k { x.cand with source := some .station } x.clock with
                sal := { s.sal with reqStation := some (.allocation k) }
                sli := { s.sli with taken := some (.deferred 34 false) } }))

/-- With nothing due and table memory clean: at an IDLE port a card whose check fails is answered READ AGAIN and
nothing else changes; at an OUTSTANDING port any card is answered BUSY with notice DOOR ANSWER and the
outstanding card goes on; a card whose number fails an admission check is answered REFUSED with the reason of
the first check that fails (UNKNOWN, SUSPECT, WRONG STATE, HALL HELD, NOT OPEN, CLOSED), with notice, and the
port is IDLE; a card that passes every check makes the port OUTSTANDING, writes the admission source and
places the door's request at the arbiter. All this at door 0 and at door 1 alike, and nothing else changes.
The notice always carries both the reason, coded as in the door answer frame, and the label (the model's
choice, log entry 40).
Spec: 2.3 Door readers and admission; 12.6 Desk bus, door and scan link frames. -/
def Obligations.DoorCardIsTaken : Prop :=
  ∀ (s : State) (n3 n2 n1 n0 ck : Byte), s.calm = true → s.clean = true →
    let number := ((n3.toNat * 256 + n2.toNat) * 256 + n1.toNat) * 256 + n0.toNat
    let card (d : Nat) : Instr := .cardRecord d n3 n2 n1 n0 ck
    (s.rsu.door0.card = none → n3 + n2 + n1 + n0 + ck ≠ 0 →
      exec (card 0) s = .next { s with rsu := { s.rsu with door0 := ⟨none, some .readAgain⟩ } })
    ∧ (s.rsu.door1.card = none → n3 + n2 + n1 + n0 + ck ≠ 0 →
      exec (card 1) s = .next { s with rsu := { s.rsu with door1 := ⟨none, some .readAgain⟩ } })
    ∧ (∀ c, s.rsu.door0.card = some c → exec (card 0) s =
      .next (notify .doorAnswer ([u8 0, u32 number, u8 3, u8 0] ++ labelFields none ++ [o16 (s.slotOf number)])
        { s with rsu := { s.rsu with door0 := ⟨some c, some .busy⟩ } }))
    ∧ (∀ c, s.rsu.door1.card = some c → exec (card 1) s =
      .next (notify .doorAnswer ([u8 1, u32 number, u8 3, u8 0] ++ labelFields none ++ [o16 (s.slotOf number)])
        { s with rsu := { s.rsu with door1 := ⟨some c, some .busy⟩ } }))
    ∧ (let refusedCard (why : DoorReason) (code : Nat) : Prop :=
        (s.rsu.door0.card = none → exec (card 0) s =
          .next (notify .doorAnswer ([u8 0, u32 number, u8 2, u8 code] ++ labelFields none ++ [o16 (s.slotOf number)])
            { s with rsu := { s.rsu with door0 := ⟨none, some (.refused why)⟩ } }))
        ∧ (s.rsu.door1.card = none → exec (card 1) s =
          .next (notify .doorAnswer ([u8 1, u32 number, u8 2, u8 code] ++ labelFields none ++ [o16 (s.slotOf number)])
            { s with rsu := { s.rsu with door1 := ⟨none, some (.refused why)⟩ } }))
      n3 + n2 + n1 + n0 + ck = 0 →
      (s.slotOf number = none → refusedCard .unknown 1)
      ∧ ∀ k x, s.slotOf number = some k → s.slot? k = some x →
        (x.suspect = true → refusedCard .suspect 2)
        ∧ (x.suspect = false → x.cand.state ≠ .expected ∨ x.cand.source.isSome = true → refusedCard .wrongState 3)
        ∧ (x.suspect = false → x.cand.state = .expected → x.cand.source = none →
          (s.ssu.held = true → refusedCard .hallHeld 4)
          ∧ ∀ r, s.ssu.held = false → s.paper? x.cand.paper = some r →
            (r.state = .defined → refusedCard .notOpen 5)
            ∧ (r.state = .overtime ∨ r.state = .closed ∨ (r.state = .writing ∧ 60 * r.late ≤ r.elapsed) →
              refusedCard .closed 6)))
    ∧ ∀ k x r, n3 + n2 + n1 + n0 + ck = 0 → s.slotOf number = some k → s.slot? k = some x → x.suspect = false →
      x.cand.state = .expected → x.cand.source = none → s.ssu.held = false → s.paper? x.cand.paper = some r →
      (r.state = .admitting ∨ r.state = .reading ∨ (r.state = .writing ∧ r.elapsed < 60 * r.late)) →
      (s.rsu.door0.card = none → exec (card 0) s =
        .next { s with
          rsu := { (s.withSlot k { x.cand with source := some .door0 } x.clock).rsu with
            door0 := ⟨some number, s.rsu.door0.out⟩ }
          sal := { s.sal with reqDoor0 := some k } })
      ∧ (s.rsu.door1.card = none → exec (card 1) s =
        .next { s with
          rsu := { (s.withSlot k { x.cand with source := some .door1 } x.clock).rsu with
            door1 := ⟨some number, s.rsu.door1.out⟩ }
          sal := { s.sal with reqDoor1 := some k } })

/-- On a link ready for a request, with table memory clean: refused BAD VALUE, NOT FOUND, SUSPECT, BUSY while an
admission is in progress, and WRONG STATE for a candidate past the hall, ABSENT, WITHDRAWN, or SEATED with no
clock; an EXPECTED candidate, or a WAITING one whose clock has not begun, becomes WITHDRAWN and leaves the
wait list and the span of a walk (as RetryTriggerActs states it; that a walk ends then and there is the
model's choice, log entry 42); an ADMITTED one gives its HELD seat back to FREE, which is a retry trigger, or,
where that seat refuses its release, stays as it is and is refused SUSPECT or WRONG STATE (the reply is the
model's choice, log entry 59); one whose clock has begun is finished with reason WITHDRAWN by the accepted
finish. Nothing else changes in the first two cases.
Spec: 2.7 Withdrawal; 1.5 Seat states and transitions. -/
def Obligations.WithdrawRequest : Prop :=
  ∀ (s : State) (number : Nat), s.ready = true → s.clean = true →
    (99999999 < number → exec (.withdraw number) s = .next (s.refused 36 .badValue))
    ∧ (number ≤ 99999999 → s.slotOf number = none → exec (.withdraw number) s = .next (s.refused 36 .notFound))
    ∧ (∀ k x, number ≤ 99999999 → s.slotOf number = some k → s.slot? k = some x → x.suspect = true →
      exec (.withdraw number) s = .next (s.refused 36 .suspect))
    ∧ ∀ k x, s.finds number k x →
      (x.cand.source.isSome = true → exec (.withdraw number) s = .next (s.refused 36 .busy))
      ∧ (x.cand.source = none →
        (x.cand.state = .finished ∨ x.cand.state = .collected ∨ x.cand.state = .absent ∨ x.cand.state = .withdrawn
            ∨ (x.cand.state = .seated ∧ x.clock.state = .none) →
          exec (.withdraw number) s = .next (s.refused 36 .wrongState))
        ∧ ((x.cand.state = .expected ∨ (x.cand.state = .waiting ∧ x.clock.state = .none)) → x.cand.seat = none →
          exec (.withdraw number) s =
            .next ({ s.withSlot k { x.cand with state := .withdrawn, seat := none, walk := none } x.clock with
              sal := s.sal.left k }.replied 36 []))
        ∧ (∀ n r, x.cand.state = .admitted → x.clock.state = .none → x.cand.seat = some n → s.seat? n = some r →
          r.suspect = false → r.state = .held →
          ∃ t : State, exec (.withdraw number) s = .next (t.replied 36 [])
            ∧ t.seat? n = some { r with state := .free, occupant := none, lastPaper := none, override := false }
            ∧ (∀ m, m ≠ n → t.seat? m = s.seat? m)
            ∧ t.rsu = (s.withSlot k { x.cand with state := .withdrawn, seat := none, walk := none } x.clock).rsu
            ∧ t.sal = (retryTrigger { s with sal := s.sal.left k }).sal
            ∧ t.sli = s.sli ∧ t.ssu = s.ssu ∧ t.htb = s.htb ∧ t.clu = s.clu ∧ t.mru = s.mru ∧ t.fcu = s.fcu
            ∧ t.dbc.calls = s.dbc.calls ∧ t.hmu.zones = s.hmu.zones ∧ t.hmu.rows = s.hmu.rows)
        ∧ (∀ n, x.cand.state = .admitted → x.clock.state = .none → x.cand.seat = some n →
          (∀ r, s.seat? n = some r → r.suspect = true → exec (.withdraw number) s = .next (s.refused 36 .suspect))
          ∧ (s.seat? n = none → exec (.withdraw number) s = .next (s.refused 36 .wrongState))
          ∧ ∀ r, s.seat? n = some r → r.suspect = false → r.state ≠ .held →
            exec (.withdraw number) s = .next (s.refused 36 .wrongState))
        ∧ ((x.cand.state = .waiting ∨ x.cand.state = .admitted ∨ x.cand.state = .seated) → x.clock.state ≠ .none →
          exec (.withdraw number) s = .next ((acceptFinish k .withdrawn s).replied 36 [])))

/-- While a LOAD CANDIDATES record is being taken, with nothing due and the reply list short of 8, whatever wrong
bits table memory holds: an entry whose own check fails is not handed on and stops the record; an entry
outside the ranges is refused BAD VALUE, one of an undefined paper NOT FOUND, one of an OVERTIME or CLOSED
paper WRONG STATE, one for a suspect slot SUSPECT, for a slot in use that is not EXPECTED or is being admitted
WRONG STATE, with a number another used slot holds DUPLICATE; otherwise it writes the slot's new record whole,
its values clamped and its defaults taken, EXPECTED, or ABSENT where the paper is WRITING and its late-entry
limit is 0 or has passed, with a clock of NONE, and its outcome is kept for the reply. The record is written
without being read, which clears its wrong bits; an entry that is refused reads nothing either, the state and
source of its test being those the record last held (the model's choice, log entry 68), and the numbers of
other slots those of their shadows (log entry 67). Nothing else changes.
Spec: 2.2 Loading the roster; 10.3 Batch records; 11.1 Table memory errors. -/
def Obligations.RosterEntryIsTaken : Prop :=
  ∀ (s : State) (b : Batch) (t : BatchTaken) (k number p c a : Nat) (m bk z : Option Nat),
    s.calm = true → s.deaf = false → s.sli.receive = .inBatch b false → b.header = .loadCandidates →
    14 ≤ b.left → s.sli.taken = some (.batch t) → t.header = .loadCandidates → t.stopped = false → t.refusal = none →
    let after (t' : BatchTaken) (s' : State) : State := { s' with sli := { s.sli with
      receive := .inBatch { b with left := b.left - 14 } false, taken := some (.batch t') } }
    let noted (r : Answer) : BatchTaken := { t with answers := t.answers ++ [r] }
    exec (.loadCandidatesEntry k number p c a m bk z false) s = .next (after { t with stopped := true } s)
    ∧ (2 ≤ c ∨ 576 ≤ k ∨ 99999999 < number ∨ 16 ≤ p ∨ (∃ n, z = some n ∧ 511 < n) →
      exec (.loadCandidatesEntry k number p c a m bk z true) s =
        .next (after (noted ⟨.refused, .badValue, []⟩) s))
    ∧ ∀ cls, [CandidateClass.standard, .arranged][c]? = some cls → k < 576 → number ≤ 99999999 → p < 16 →
      (∀ n, z = some n → n ≤ 511) →
      (s.paper? p = none → exec (.loadCandidatesEntry k number p c a m bk z true) s =
        .next (after (noted ⟨.refused, .notFound, []⟩) s))
      ∧ ∀ r, s.paper? p = some r →
        let refusedEntry (why : Reason) : Prop := exec (.loadCandidatesEntry k number p c a m bk z true) s =
          .next (after (noted ⟨.refused, why, []⟩) s)
        (r.state = .overtime ∨ r.state = .closed → refusedEntry .wrongState)
        ∧ (r.state ≠ .overtime → r.state ≠ .closed →
        (∀ x, s.slot? k = some x →
          (x.suspect = true → refusedEntry .suspect)
          ∧ (x.suspect = false → x.cand.state ≠ .expected ∨ x.cand.source.isSome = true → refusedEntry .wrongState))
        ∧ ((∀ x, s.slot? k = some x → x.suspect = false ∧ x.cand.state = .expected ∧ x.cand.source = none) →
        ((∃ e ∈ s.rsu.slots, e.1 ≠ k ∧ e.2.shadow.number = some number) → refusedEntry .duplicate)
        ∧ ((∀ e ∈ s.rsu.slots, e.1 ≠ k → e.2.shadow.number ≠ some number) →
        let past : Bool := r.state == .writing && (r.late == 0 || 60 * r.late ≤ r.elapsed)
        exec (.loadCandidatesEntry k number p c a m bk z true) s =
          .next (after
            (noted ⟨if 100 < a || beyond 60 m || beyond 8 bk then .clamped else .done,
              .none, [u8 (if past then 6 else 0)]⟩)
            ({ s with upsets := s.upsets.filter fun u => u.record != RecordRef.candidate k }.withSlot k
              { number := number, paper := p, cls := cls, allowance := min a 100,
                breakBudget := 60 * min (m.getD r.breakDefault) 60, preplaced := z,
                state := if past then .absent else .expected,
                seat := none, lastSeat := none, source := none, admTime := none, walk := none, reason := none,
                issued := min (bk.getD r.bookletDefault) 8, returned := none, discrepancy := false }
              ⟨.none, 0, none, none, 0, 0⟩)))))

/-- With nothing due and table memory clean, while the allocation being served searches: one place is considered,
and its seat is found where it fits (FREE, with a desk ONLINE, not suspect, of a class the candidate accepts,
its used mark clear in the first pass of a zone and set in the second, spacing holding), else the search goes
on behind it. A zone that is undefined, CLOSED or does not ADMIT the class is passed over, as is one without
seats; a zone is entered at its cursor's place, or at 0 where that is beyond its seats; behind the last place
the pass wraps to place 0 and goes on to before the place it began at; then the second pass begins at the
place the first began at, or at 0 where that is beyond its seats, and goes on in the same way, and after it
the next zone of the order; with no zone left the search ends without a seat. An allocation not searching is
left alone. Nothing else changes. Where the rows are lawful, a zone's fill order holds each of its seats at
one place: rows ascending, in a row the odd positions ascending and then the even ones; a seat's neighbours
are, under SIDE, the seats one position to either side in its row, under CROSS also those of its position one
row before and behind, and under NONE none; spacing holds for a paper where no neighbour that is HELD,
OCCUPIED or VACATED has it as last paper (a suspect neighbour is judged by what its record last held).
Spec: 3.3 The search; 1.4 Neighbours and spacing; 11.1 Table memory errors. -/
def Obligations.SearchConsidersOneSeat : Prop :=
  (∀ (s : State) (rq : Requester) (k paper : Nat) (cls : CandidateClass) (order : List Nat), s.calm = true → s.clean = true →
      let at_ (g : Stage) : State := { s with sal := { s.sal with serving := some ⟨rq, k, paper, cls, order, g⟩ } }
      let fits (r : Seat) (n : Nat) (second : Bool) : Prop :=
        r.state = .free ∧ (∃ a, r.desk = some a ∧ s.online a = true) ∧ r.suspect = false ∧ r.used = second
          ∧ (cls = .arranged ∨ r.cls = .standard ∨ r.cls = .nearExit) ∧ s.spacingHolds paper n = true
      let considers (q : Search) (z place : Nat) (on : Search) : Prop :=
        ∀ n r, (s.fillOrder z)[place]? = some n → s.seat? n = some r →
          (fits r n on.second → exec .searchSeat (at_ (.searching q)) = .next (at_ (.found n z place on)))
          ∧ (¬ fits r n on.second → exec .searchSeat (at_ (.searching q)) = .next (at_ (.searching on)))
      let goesOnAs (q p : Search) : Prop := exec .searchSeat (at_ (.searching q)) = exec .searchSeat (at_ (.searching p))
      (∀ a b c d e, exec .searchSeat (at_ (.searching ⟨[], a, b, c, d, e⟩)) = .next (at_ .noSeat))
      ∧ (∀ g, (∀ q, g ≠ .searching q) → exec .searchSeat (at_ g) = .next (at_ g))
      ∧ ∀ (z : Nat) (rest : List Nat) (second wrapped : Bool) (start next : Nat),
        let seats := s.seatCount z
        let first := if s.cursorOf paper z < seats then s.cursorOf paper z else 0
        let again := if start < seats then start else 0
        ((s.zone? z = none ∨ (∃ r, s.zone? z = some r ∧ (r.state = .closed ∨ r.code cls ≠ .admits))) →
          goesOnAs ⟨z :: rest, false, second, start, next, wrapped⟩ ⟨rest, false, second, start, next, wrapped⟩)
        ∧ (∀ r, s.zone? z = some r → r.state = .opened → r.code cls = .admits →
          (0 < seats → considers ⟨z :: rest, false, second, start, next, wrapped⟩ z first
            ⟨z :: rest, true, false, first, first + 1, false⟩)
          ∧ (seats = 0 → goesOnAs ⟨z :: rest, false, second, start, next, wrapped⟩ ⟨rest, false, second, start, next, wrapped⟩))
        ∧ (next < seats → considers ⟨z :: rest, true, second, start, next, false⟩ z next
            ⟨z :: rest, true, second, start, next + 1, false⟩)
        ∧ (seats ≤ next → 0 < seats → 0 < start → considers ⟨z :: rest, true, second, start, next, false⟩ z 0
            ⟨z :: rest, true, second, start, 1, true⟩)
        ∧ (next < start → next < seats → considers ⟨z :: rest, true, second, start, next, true⟩ z next
            ⟨z :: rest, true, second, start, next + 1, true⟩)
        ∧ ((wrapped = true ∧ (start ≤ next ∨ seats ≤ next)) ∨ (wrapped = false ∧ seats ≤ next ∧ (start = 0 ∨ seats = 0)) →
          (0 < seats → considers ⟨z :: rest, true, false, start, next, wrapped⟩ z again
            ⟨z :: rest, true, true, again, again + 1, false⟩)
          ∧ (seats = 0 → goesOnAs ⟨z :: rest, true, false, start, next, wrapped⟩ ⟨rest, false, false, start, next, wrapped⟩)
          ∧ goesOnAs ⟨z :: rest, true, true, start, next, wrapped⟩ ⟨rest, false, true, start, next, wrapped⟩))
    ∧ (∀ s : State, s.rowsLawful = true → ∀ z : Nat,
      (s.fillOrder z).length = s.seatCount z
      ∧ (∀ n, n ∈ s.fillOrder z ↔ ∃ t, s.seat? n = some t ∧ t.zone = z)
      ∧ (s.fillOrder z).Pairwise (fun m n => ∀ t u, s.seat? m = some t → s.seat? n = some u →
          t.row < u.row ∨ (t.row = u.row ∧ (u.position % 2 < t.position % 2
            ∨ (t.position % 2 = u.position % 2 ∧ t.position < u.position))))
      ∧ ∀ n m t r, s.seat? n = some t → t.zone = z → s.zone? z = some r →
        (m ∈ s.neighbours n ↔ ∃ u, s.seat? m = some u ∧ u.zone = z
          ∧ ((r.spacing ≠ .none ∧ u.row = t.row ∧ (u.position + 1 = t.position ∨ t.position + 1 = u.position))
            ∨ (r.spacing = .cross ∧ u.position = t.position ∧ (u.row + 1 = t.row ∨ t.row + 1 = u.row)))))
    ∧ (∀ (s : State) (n paper : Nat), (s.spacingHolds paper n = true ↔ ∀ m t, m ∈ s.neighbours n → s.seat? m = some t →
        ¬ ((t.state = .held ∨ t.state = .occupied ∨ t.state = .vacated) ∧ t.lastPaper = some paper)))

/-- With nothing due and table memory clean: while an allocation is served, or with no request it may serve, a
choice changes nothing. Otherwise it serves the first waiting requester in the cyclic order door 0, door 1,
station, retry, from the one after the one served last, passing over the retry requester while the hall is
held. An allocation begins with the search where the candidate has no pre-placed seat; a suspect candidate is
answered SUSPECT, in a retry passed over (a door's notice DOOR ANSWER carries both reason and label, the
model's choice, log entry 40). A pre-placed seat is tested: where it exists, is readable, FREE, in an OPEN
zone whose code for the class is not NONE and spacing holds, it is to be held; else PREPLACE MISSED gives the
first failing test as reason (NO SEAT, SUSPECT, NOT FREE, ZONE CLOSED, ZONE CODE, SPACING; the label of a seat
that does not exist 7 bytes of all ones, the model's choice, log entry 7), in a retry no notice, and the
search follows. A retry fixes its span as the wait list and tries its first candidate. PLACE waits at the
arbiter, keeping the taken place. Served, it is refused BAD VALUE for values out of range, NOT FOUND, SUSPECT,
BUSY while an admission is in progress and WRONG STATE once the candidate is past the hall; it writes an
EXPECTED candidate's pre-placed seat; a WAITING, ADMITTED or SEATED one needs a seat. A WAITING one gets the
seat as a hold gives it (SUSPECT, WRONG STATE unless FREE, CONFLICT for spacing unless overridden) and leaves
the wait list (a walk ending as log entry 42 has it, the model's choice); an ADMITTED or SEATED one moves, the
old seat judged first (SUSPECT, WRONG STATE) and counted as left, FREE from HELD (a retry trigger) or VACATED
from OCCUPIED, its call gone. Either becomes ADMITTED at the seat with the walk limit. Every answer frees the
taken place.
Spec: 3.1 Requests and the arbiter; 3.2 The course of one allocation; 3.5 PLACE. -/
def Obligations.ArbiterServesRoundRobin : Prop :=
  ((((∀ s : State, s.calm = true → s.clean = true →
            (s.sal.serving.isSome = true → exec .arbiterChoice s = .next s)
            ∧ (s.sal.serving = none → s.sal.reqDoor0 = none → s.sal.reqDoor1 = none → s.sal.reqStation = none →
              (s.sal.reqRetry = false ∨ s.ssu.held = true) → exec .arbiterChoice s = .next s)
            ∧ (∀ k x r, s.sal.serving = none → s.slot? k = some x → x.suspect = false → x.cand.preplaced = none →
              s.paper? x.cand.paper = some r →
              let fresh (q : Requester) : Allocation :=
                ⟨q, k, x.cand.paper, x.cand.cls, r.zoneOrder, .searching ⟨r.zoneOrder, false, false, 0, 0, false⟩⟩
              (s.sal.reqDoor0 = some k →
                s.sal.last = .retry
                  ∨ (s.sal.last = .station ∧ (s.sal.reqRetry = false ∨ s.ssu.held = true))
                  ∨ (s.sal.last = .door1 ∧ s.sal.reqStation = none ∧ (s.sal.reqRetry = false ∨ s.ssu.held = true))
                  ∨ (s.sal.last = .door0 ∧ s.sal.reqDoor1 = none ∧ s.sal.reqStation = none
                      ∧ (s.sal.reqRetry = false ∨ s.ssu.held = true)) →
                exec .arbiterChoice s = .next { s with sal := { s.sal with
                  reqDoor0 := none, last := .door0, serving := some (fresh .door0) } })
              ∧ (s.sal.reqDoor1 = some k →
                s.sal.last = .door0 ∨ (s.sal.last = .retry ∧ s.sal.reqDoor0 = none)
                    ∨ (s.sal.last = .station ∧ (s.sal.reqRetry = false ∨ s.ssu.held = true) ∧ s.sal.reqDoor0 = none)
                    ∨ (s.sal.last = .door1 ∧ s.sal.reqStation = none ∧ (s.sal.reqRetry = false ∨ s.ssu.held = true)
                        ∧ s.sal.reqDoor0 = none) →
                exec .arbiterChoice s = .next { s with sal := { s.sal with
                  reqDoor1 := none, last := .door1, serving := some (fresh .door1) } })
              ∧ (s.sal.reqStation = some (.allocation k) →
                  s.sal.last = .door1 ∨ (s.sal.last = .door0 ∧ s.sal.reqDoor1 = none)
                    ∨ (s.sal.last = .retry ∧ s.sal.reqDoor0 = none ∧ s.sal.reqDoor1 = none)
                    ∨ (s.sal.last = .station ∧ (s.sal.reqRetry = false ∨ s.ssu.held = true) ∧ s.sal.reqDoor0 = none
                        ∧ s.sal.reqDoor1 = none) →
                exec .arbiterChoice s = .next { s with sal := { s.sal with
                  reqStation := none, last := .station, serving := some (fresh .station) } })
              ∧ (∀ l, s.sal.reqRetry = true → s.ssu.held = false → s.sal.retry = .pending → s.sal.wait = k :: l →
                  s.sal.last = .station ∨ (s.sal.last = .door1 ∧ s.sal.reqStation = none)
                    ∨ (s.sal.last = .door0 ∧ s.sal.reqDoor1 = none ∧ s.sal.reqStation = none)
                    ∨ (s.sal.last = .retry ∧ s.sal.reqDoor0 = none ∧ s.sal.reqDoor1 = none ∧ s.sal.reqStation = none) →
                exec .arbiterChoice s = .next { s with sal := { s.sal with
                  reqRetry := false, retry := .walking, span := l.filter (· != k), last := .retry, serving := some (fresh .retry) } }))))
        ∧ (∀ (s : State) (k number : Nat) (x : Slot), s.calm = true → s.clean = true → s.sal.serving = none → s.sal.last = .retry →
        s.slot? k = some x →
        let sal0 : Sal := { s.sal with reqDoor0 := none, last := .door0 }
        (s.sal.reqDoor0 = some k → x.suspect = true → s.rsu.door0.card = some number → exec .arbiterChoice s =
          .next (notify .doorAnswer ([u8 0, u32 number, u8 2, u8 2] ++ labelFields none ++ [o16 (s.slotOf number)])
            { s with sal := sal0, rsu := { s.rsu with door0 := ⟨none, some (.refused .suspect)⟩ } }))
        ∧ (s.sal.reqDoor0 = none → s.sal.reqDoor1 = none → s.sal.reqStation = some (.allocation k) → x.suspect = true →
          s.sli.taken = some (.deferred 34 false) → exec .arbiterChoice s =
            .next ({ s with sal := { s.sal with reqStation := none, last := .station }
                            sli := { s.sli with taken := none } }.refused 34 .suspect))
        ∧ (∀ l, s.sal.reqDoor0 = none → s.sal.reqDoor1 = none → s.sal.reqStation = none → s.sal.reqRetry = true →
          s.ssu.held = false → s.sal.retry = .walking → s.sal.wait.filter s.sal.span.contains = k :: l →
          let walk : Sal := { s.sal with reqRetry := false, span := s.sal.span.filter (· != k) }
          (x.suspect = false → x.cand.preplaced = none → ∀ r, s.paper? x.cand.paper = some r → exec .arbiterChoice s =
            .next { s with sal := { walk with serving := some ⟨.retry, k, x.cand.paper, x.cand.cls, r.zoneOrder,
              .searching ⟨r.zoneOrder, false, false, 0, 0, false⟩⟩ } })
          ∧ (x.suspect = true → (∃ m ∈ s.sal.wait, m ≠ k ∧ m ∈ s.sal.span) →
            exec .arbiterChoice s = .next { s with sal := { walk with reqRetry := true } }))
        ∧ ∀ n p, s.sal.reqDoor0 = some k → x.suspect = false → x.cand.preplaced = some n → s.paper? x.cand.paper = some p →
          let begun (g : Stage) : State :=
            { s with sal := { sal0 with serving := some ⟨.door0, k, x.cand.paper, x.cand.cls, p.zoneOrder, g⟩ } }
          let missed (why : Nat) : Prop := exec .arbiterChoice s =
            .next (notify .preplaceMissed ([u16 k, u32 x.cand.number, u16 n] ++ s.labelFields (some n) ++ [u8 why])
              (begun (.searching ⟨p.zoneOrder, false, false, 0, 0, false⟩)))
          (s.seat? n = none → missed 0)
          ∧ ∀ r z, s.seat? n = some r → s.zone? r.zone = some z →
            (r.suspect = true → missed 1)
            ∧ (r.suspect = false → r.state ≠ .free → missed 2)
            ∧ (r.suspect = false → r.state = .free →
              (z.state = .closed → missed 3)
              ∧ (z.state = .opened → z.code x.cand.cls = .none → missed 4)
              ∧ (z.state = .opened → z.code x.cand.cls ≠ .none → s.spacingHolds x.cand.paper n = false → missed 5)
              ∧ (z.state = .opened → z.code x.cand.cls ≠ .none → s.spacingHolds x.cand.paper n = true →
                exec .arbiterChoice s = .next (begun (.preplaced n))))))
      ∧ ((∀ (s : State) (number f : Nat) (seat : Option Nat), s.ready = true →
        exec (.place number seat f) s = .next { s with
          sal := { s.sal with reqStation := some (.place number seat f) }
          sli := { s.sli with taken := some (.deferred 35 false) } })
      ∧ ∀ (s : State) (number f : Nat) (seat : Option Nat), s.calm = true → s.clean = true → s.sal.serving = none →
        s.sal.reqStation = some (.place number seat f) → s.sli.taken = some (.deferred 35 false) →
        s.sal.last = .door1 ∨ (s.sal.last = .door0 ∧ s.sal.reqDoor1 = none)
          ∨ (s.sal.last = .retry ∧ s.sal.reqDoor0 = none ∧ s.sal.reqDoor1 = none)
          ∨ (s.sal.last = .station ∧ (s.sal.reqRetry = false ∨ s.ssu.held = true) ∧ s.sal.reqDoor0 = none
              ∧ s.sal.reqDoor1 = none) →
        let sal1 : Sal := { s.sal with reqStation := none, last := .station }
        let served (u : State) : State := { u with sal := sal1, sli := { s.sli with taken := none } }
        let no (why : Reason) : Prop := exec .arbiterChoice s = .next ((served s).refused 35 why)
        (2 ≤ f ∨ 99999999 < number ∨ (∃ n, seat = some n ∧ 511 < n) → no .badValue)
        ∧ (f < 2 → number ≤ 99999999 → (∀ n, seat = some n → n ≤ 511) →
          (s.slotOf number = none → no .notFound)
          ∧ ∀ k x, s.slotOf number = some k → s.slot? k = some x →
            (x.suspect = true → no .suspect)
            ∧ (x.suspect = false → x.cand.source.isSome = true → no .busy)
            ∧ (x.suspect = false → x.cand.source = none →
              (x.cand.state = .expected → exec .arbiterChoice s =
                .next ((served (s.withSlot k { x.cand with preplaced := seat } x.clock)).replied 35 []))
              ∧ (x.cand.state = .finished ∨ x.cand.state = .collected ∨ x.cand.state = .absent ∨ x.cand.state = .withdrawn →
                no .wrongState)
              ∧ (x.cand.state = .waiting ∨ x.cand.state = .admitted ∨ x.cand.state = .seated → seat = none → no .badValue)
              ∧ ∀ n p, seat = some n → s.paper? x.cand.paper = some p →
                let paper := x.cand.paper
                let placed (t : State) (r : Seat) : Prop :=
                  exec .arbiterChoice s = .next (t.replied 35 (u16 n :: labelFields (some (labelOf r))))
                  ∧ t.seat? n = some { r with
                      state := .held, occupant := some k, lastPaper := some paper, override := (f == 1) }
                  ∧ t.slot? k = (s.withSlot k { x.cand with
                      state := .admitted, seat := some n, lastSeat := some n, walk := some p.walk } x.clock).slot? k
                  ∧ (∀ j, j ≠ k → t.slot? j = s.slot? j) ∧ t.sli = { s.sli with taken := none } ∧ t.ssu = s.ssu
                  ∧ t.htb = s.htb ∧ t.clu = s.clu ∧ t.mru = s.mru ∧ t.fcu = s.fcu ∧ t.hmu.zones = s.hmu.zones
                  ∧ t.hmu.rows = s.hmu.rows ∧ t.rsu.door0 = s.rsu.door0 ∧ t.rsu.door1 = s.rsu.door1
                (s.seat? n = none → x.cand.state = .waiting ∨ x.cand.state = .admitted ∨ x.cand.state = .seated → no .notFound)
                ∧ ∀ r, s.seat? n = some r →
                  (x.cand.state = .waiting →
                    (r.suspect = true → no .suspect)
                    ∧ (r.suspect = false → r.state ≠ .free → no .wrongState)
                    ∧ (r.suspect = false → r.state = .free → f = 0 → s.spacingHolds paper n = false → no .conflict)
                    ∧ (r.suspect = false → r.state = .free → f = 1 ∨ s.spacingHolds paper n = true →
                      ∃ t : State, placed t r ∧ (∀ m, m ≠ n → t.seat? m = s.seat? m) ∧ t.sal = sal1.left k
                        ∧ t.dbc.calls = s.dbc.calls))
                  ∧ ∀ o w, x.cand.state = .admitted ∨ x.cand.state = .seated → x.cand.seat = some o → s.seat? o = some w →
                    (w.suspect = true → no .suspect)
                    ∧ (w.suspect = false → w.occupant ≠ some k ∨ (w.state ≠ .held ∧ w.state ≠ .occupied) → no .wrongState)
                    ∧ (w.suspect = false → w.occupant = some k → w.state = .held ∨ w.state = .occupied →
                      let away : Seat := if w.state = .held then
                          { w with state := .free, occupant := none, lastPaper := none, override := false }
                        else { w with state := .vacated, occupant := none }
                      (o = n → no .wrongState)
                      ∧ (o ≠ n → r.suspect = true → no .suspect)
                      ∧ (o ≠ n → r.suspect = false → r.state ≠ .free → no .wrongState)
                      ∧ (o ≠ n → r.suspect = false → r.state = .free → f = 0 →
                        (s.withSeat o away).spacingHolds paper n = false → no .conflict)
                      ∧ (o ≠ n → r.suspect = false → r.state = .free → f = 1 ∨ (s.withSeat o away).spacingHolds paper n = true →
                        ∃ t : State, placed t r ∧ t.seat? o = some away ∧ (∀ m, m ≠ n → m ≠ o → t.seat? m = s.seat? m)
                          ∧ t.sal = (if w.state = .held then (retryTrigger { s with sal := sal1 }).sal else sal1)
                          ∧ t.dbc.calls = (if w.state = .occupied then s.dbc.calls.filter (fun c => c.seat != o)
                              else s.dbc.calls)))))))
    ∧ (∀ (s : State) (q : Requester) (k n : Nat) (l : List Nat) (x : Slot) (p : Paper), s.calm = true → s.clean = true →
    s.sal.serving = none → s.sal.last.after.find? s.requests = some q → s.slot? k = some x → x.suspect = false →
    x.cand.preplaced = some n → s.paper? x.cand.paper = some p →
    let span := if s.sal.retry = .pending then s.sal.wait else s.sal.span
    (match q with
      | .door0 => s.sal.reqDoor0 = some k
      | .door1 => s.sal.reqDoor1 = some k
      | .station => s.sal.reqStation = some (.allocation k)
      | .retry => s.sal.retry ≠ .idle ∧ s.sal.wait.filter span.contains = k :: l) →
    let taken : Sal := match q with
      | .door0 => { s.sal with last := q, reqDoor0 := none }
      | .door1 => { s.sal with last := q, reqDoor1 := none }
      | .station => { s.sal with last := q, reqStation := none }
      | .retry => { s.sal with last := q, reqRetry := false, retry := .walking, span := span.filter (· != k) }
    let begun (g : Stage) : State :=
      { s with sal := { taken with serving := some ⟨q, k, x.cand.paper, x.cand.cls, p.zoneOrder, g⟩ } }
    let searches := begun (.searching ⟨p.zoneOrder, false, false, 0, 0, false⟩)
    let missed (why : Nat) : Prop := exec .arbiterChoice s = .next (if q = .retry then searches else
      notify .preplaceMissed ([u16 k, u32 x.cand.number, u16 n] ++ s.labelFields (some n) ++ [u8 why]) searches)
    (s.seat? n = none → missed 0)
    ∧ ∀ r, s.seat? n = some r →
      (r.suspect = true → missed 1)
      ∧ (r.suspect = false → r.state ≠ .free → missed 2)
      ∧ (r.suspect = false → r.state = .free →
        (s.zone? r.zone = none → missed 3)
        ∧ ∀ z, s.zone? r.zone = some z →
          (z.state = .closed → missed 3)
          ∧ (z.state = .opened → z.code x.cand.cls = .none → missed 4)
          ∧ (z.state = .opened → z.code x.cand.cls ≠ .none → s.spacingHolds x.cand.paper n = false → missed 5)
          ∧ (z.state = .opened → z.code x.cand.cls ≠ .none → s.spacingHolds x.cand.paper n = true →
            exec .arbiterChoice s = .next (begun (.preplaced n)))))

/-- With nothing due, table memory clean and room in the notice queue, for an allocation of door 0, door 1, the
station or the retry: a seat found by the search or by pre-placement, if it is FREE, readable and keeps
spacing, is HELD for the candidate, ADMITTED there with the paper's walk limit; the cursor moves past the
place a search found, and only then. An admission also writes the time of day, is answered (the door SEAT with
notice DOOR ANSWER, which always carries both reason and label, the model's choice, log entry 40; the station
DONE with seat and label), and gets a clock by its paper's state (R83): none before reading, READING, or
RUNNING with the time left and its warning index, HELD with that state before hold while the hall is held;
with no time left it is EXPIRED and the candidate FINISHED, while the hall is held too (the model's choice,
log entry 54), and on a CLOSED paper STOPPED and FINISHED ENDED, the seat staying HELD. A retry sends PLACED,
leaves the wait list and its span, and the walk goes on with its next candidate or ends, PENDING again where
its again flag is set and someone waits. A refused hold lets the search go on, or pre-placement end with
PREPLACE MISSED. With no seat found an admission joins the wait list's tail while it holds fewer than 32,
answered WAIT (the station's reply with an absent seat and a label of 7 bytes of all ones, the model's choice,
log entry 7), with its clock; otherwise it is answered LIST FULL and stays EXPECTED, or becomes ABSENT with
notice ABSENT, after DOOR ANSWER (the model's choice, log entry 32), where admission to its paper has closed;
a retry ends its try. A candidate turned suspect is answered SUSPECT, no seat held (the candidate is judged
before the hold is asked, the model's choice, log entry 45). The slots, seats and blocks not named are
unchanged, but in the cases of EXPIRED and of a CLOSED paper, where only seats, candidate and clock are
stated.
Spec: 3.3 The search; 2.3 Door readers and admission; 3.4 The wait list and the retry walk; 5.3 Candidate
clocks; 2.6 Absence. -/
def Obligations.DoorAllocationOutcome : Prop :=
  ∀ (s : State) (k number paper : Nat) (cls : CandidateClass) (order : List Nat) (x : Slot) (p : Paper) (rq : Requester),
    s.calm = true → s.clean = true → s.slot? k = some x → x.cand.paper = paper → s.paper? paper = some p →
    let serves (g : Stage) : Prop := s.sal.serving = some ⟨rq, k, paper, cls, order, g⟩
    let asked : Prop := (rq = .door0 ∧ s.rsu.door0.card = some number ∧ s.sli.notices.length + 1 < 64)
      ∨ (rq = .door1 ∧ s.rsu.door1.card = some number ∧ s.sli.notices.length + 1 < 64)
      ∨ (rq = .station ∧ s.sli.taken = some (.deferred 34 false) ∧ s.sli.notices.length + 1 < 64)
    let answered (t : State) (a : DoorAnswer) (code : Nat) (l : Option (List Nat)) (r : Answer) (more : List Notice) : Prop :=
      let why : Nat := match a with
        | .refused r => r.ctorIdx
        | _ => 0
      let fields (d : Nat) : List Field :=
        [u8 d, u32 number, u8 code, u8 why] ++ labelFields l ++ [o16 (t.slotOf number)]
      let card (d : Nat) : Sli :=
        { s.sli with notices := s.sli.notices ++ ⟨.doorAnswer, s.htb.time, fields d⟩ :: more }
      (rq = .door0 → t.rsu.door0 = ⟨none, some a⟩ ∧ t.rsu.door1 = s.rsu.door1 ∧ t.sli = card 0)
      ∧ (rq = .door1 → t.rsu.door1 = ⟨none, some a⟩ ∧ t.rsu.door0 = s.rsu.door0 ∧ t.sli = card 1)
      ∧ (rq = .station → t.rsu.door0 = s.rsu.door0 ∧ t.rsu.door1 = s.rsu.door1 ∧ t.sli = { s.sli with
          taken := none, replies := s.sli.replies ++ [⟨34, r, false⟩], notices := s.sli.notices ++ more })
    let kept (t : State) : Prop := (∀ m, m ≠ k → t.slot? m = s.slot? m) ∧ t.ssu = s.ssu
      ∧ t.htb = s.htb ∧ t.clu = s.clu ∧ t.mru = s.mru ∧ t.fcu = s.fcu ∧ t.hmu.zones = s.hmu.zones
      ∧ t.hmu.rows = s.hmu.rows ∧ t.dbc.calls = s.dbc.calls
    let full := 60 * p.duration + (60 * p.duration * x.cand.allowance + 99) / 100
    let hold (c : Clock) : Clock := if s.ssu.held then { c with state := .held, before := some c.state } else c
    let given : Clock := match p.state with
      | .reading => hold ⟨.reading, 0, none, none, x.cand.breakBudget, 0⟩
      | .writing | .overtime => hold ⟨.running, full - p.elapsed, some full, none, x.cand.breakBudget,
          p.warnings.findIdx fun w => 60 * w < full - p.elapsed⟩
      | _ => x.clock
    let open_ : Prop := p.state ≠ .closed ∧ (p.state = .writing ∨ p.state = .overtime → p.elapsed < full)
    let there (n : Nat) : Candidate := { x.cand with
      state := .admitted, seat := some n, lastSeat := some n, walk := some p.walk, source := none }
    let heldFor (t : State) (n : Nat) (r : Seat) : Prop :=
      t.seat? n = some { r with state := .held, occupant := some k, lastPaper := some paper, override := false }
        ∧ ∀ m, m ≠ n → t.seat? m = s.seat? m
    let next (l : Sal) : Sal := if l.wait.any l.span.contains then { l with reqRetry := true }
      else { l with span := [], again := false, reqRetry := l.again && !l.wait.isEmpty
                    retry := if l.again && !l.wait.isEmpty then .pending else .idle }
    (∀ n g bySearch cur r, serves g → x.suspect = false → s.seat? n = some r →
      ((∃ z place q, g = .found n z place q ∧ bySearch = true ∧ cur =
          s.sal.cursors.put (paper * 8 + z) (if place + 1 < s.seatCount z then place + 1 else 0))
        ∨ (g = .preplaced n ∧ bySearch = false ∧ cur = s.sal.cursors)) →
      (r.suspect = false → r.state = .free → s.spacingHolds paper n = true →
        (x.cand.state = .expected → asked → open_ → ∃ t : State, exec .allocationOutcome s = .next t ∧ kept t
          ∧ heldFor t n r ∧ answered t (.seat (labelOf r)) 0 (some (labelOf r))
              ⟨.done, .none, u16 n :: labelFields (some (labelOf r))⟩ []
          ∧ t.slot? k = (s.withSlot k { there n with admTime := some s.htb.time } given).slot? k
          ∧ t.sal = { s.sal with serving := none, cursors := cur })
        ∧ (x.cand.state = .expected → asked → (p.state = .writing ∨ p.state = .overtime) → full ≤ p.elapsed →
          ∃ (t : State) (y : Slot), exec .allocationOutcome s = .next t ∧ heldFor t n r ∧ t.slot? k = some y
            ∧ y.clock = ⟨.expired, 0, some full, none, x.cand.breakBudget, p.warnings.findIdx fun w => 60 * w < 0⟩
            ∧ y.cand = { there n with
                admTime := some s.htb.time, state := .finished, reason := some .expired, walk := none })
        ∧ (x.cand.state = .expected → asked → p.state = .closed →
          ∃ (t : State) (y : Slot), exec .allocationOutcome s = .next t ∧ heldFor t n r ∧ t.slot? k = some y
            ∧ y.clock = ⟨.stopped, 0, none, none, x.cand.breakBudget, 0⟩
            ∧ y.cand = { there n with
                admTime := some s.htb.time, state := .finished, reason := some .ended, walk := none })
        ∧ (rq = .retry → x.cand.state = .waiting → k ∈ s.sal.wait → s.sli.notices.length < 64 →
          ∃ t : State, exec .allocationOutcome s = .next t ∧ kept t ∧ heldFor t n r
            ∧ t.slot? k = (s.withSlot k (there n) x.clock).slot? k
            ∧ t.rsu.door0 = s.rsu.door0 ∧ t.rsu.door1 = s.rsu.door1
            ∧ t.sli = { s.sli with notices := s.sli.notices ++ [⟨.placed, s.htb.time,
                [u16 k, u32 x.cand.number, u8 paper, u16 n] ++ labelFields (some (labelOf r)) ++ [u8 bySearch.toNat]⟩] }
            ∧ t.sal = next { s.sal with
                serving := none, cursors := cur
                wait := s.sal.wait.filter (· != k), span := s.sal.span.filter (· != k) }))
      ∧ (r.suspect = true ∨ r.state ≠ .free ∨ s.spacingHolds paper n = false →
        x.cand.state = (if rq = .retry then .waiting else .expected) →
        (∀ z place q, g = .found n z place q → exec .allocationOutcome s = .next { s with sal := { s.sal with
          serving := some ⟨rq, k, paper, cls, order, .searching q⟩ } })
        ∧ (g = .preplaced n → rq ≠ .retry → exec .allocationOutcome s =
          .next (notify .preplaceMissed ([u16 k, u32 x.cand.number, u16 n] ++ labelFields (some (labelOf r))
              ++ [u8 (if r.suspect then 1 else if r.state ≠ .free then 2 else 5)])
            { s with sal := { s.sal with
              serving := some ⟨rq, k, paper, cls, order, .searching ⟨order, false, false, 0, 0, false⟩⟩ } }))))
    ∧ (serves .noSeat → x.suspect = false → x.cand.state = .expected → asked →
      (s.sal.wait.length < 32 → open_ → ∃ t : State, exec .allocationOutcome s = .next t ∧ kept t ∧ t.hmu = s.hmu
        ∧ answered t .wait 1 none ⟨.done, .none, o16 none :: labelFields none⟩ []
        ∧ t.slot? k = (s.withSlot k { x.cand with
            state := .waiting, source := none, admTime := some s.htb.time } given).slot? k
        ∧ t.sal = { s.sal with serving := none, wait := s.sal.wait ++ [k] })
      ∧ (32 ≤ s.sal.wait.length → ∃ t : State, exec .allocationOutcome s = .next t ∧ kept t ∧ t.hmu = s.hmu
        ∧ answered t (.refused .listFull) 2 none ⟨.refused, .full, []⟩
            (if p.admClosed then [⟨.absent, s.htb.time, [u8 paper, u16 1]⟩] else [])
        ∧ t.slot? k = (s.withSlot k { x.cand with
            source := none, state := if p.admClosed then .absent else .expected } x.clock).slot? k
        ∧ t.sal = { s.sal with serving := none }))
    ∧ (serves .noSeat → rq = .retry → x.suspect = false → x.cand.state = .waiting →
      exec .allocationOutcome s = .next { s with sal := next { s.sal with serving := none } })
    ∧ ∀ g, serves g → (∀ q, g ≠ .searching q) → x.suspect = true → asked →
      ∃ t : State, exec .allocationOutcome s = .next t ∧ answered t (.refused .suspect) 2 none ⟨.refused, .suspect, []⟩ []
        ∧ t.rsu.slots = s.rsu.slots ∧ t.hmu = s.hmu ∧ t.sal = { s.sal with serving := none }

/-- A trigger on an IDLE retry with an empty wait list does nothing; with a wait list not empty the retry becomes
PENDING and its request is placed at the arbiter; a PENDING retry is unchanged; a WALKING one has its again
flag set; nothing else changes. After full reset and CLEAR SITTING the retry is IDLE with the again flag
clear, and a link reset changes neither. Seats becoming FREE, zones opening, code changes, zone order changes
and desks coming ONLINE make a trigger. A slot that leaves the wait list leaves the span of a walk with it; a
walk standing between two tries of which no candidate then remains ends, PENDING again where its again flag is
set and the wait list is not empty. Slots that leave in one step, as those that finish together do, leave
together, and the walk's end and the wait list are judged once, with all of them gone. That such a walk ends
in that very step, and not at the next service, is the model's choice (log entry 42).
Spec: 3.4 The wait list and the retry walk. -/
def Obligations.RetryTriggerActs : Prop :=
  (((∀ s : State,
          (s.sal.retry = .idle → s.sal.wait = [] → retryTrigger s = s)
          ∧ (s.sal.retry = .idle → s.sal.wait ≠ [] →
            retryTrigger s = { s with sal := { s.sal with retry := .pending, reqRetry := true } })
          ∧ (s.sal.retry = .pending → retryTrigger s = s)
          ∧ (s.sal.retry = .walking → retryTrigger s = { s with sal := { s.sal with again := true } }))
        ∧ (∀ (s : State) (a b : Bool), ∃ t : State, exec (.fullReset a b) s = .next t ∧ t.sal.retry = .idle ∧ t.sal.again = false)
        ∧ (∀ s : State, s.calm = true → ∃ t : State, exec .linkReset s = .next t ∧ t.sal = s.sal)
        ∧ (∀ s : State, s.ready = true → s.ssu.held = false →
          (∀ e ∈ s.ssu.papers, e.2.state = .defined ∨ e.2.state = .admitting ∨ e.2.state = .closed) →
          ∃ t : State, exec .clearSitting s = .next t ∧ t.sal.retry = .idle ∧ t.sal.again = false)
        ∧ (∀ (s : State) (n : Nat) (old new : Seat), s.seat? n = some old → old.state ≠ .free → new.state = .free →
          (putSeat n new s).sal = (retryTrigger s).sal)
        ∧ (∀ (s : State) (z : Nat) (r : Zone), s.ready = true → z < 8 → s.zone? z = some r → r.state = .closed →
          ∃ t : State, exec (.openZone z) s = .next t ∧ t.sal = (retryTrigger s).sal)
        ∧ (∀ (s : State) (z : Nat) (r : Zone), s.ready = true → z < 8 → s.zone? z = some r → r.standard ≠ .admits →
          ∃ t : State, exec (.setAdmission z 0 2) s = .next t ∧ t.sal = (retryTrigger s).sal)
        ∧ (∀ (s : State) (p : Nat) (r : Paper), s.ready = true → p < 16 → s.paper? p = some r → r.zoneOrder ≠ [0] →
          ∃ t : State, exec (.setZoneOrder p [0]) s = .next t ∧ t.sal = (retryTrigger s).sal)
        ∧ ∀ (s : State) (a : Nat) (d : Desk), (deskOnline a d s).sal = (retryTrigger s).sal)
      ∧ (∀ (l : Sal) (k : Nat),
      (k ∉ l.wait → l.left k = l)
      ∧ (k ∈ l.wait →
        (l.retry ≠ .walking ∨ (∃ a, l.serving = some a ∧ a.requester = .retry) ∨ (∃ m ∈ l.wait, m ≠ k ∧ m ∈ l.span) →
          l.left k = { l with wait := l.wait.filter (· != k), span := l.span.filter (· != k) })
        ∧ (l.retry = .walking → (∀ a, l.serving = some a → a.requester ≠ .retry) → (∀ m ∈ l.wait, m ≠ k → m ∉ l.span) →
          ((l.again = true ∧ ∃ m ∈ l.wait, m ≠ k) → l.left k = { l with
            wait := l.wait.filter (· != k), span := [], again := false, retry := .pending, reqRetry := true })
          ∧ ((l.again = false ∨ ∀ m ∈ l.wait, m = k) → l.left k = { l with
            wait := l.wait.filter (· != k), span := [], again := false, retry := .idle, reqRetry := false })))))
    ∧ ((∀ (l : Sal) (gone : List Nat),
    let rest := l.wait.filter fun m => !gone.contains m
    let t : Sal := { l with wait := rest, span := l.span.filter fun m => !gone.contains m }
    ((∀ m ∈ l.wait, m ∉ gone) → l.leave gone = l)
    ∧ ((∃ m ∈ l.wait, m ∈ gone) →
      (l.retry ≠ .walking ∨ (∃ a, l.serving = some a ∧ a.requester = .retry) ∨ (∃ m ∈ rest, m ∈ l.span) →
        l.leave gone = t)
      ∧ (l.retry = .walking → (∀ a, l.serving = some a → a.requester ≠ .retry) → (∀ m ∈ rest, m ∉ l.span) →
        (l.again = true → rest ≠ [] →
          l.leave gone = { t with span := [], again := false, retry := .pending, reqRetry := true })
        ∧ (l.again = false ∨ rest = [] →
          l.leave gone = { t with span := [], again := false, retry := .idle, reqRetry := false }))))
  ∧ ∀ (s : State) (ks : List Nat) (why : FinishReason) (g : Slot → Clock), (finishSlots ks why g s).sal = s.sal.leave ks)

/-- For every state whose trim and pending trim lie in 522,240 to 526,336, whose phase accumulator is below D + 16
and whose time of day is below 86,400, whatever command a step takes, the next state has them so too.
Spec: 4.1 Ticks, trim and the hall second; 4.2 Time of day. -/
def Obligations.TimeBaseLawsAreKept : Prop :=
  ∀ s t : State, s.htb.lawful = true → step s = .next t → t.htb.lawful = true

/-- For every state whose notice queue holds at most 64 notices and whose list of held fault notices at most 8,
whatever command a step takes, the next state has them so too; both are so after full reset. Every step
likewise keeps each of these: the wait list holds at most 32 slots; the call list holds at most 64 entries and
no seat has two; in states whose seats are lawful, each of its entries is of an OCCUPIED seat, and a desk
counts a long press only where the seat that names it is OCCUPIED; the exception list holds at most 32 entries
and no entry number stands twice.
Spec: 10.4 Replies and notices; 11.2 Fault reports and the reporting level; 3.4 The wait list and the retry
walk; 6.4 The call list; 8.2 Sheet buffers and the ready line; 8.4 The exception list; 6.3 Buttons and
presses. -/
def Obligations.NoticeQueueNeverExceeds64 : Prop :=
  (((State.reset.sli.notices.length ≤ 64 ∧ State.reset.fcu.held.length ≤ 8)
      ∧ ∀ s t : State, s.sli.notices.length ≤ 64 → s.fcu.held.length ≤ 8 → step s = .next t →
        t.sli.notices.length ≤ 64 ∧ t.fcu.held.length ≤ 8)
    ∧ (∀ s t : State, s.sal.wait.length ≤ 32 → step s = .next t → t.sal.wait.length ≤ 32)
    ∧ (∀ s t : State, s.dbc.callsLawful = true → step s = .next t → t.dbc.callsLawful = true)
    ∧ (∀ s t : State, s.mru.exceptionsLawful = true → step s = .next t → t.mru.exceptionsLawful = true))
    ∧ (∀ s t : State, s.seatsLawful = true → s.callsSeated = true → step s = .next t → t.callsSeated = true)

/-- With nothing due, each tick adds 16 to the phase accumulator, while ARMED 1 to the loss window, while COUNTING
1 to the window and the tick count; table memory takes the tick's upsets (its operand, the model's choice, log
entry 13). The hall second follows as a step of its own once D is reached (the model's choice, log entries 3
and 4); before that it has no effect. It subtracts D, the pending trim becomes D and absent, and the time of
day advances by 1, 86,399 to 0, set or not; geometry, paper settings, calibration, calls and replies are kept.
With table memory clean and the hall not held: each RUNNING clock's remaining, PAUSED clock's budget, ADMITTED
candidate's walk timer above 0, READING paper's reading remaining and round timer goes down by 1, and writing
elapsed up to at most 65,535 in WRITING and OVERTIME; held, none of these, and the hold length goes up to at
most 65,535. A suspect slot is never changed. Held or not, the HOLD signal alternates, a PULSE count goes
down, each desk's lamp pending as it stood before this counting (the model's choice, log entry 20) becomes its
lamp in effect, and its override, feedback, window and, not held, warning go down by 1. No clock, candidate or
paper changes state here; the steps made due join the list, by ascending index in this order (the model's
choice, log entry 3): NOT SEATED for a walk timer now 0; round timeouts; each desk's finish window, then lamp
items, at 0; the pulse's end; BREAK OVERRUN for a budget at 0; one clock expiry where a RUNNING clock is at 0;
each paper's reading end, admission closing, writing end; the warning of a RUNNING clock at 60 times the
threshold of its index; notice WARNING of a WRITING paper at a threshold; and, where the time has been set,
the scheduled start of an ADMITTING paper at its start instant. Suspect slots make none due; a hold leaves
only windows, overrides, feedback, pulses and starts.
Spec: 4.1 Ticks, trim and the hall second; 4.3 Calibration; 4.2 Time of day; 5.4 The hall second; 2.4 The walk
timer; 5.11 The hall signal; 7.5 Round time; 6.5 Lamps; 5.2 Paper states; 5.5 Warnings; 5.3 Candidate clocks. -/
def Obligations.TickAndHallSecond : Prop :=
  (∀ (s : State) (u : List Upset), s.calm = true →
      (s.htb.cal = .idle → exec (.crystalTick u) s =
        .next { s with htb := { s.htb with phase := s.htb.phase + 16 }, upsets := s.upsets ++ u })
      ∧ (s.htb.cal = .armed → exec (.crystalTick u) s =
        .next { s with htb := { s.htb with phase := s.htb.phase + 16, window := s.htb.window + 1 }, upsets := s.upsets ++ u })
      ∧ (s.htb.cal = .counting → exec (.crystalTick u) s =
        .next { s with htb := { s.htb with phase := s.htb.phase + 16, window := s.htb.window + 1, ticks := s.htb.ticks + 1 },
                       upsets := s.upsets ++ u })
      ∧ ∀ t, exec (.crystalTick u) s = .next t → (t.secondReached = true ↔ s.htb.trim ≤ s.htb.phase + 16))
    ∧ ((∀ s : State,
        (s.htb.phase < s.htb.trim → exec .hallSecond s = .next s)
        ∧ (s.htb.trim ≤ s.htb.phase → s.htb.time < 86400 →
          ∃ t : State, exec .hallSecond s = .next t
            ∧ t.htb = { s.htb with phase := s.htb.phase - s.htb.trim, trim := s.htb.pendingTrim.getD s.htb.trim,
                                   pendingTrim := none, time := (s.htb.time + 1) % 86400 }
            ∧ t.hmu.zones = s.hmu.zones ∧ t.hmu.rows = s.hmu.rows ∧ t.sli.replies = s.sli.replies
            ∧ t.dbc.calls = s.dbc.calls ∧ t.sal = s.sal ∧ t.pending = s.pending ∧ t.ssu.held = s.ssu.held
            ∧ ∀ p, (t.paper? p).map (fun r => (r.code, r.form, r.duration, r.warnings, r.state))
                = (s.paper? p).map (fun r => (r.code, r.form, r.duration, r.warnings, r.state))))
      ∧ (∀ s t : State, s.clean = true → s.htb.trim ≤ s.htb.phase → exec .hallSecond s = .next t →
        let held := s.ssu.held
        let counted (r : Paper) : Paper := if held then r else { r with
            readingLeft := if r.state = .reading then r.readingLeft - 1 else r.readingLeft
            elapsed := if r.state = .writing ∨ r.state = .overtime then min (r.elapsed + 1) 65535 else r.elapsed }
        let papers := s.ssu.papers.map fun e => (e.1, counted e.2)
        let out (o : Option Nat) : Bool := o == some 0 || o == some 1
        let slots (f : Slot → Bool) : List Nat :=
          (s.rsu.slots.filter fun e => !held && !e.2.suspect && f e.2).map Prod.fst
        let only (c : Bool) (d : Due) : List Due := if c then [d] else []
        t.due = s.due
          ++ (slots fun x => x.cand.state == .admitted && x.cand.walk == some 1).map .notSeated
          ++ (s.clu.collectors.filter fun e => !held && e.2.state == .round && out e.2.timer).map (fun e => .roundTimeout e.1)
          ++ s.dbc.desks.flatMap (fun e => only (out e.2.window) (.finishWindowExpiry e.1)
              ++ only (out (e.2.override.map (·.seconds)) || out (e.2.feedback.map (·.seconds)) || !held && out e.2.warning)
                (.lampItemExpiry e.1))
          ++ only (s.ssu.signal == .pulse 0 || s.ssu.signal == .pulse 1) .pulseEnd
          ++ (slots fun x => x.clock.state == .paused && x.clock.budget ≤ 1).map .breakOverrun
          ++ only (!(slots fun x => x.clock.state == .running && x.clock.remaining ≤ 1).isEmpty) .clockExpiry
          ++ papers.flatMap (fun e => if held then [] else
              only (e.2.state == .reading && e.2.readingLeft == 0) (.readingEnd e.1)
              ++ only (e.2.state == .writing && 0 < e.2.late && e.2.elapsed == 60 * e.2.late && !e.2.admClosed)
                (.admissionCloses e.1)
              ++ only (e.2.state == .writing && e.2.elapsed == 60 * e.2.duration) (.writingEnd e.1))
          ++ (slots fun x => x.clock.state == .running &&
              (((s.paper? x.cand.paper).bind fun r => r.warnings[x.clock.warnIndex]?).map fun m =>
                x.clock.remaining - 1 == 60 * m) == some true).map .clockWarning
          ++ (papers.filter fun e => !held && e.2.state == .writing &&
              e.2.warnings.any fun m => e.2.elapsed + 60 * m == 60 * e.2.duration).map (fun e => .warning e.1)
          ++ (papers.filter fun e => s.htb.timeSet && e.2.state == .admitting &&
              (e.2.scheduled.map fun i => (i + 86400 - 60 * e.2.reading) % 86400) == some t.htb.time).map
                (fun e => .scheduledStart e.1)
        ∧ (∀ k x, s.slot? k = some x → ∃ y, t.slot? k = some y ∧ y.suspect = x.suspect
          ∧ y.clock.state = x.clock.state ∧ y.cand.state = x.cand.state ∧ y.cand.seat = x.cand.seat
          ∧ (x.suspect = true ∨ s.ssu.held = true → y.clock = x.clock ∧ y.cand = x.cand)
          ∧ (x.suspect = false → s.ssu.held = false →
            y.clock = { x.clock with
                remaining := if x.clock.state = .running then x.clock.remaining - 1 else x.clock.remaining
                budget := if x.clock.state = .paused then x.clock.budget - 1 else x.clock.budget }
            ∧ y.cand = { x.cand with walk := if x.cand.state = .admitted then x.cand.walk.map (· - 1) else x.cand.walk }))
        ∧ (∀ p r, s.paper? p = some r →
          t.paper? p = some (counted r))
        ∧ (∀ c, (t.collectorOf c).timer =
            if s.ssu.held = false ∧ (s.collectorOf c).state = .round then (s.collectorOf c).timer.map (· - 1)
            else (s.collectorOf c).timer)
        ∧ t.ssu.signal = (match s.ssu.signal with
            | .off => .off
            | .hold on => .hold !on
            | .pulse n => .pulse (n - 1))
        ∧ (∀ a, t.desk? a = (s.desk? a).map fun d => { d with
            lamp := s.lampPending a
            override := d.override.map fun i => { i with seconds := i.seconds - 1 }
            feedback := d.feedback.map fun i => { i with seconds := i.seconds - 1 }
            window := d.window.map (· - 1)
            warning := if s.ssu.held then d.warning else d.warning.map (· - 1) })
        ∧ t.ssu.holdLength = (if s.ssu.held then min (s.ssu.holdLength + 1) 65535 else s.ssu.holdLength)
        ∧ t.hmu = s.hmu ∧ t.sal = s.sal ∧ t.mru = s.mru ∧ t.sli = s.sli ∧ t.dbc.calls = s.dbc.calls))

/-- On a link ready for a request: a value outside 0 to 86,399 is refused BAD VALUE and nothing changes; otherwise
the time of day is written, the flag set, the phase accumulator unchanged, and the reply carries the time
before and after and the flag before. The only other change is the Session Unit's: of the report's classes
FORWARD alone, with its old and new times, makes scheduled starts fall due, and FIRST, BACKWARD and SAME make
none.
Spec: 4.2 Time of day; 5.2 Paper states. -/
def Obligations.SetTimeRequest : Prop :=
  ∀ (s : State) (v : Nat), s.ready = true →
    (86400 ≤ v → exec (.setTime v) s = .next (s.refused 60 .badValue))
    ∧ (v < 86400 →
      let reply (d : List Due) : Host.Outcome State Fault Refusal :=
        .next ({ s with htb := { s.htb with time := v, timeSet := true }, due := d }.replied 60
          [u24 s.htb.time, u24 v, flag s.htb.timeSet])
      (s.htb.timeSet = false → exec (.setTime v) s = reply s.due)
      ∧ (s.htb.timeSet = true → v ≤ s.htb.time → exec (.setTime v) s = reply s.due)
      ∧ (s.htb.timeSet = true → s.htb.time < v → exec (.setTime v) s = reply (s.due ++
          ((s.ssu.papers.filter fun e => e.2.state == .admitting &&
            (e.2.scheduled.map fun c => decide (s.htb.time < (c + 86400 - 60 * e.2.reading) % 86400
              ∧ (c + 86400 - 60 * e.2.reading) % 86400 ≤ v)).getD false).map
            fun e => .scheduledStart e.1))))

/-- On a link ready for a request: SET TRIM clamps the value to 522,240 to 526,336 and writes it as pending trim,
replies DONE or CLAMPED with the trim written and the D in effect, and abandons a running calibration with
notice CALIBRATION LOST of cause TRIM SET; CALIBRATE is refused BAD VALUE for another length, and BUSY for a
right one while a calibration runs (the order is the model's choice, log entry 52), and otherwise arms it with
its counts and window 0. Nothing else changes. With nothing due, and room in the notice queue where a notice
is due: a pulse while IDLE changes nothing, the first while ARMED starts the measurement, one while COUNTING
is counted, and the one that makes the count N ends it with D_new = floor((16 T + N / 2) / N), clamped, as
pending trim, the calibration IDLE and notice CALIBRATED with the marker where it was clamped. When the loss
window of a running calibration has reached 49,152 it becomes IDLE, D and the pending trim staying, with
notice CALIBRATION LOST of cause REFERENCE LOST, its state coded by the chapter's table of states (the model's
choice, log entry 26); else that command has no effect (the model's choice, log entry 3).
Spec: 4.3 Calibration. -/
def Obligations.CalibrationAndTrim : Prop :=
  (∀ (s : State) (v : Nat), s.ready = true →
      let d := if v < 522240 then 522240 else if 526336 < v then 526336 else v
      (s.htb.cal = .idle → exec (.setTrim v) s =
        .next ({ s with htb := { s.htb with pendingTrim := some d } }.repliedClamped 62 (d != v) [u24 d, u24 s.htb.trim]))
      ∧ (s.htb.cal ≠ .idle → s.sli.notices.length < 64 → exec (.setTrim v) s =
        .next ({ s with
          htb := { s.htb with pendingTrim := some d, cal := .idle, calLength := 0, pulses := 0, ticks := 0, window := 0 }
          sli := { s.sli with notices := s.sli.notices ++ [Notice.mk .calibrationLost s.htb.time
            [u8 1, u8 s.htb.cal.ctorIdx, u16 s.htb.calLength, u16 s.htb.pulses]] } }.repliedClamped 62 (d != v)
              [u24 d, u24 s.htb.trim]))
      ∧ (v ≠ 16 → v ≠ 64 → v ≠ 256 → exec (.calibrate v) s = .next (s.refused 61 .badValue))
      ∧ (v = 16 ∨ v = 64 ∨ v = 256 →
        (s.htb.cal ≠ .idle → exec (.calibrate v) s = .next (s.refused 61 .busy))
        ∧ (s.htb.cal = .idle → exec (.calibrate v) s =
          .next ({ s with htb := { s.htb with cal := .armed, calLength := v, pulses := 0, ticks := 0, window := 0 } }.replied 61
            [u16 v, u24 s.htb.trim]))))
    ∧ ((∀ s : State, s.calm = true →
        (s.htb.cal = .idle → exec .referencePulse s = .next s)
        ∧ (s.htb.cal = .armed → exec .referencePulse s =
          .next { s with htb := { s.htb with cal := .counting, pulses := 0, ticks := 0, window := 0 } })
        ∧ (s.htb.cal = .counting → s.htb.pulses + 1 ≠ s.htb.calLength → exec .referencePulse s =
          .next { s with htb := { s.htb with pulses := s.htb.pulses + 1, window := 0 } })
        ∧ (s.htb.cal = .counting → s.htb.pulses + 1 = s.htb.calLength → s.sli.notices.length < 64 →
          let new := (16 * s.htb.ticks + s.htb.calLength / 2) / s.htb.calLength
          let d := if new < 522240 then 522240 else if 526336 < new then 526336 else new
          exec .referencePulse s = .next { s with
            htb := { s.htb with pendingTrim := some d, cal := .idle, calLength := 0, pulses := 0, ticks := 0, window := 0 }
            sli := { s.sli with notices := s.sli.notices ++ [⟨.calibrated, s.htb.time,
              [u16 s.htb.calLength, u24 s.htb.ticks, u24 s.htb.trim, u24 d, flag (d != new)]⟩] } }))
      ∧ ∀ s : State,
        (s.htb.cal = .idle ∨ s.htb.window < 49152 → exec .calibrationLost s = .next s)
        ∧ (s.htb.cal ≠ .idle → 49152 ≤ s.htb.window → s.sli.notices.length < 64 → exec .calibrationLost s =
          .next { s with
            htb := { s.htb with cal := .idle, calLength := 0, pulses := 0, ticks := 0, window := 0 }
            sli := { s.sli with notices := s.sli.notices ++ [⟨.calibrationLost, s.htb.time,
              [u8 0, u8 s.htb.cal.ctorIdx, u16 s.htb.calLength, u16 s.htb.pulses]⟩] } }))

/-- On a link ready for a request: DEFINE PAPER is refused BAD VALUE, NOT FOUND, BAD VALUE and WRONG STATE by the
checks in their order; on an undefined paper it writes the DEFINED record with the late-entry limit, default
break budget, default booklets and walk limit clamped (240 for an absent walk limit), an empty warning list
and counters 0, and replies CLAMPED exactly where one of those was clamped. Nothing else changes: the first
zone order of a paper is no retry trigger (the model's choice, log entry 32). On a DEFINED paper whose form
stays and whose version count does not fall, it writes the same record with the old warning thresholds below
M, CLAMPED also where one was dropped, and triggers a retry exactly where the zone order changed. Where the
form changes, the keys of all its versions are removed too, and where the version count falls those of the
versions beyond it, their generations kept and no other key touched; a staging key for such a version is
cleared, whether or not a key stood there (the model's choice, log entry 53).
Spec: 5.1 Papers; 9.4 Answer keys and generations. -/
def Obligations.DefinePaperRequest : Prop :=
  ∀ (s : State) (p : Nat) (f : PaperFields), s.ready = true →
    (paperFieldsOk f = true ↔ f.code.length = 6
      ∧ (∀ c ∈ f.code, (65 ≤ c ∧ c ≤ 90) ∨ (48 ≤ c ∧ c ≤ 57) ∨ c = 32) ∧ f.form < 4 ∧ 1 ≤ f.versions ∧ f.versions ≤ 4
      ∧ f.reading ≤ 30 ∧ 10 ≤ f.duration ∧ f.duration ≤ 360 ∧ f.blackFirst ≤ 60 ∧ f.blackLast ≤ 30 ∧ f.penalty ≤ 32
      ∧ (∀ t, f.scheduled = some t → t < 86400)
      ∧ f.zoneOrder ≠ [] ∧ f.zoneOrder.length ≤ 8 ∧ (∀ z ∈ f.zoneOrder, z < 8) ∧ f.zoneOrder.Nodup
      ∧ f.sections.head? = some 1 ∧ f.sections.length ≤ 4 ∧ f.sections.Pairwise (· < ·))
    ∧ (16 ≤ p ∨ paperFieldsOk f = false → exec (.definePaper p f) s = .next (s.refused 48 .badValue))
    ∧ (p < 16 → paperFieldsOk f = true →
      (s.mru.forms.find f.form = none → exec (.definePaper p f) s = .next (s.refused 48 .notFound))
      ∧ ∀ questions, s.mru.forms.find f.form = some questions →
        (questions < f.sections.getLast?.getD 1 → exec (.definePaper p f) s = .next (s.refused 48 .badValue))
        ∧ (f.sections.getLast?.getD 1 ≤ questions →
          let most := min 60 (f.duration / 2)
          let asked := f.walk.getD 240
          let walk := if asked < 30 then 30 else if 900 < asked then 900 else asked
          let record (warnings : List Nat) : Paper :=
            { code := f.code, form := f.form, versions := f.versions, reading := f.reading, duration := f.duration,
              late := min f.late most, blackFirst := f.blackFirst, blackLast := f.blackLast,
              breakDefault := min f.breakDefault 60, bookletDefault := min f.bookletDefault 8, walk := walk,
              zoneOrder := f.zoneOrder, warnings := warnings, scheduled := f.scheduled, penalty := f.penalty,
              multipleWrong := f.multipleWrong, sections := f.sections, state := .defined, startPending := false,
              readingLeft := 0, elapsed := 0, admClosed := false }
          let clamps := most < f.late || 60 < f.breakDefault || 8 < f.bookletDefault || walk != asked
          (s.paper? p = none → exec (.definePaper p f) s =
            .next ((s.withPaperRecord p (record [])).repliedClamped 48 clamps []))
          ∧ ∀ old, s.paper? p = some old →
            (old.state ≠ .defined → exec (.definePaper p f) s = .next (s.refused 48 .wrongState))
            ∧ (old.state = .defined → old.form ≠ f.form ∨ f.versions < old.versions →
              let gone (v : Nat) : Bool := old.form != f.form || decide (f.versions ≤ v)
              let kept : List Nat := old.warnings.filter (· < f.duration)
              ∃ keys : Table KeySlot, exec (.definePaper p f) s =
                  .next (((({ s with mru := { s.mru with
                      keys := keys, staging := s.mru.staging.filter fun g => !(g.paper == p && gone g.version) } }
                    ).withPaperRecord p (record kept)).triggerIf (old.zoneOrder != f.zoneOrder)).repliedClamped 48
                      (clamps || kept != old.warnings) [])
                ∧ ∀ q v, v < 4 → (keys.find (q * 4 + v)).getD ⟨none, 0⟩ =
                    if q = p ∧ gone v = true then ⟨none, (s.keyOf q v).generation⟩ else s.keyOf q v)
            ∧ (old.state = .defined → old.form = f.form → old.versions ≤ f.versions →
              exec (.definePaper p f) s =
                .next (((s.withPaperRecord p (record (old.warnings.filter (· < f.duration)))).triggerIf
                  (old.zoneOrder != f.zoneOrder)).repliedClamped 48
                    (clamps || old.warnings.filter (· < f.duration) != old.warnings) []))))

/-- On a link ready for a request: SET ZONE ORDER is refused BAD VALUE and NOT FOUND, and otherwise replaces the
order in every state of the paper, replies DONE and is a retry trigger exactly when the order differs. SET
WARNINGS of more than 4 thresholds is a BAD RECORD (R168, R183); with a threshold outside 1 to 60 or given
twice it is refused BAD VALUE (and so with a paper index outside 0 to 15, the model's choice, log entry 47),
for an undefined paper NOT FOUND, for one WRITING, OVERTIME or CLOSED WRONG STATE; otherwise it drops each
threshold at or above M, writes the rest in descending order, and replies DONE, or CLAMPED exactly when one
was dropped. Nothing else changes.
Spec: 5.1 Papers; 10.2 Taking requests; 12.1 Station link records. -/
def Obligations.ZoneOrderAndWarningRequests : Prop :=
  ∀ (s : State) (p : Nat) (l : List Nat), s.ready = true →
    let orderOk := l ≠ [] ∧ l.length ≤ 8 ∧ (∀ z ∈ l, z < 8) ∧ l.Nodup
    let warnOk := (∀ t ∈ l, 1 ≤ t ∧ t ≤ 60) ∧ l.Nodup
    (16 ≤ p ∨ ¬ orderOk → exec (.setZoneOrder p l) s = .next (s.refused 49 .badValue))
    ∧ (p < 16 → orderOk → s.paper? p = none → exec (.setZoneOrder p l) s = .next (s.refused 49 .notFound))
    ∧ (∀ r, p < 16 → orderOk → s.paper? p = some r → exec (.setZoneOrder p l) s =
      .next (((s.withPaperRecord p { r with zoneOrder := l }).triggerIf (r.zoneOrder != l)).replied 49 []))
    ∧ (4 < l.length → exec (.setWarnings p l) s = .next (s.refused 50 .badRecord))
    ∧ (l.length ≤ 4 → 16 ≤ p ∨ ¬ warnOk → exec (.setWarnings p l) s = .next (s.refused 50 .badValue))
    ∧ (p < 16 → l.length ≤ 4 → warnOk → s.paper? p = none → exec (.setWarnings p l) s = .next (s.refused 50 .notFound))
    ∧ ∀ r, p < 16 → l.length ≤ 4 → warnOk → s.paper? p = some r →
      (r.state = .writing ∨ r.state = .overtime ∨ r.state = .closed →
        exec (.setWarnings p l) s = .next (s.refused 50 .wrongState))
      ∧ (r.state = .defined ∨ r.state = .admitting ∨ r.state = .reading →
        ∃ kept, kept.Perm (l.filter (· < r.duration)) ∧ kept.Pairwise (· > ·)
          ∧ exec (.setWarnings p l) s = .next ((s.withPaperRecord p { r with warnings := kept }).repliedClamped 50
              (kept.length < l.length) []))

/-- On a link ready for a request, with table memory clean and the tables in their form: the refusals of both;
OPEN PAPER makes a DEFINED paper ADMITTING with notice PAPER STATE; START PAPER of an ADMITTING paper with
reading time makes it READING with reading remaining 60 times the reading time, gives each WAITING, ADMITTED
or SEATED candidate of the paper with clock NONE a READING clock with the candidate's break budget, leaves
every other slot as it was, and replies the new state. With a reading time of 0, and room in the notice queue,
it makes the writing start: the paper is WRITING with writing elapsed 0, with notice PAPER STATE and the pulse
of 3; each READING clock, and each NONE clock of a WAITING, ADMITTED or SEATED candidate, becomes RUNNING with
extended and remaining time 60 M plus the allowance's share rounded up, its break budget, and the warning
index of the first threshold below that; every other clock stays; with a late-entry limit of 0 admission
closes, the EXPECTED candidates not being admitted become ABSENT and notice ABSENT carries their count, behind
PAPER STATE (the order is the model's choice, log entry 32). Nothing else changes.
Spec: 5.2 Paper states; 5.3 Candidate clocks; 5.5 Warnings; 5.11 The hall signal; 2.6 Absence. -/
def Obligations.OpenAndStartPaper : Prop :=
  (∀ (s : State) (p : Nat), s.ready = true → s.clean = true → s.tablesSorted = true →
      (16 ≤ p → exec (.openPaper p) s = .next (s.refused 51 .badValue)
        ∧ exec (.startPaper p) s = .next (s.refused 52 .badValue))
      ∧ (p < 16 → s.paper? p = none → exec (.openPaper p) s = .next (s.refused 51 .notFound)
        ∧ exec (.startPaper p) s = .next (s.refused 52 .notFound))
      ∧ ∀ r, p < 16 → s.paper? p = some r →
        (r.state ≠ .defined → exec (.openPaper p) s = .next (s.refused 51 .wrongState))
        ∧ (r.state = .defined → exec (.openPaper p) s =
          .next ((notify .paperState [u8 p, u8 1, u24 s.htb.time]
            (s.withPaperRecord p { r with state := .admitting })).replied 51 []))
        ∧ (r.state ≠ .admitting → exec (.startPaper p) s = .next (s.refused 52 .wrongState))
        ∧ (r.state = .admitting → s.ssu.held = true → exec (.startPaper p) s = .next (s.refused 52 .hallHeld))
        ∧ (r.state = .admitting → s.ssu.held = false → 0 < r.reading → s.sli.notices.length < 64 →
          ∃ t : State, exec (.startPaper p) s = .next (t.replied 52 [o8 (some 2)]) ∧ ReadingStarted s t p r ∧ t.due = s.due))
    ∧ (∀ (s : State) (p : Nat) (r : Paper), s.ready = true → s.clean = true → s.tablesSorted = true → p < 16 →
    s.paper? p = some r → r.state = .admitting → s.ssu.held = false → r.reading = 0 → s.sli.notices.length + 1 < 64 →
    (∀ k x, s.slot? k = some x → x.suspect = false → x.shadow.paper = some p → x.cand.paper = p) →
    ∃ t : State, exec (.startPaper p) s = .next (t.replied 52 [o8 (some 3)]) ∧ WritingStarted s t p r ∧ t.due = s.due)

/-- On a link ready for a request, with table memory clean and the tables in their form: BAD VALUE, NOT FOUND,
WRONG STATE for a CLOSED paper, SUSPECT while a candidate of it is suspect; otherwise the paper is CLOSED with
start pending clear and admission closed, every open clock of its candidates is STOPPED with its remaining
time kept, those candidates and the WAITING, ADMITTED or SEATED ones with clock NONE are FINISHED with reason
ENDED, its EXPECTED candidates with no admission in progress become ABSENT where admission had not closed, the
finished ones leave the wait list together (a walk ending as RetryTriggerActs states it, log entry 42), and
candidates of other papers are unchanged; the reply carries the count finished. The hall not held, the signal
takes the pulse of 3. The notices join in this order: UNSEATED FINISH in slot order, the ROUND OFFERED notices
of the hand-off, PAPER STATE, ABSENT where admission had not closed, ENDED, and PAPER COLLECTED with the
returned total (a COLLECTED candidate with none recorded counted as 0, the model's choice, log entry 70) and
the discrepancy count where then no candidate of the paper is FINISHED. Where no collector waits, the
candidates with a seat join the main rings of their zones in ascending seat number.
Spec: 5.6 Closing a paper; 2.6 Absence; 5.11 The hall signal; 7.1 Rings and entries; 7.10 Reconciliation. -/
def Obligations.EndPaperFinishesItsCandidates : Prop :=
  (∀ (s : State) (p : Nat), s.ready = true → s.clean = true → s.tablesSorted = true →
      (16 ≤ p → exec (.endPaper p) s = .next (s.refused 53 .badValue))
      ∧ (p < 16 → s.paper? p = none → exec (.endPaper p) s = .next (s.refused 53 .notFound))
      ∧ ∀ r, p < 16 → s.paper? p = some r →
        (r.state = .closed → exec (.endPaper p) s = .next (s.refused 53 .wrongState))
        ∧ (r.state ≠ .closed → (∃ e ∈ s.rsu.slots, e.2.suspect = true ∧ e.2.shadow.paper = some p) →
          exec (.endPaper p) s = .next (s.refused 53 .suspect))
        ∧ (r.state ≠ .closed → (∀ e ∈ s.rsu.slots, e.2.suspect = true → e.2.shadow.paper ≠ some p) →
          ∃ t : State, exec (.endPaper p) s = .next (t.replied 53 [u16 (s.rsu.slots.filter fun e =>
                !e.2.suspect && e.2.shadow.paper == some p && e.2.endsNow).length])
            ∧ t.paper? p = some { r with state := .closed, startPending := false, admClosed := true }
            ∧ (∀ k x, s.slot? k = some x → x.suspect = false → x.shadow.paper = some p →
              (x.clock.state = .reading ∨ x.clock.state = .running ∨ x.clock.state = .paused ∨ x.clock.state = .held →
                ∃ y, t.slot? k = some y ∧ y.clock = { x.clock with state := .stopped, before := none }
                  ∧ y.cand = { x.cand with state := .finished, reason := some .ended, walk := none, source := none })
              ∧ (x.clock.state = .none → x.cand.state = .waiting ∨ x.cand.state = .admitted ∨ x.cand.state = .seated →
                ∃ y, t.slot? k = some y ∧ y.clock.state = .stopped ∧ y.clock.remaining = 0
                  ∧ y.cand = { x.cand with state := .finished, reason := some .ended, walk := none, source := none })
              ∧ (x.clock.state = .none → x.cand.state = .expected → x.cand.source = none →
                ∃ y, t.slot? k = some y ∧ y.clock = x.clock
                  ∧ y.cand = { x.cand with state := if r.admClosed then .expected else .absent }))
            ∧ (∀ k x, s.slot? k = some x → x.shadow.paper ≠ some p → t.slot? k = some x)
            ∧ t.hmu = s.hmu ∧ t.htb = s.htb ∧ t.ssu.held = s.ssu.held
            ∧ t.sal = s.sal.leave ((s.rsu.slots.filter fun e =>
                !e.2.suspect && e.2.shadow.paper == some p && e.2.endsNow).map Prod.fst)))
    ∧ (∀ (s : State) (p : Nat) (r : Paper), s.ready = true → s.clean = true → s.tablesSorted = true → p < 16 →
    s.paper? p = some r → r.state ≠ .closed → (∀ e ∈ s.rsu.slots, e.2.suspect = true → e.2.shadow.paper ≠ some p) →
    (∀ e ∈ s.rsu.slots, e.2.suspect = true ∨ e.2.shadow.paper = some e.2.cand.paper) →
    let here := s.rsu.slots.filter fun e => !e.2.suspect && e.2.shadow.paper == some p
    let out := here.filter fun e => e.2.endsNow
    let seated := out.filterMap fun e => e.2.cand.seat.map fun n => (⟨n, e.1, .ended, e.2.cand.issued⟩ : Entry)
    let collected := here.filter fun e => e.2.cand.state == .collected
    let unseated : List Notice := out.filterMap fun e => if e.2.cand.seat.isSome then none else
      some ⟨.unseatedFinish, s.htb.time, [u16 e.1, u32 e.2.cand.number, o8 (some 2)]⟩
    let after : List Notice := [⟨.paperState, s.htb.time, [u8 p, u8 5, u24 s.htb.time]⟩]
      ++ (if r.admClosed then [] else [⟨.absent, s.htb.time, [u8 p, u16 (here.filter fun e =>
        !e.2.endsNow && e.2.cand.state == .expected && e.2.cand.source.isNone).length]⟩])
      ++ [⟨.ended, s.htb.time, [u8 p, u16 out.length]⟩]
      ++ (if here.any (fun e => e.2.endsNow || e.2.cand.state == .finished) then [] else
        [⟨.paperCollected, s.htb.time, [u8 p, u16 (collected.map fun e => e.2.cand.returned.getD 0).sum,
          u16 (collected.filter (·.2.cand.discrepancy)).length]⟩])
    ∃ t : State, exec (.endPaper p) s = .next (t.replied 53 [u16 out.length])
      ∧ t.ssu.signal = (if s.ssu.held then s.ssu.signal else .pulse 3)
      ∧ (s.sli.lost = false → t.sli.lost = false → ∃ offers : List Notice, (∀ n ∈ offers, n.kind = .roundOffered)
        ∧ t.sli = { s.sli with notices := s.sli.notices ++ unseated ++ offers ++ after })
      ∧ ((∀ z, (s.ringsOf z).waiters = []) →
        (s.sli.notices.length + unseated.length + after.length ≤ 64 →
          t.sli = { s.sli with notices := s.sli.notices ++ unseated ++ after })
        ∧ t.clu.collectors = s.clu.collectors
        ∧ ∀ z, (t.ringsOf z).urgent = (s.ringsOf z).urgent ∧ (t.ringsOf z).waiters = []
          ∧ ∃ l, (t.ringsOf z).main = (s.ringsOf z).main ++ l ∧ l.Pairwise (fun a b => a.seat ≤ b.seat)
            ∧ l.Perm (seated.filter fun e => ((s.seat? e.seat).map (·.zone)).getD 0 == z)))

/-- On a link ready for a request, with table memory clean and room in the notice queue: with the hall not held,
the held flag is set with source STATION alone and hold length 0, every READING, RUNNING or PAUSED clock that
is not suspect becomes HELD with its state kept as state before hold, the signal takes the HOLD pattern; with
the hall held the source is added and no clock changes. Either way notice HELD carries the sources, two flags,
station then contact (the model's layout, log entry 9), and so does the DONE reply, and nothing else changes.
On a link ready for a request, with table memory clean and room in the notice queue: refused WRONG STATE with
the hall not held, and CONTACT ACTIVE while the kept contact level is active; otherwise, with no start
pending, every HELD clock that is not suspect returns to its state before hold, which is cleared, the held
flag and sources are cleared, the hold length is kept, the signal goes OFF, and notice RELEASED and the reply
carry the hold length. Nothing else changes. With starts pending, once the clocks are released and the hold is
cleared, each ADMITTING paper with start pending, in ascending index, has the flag cleared and makes its
start, and RELEASED joins after them: shown whole for one paper, whose writing start is that of
OpenAndStartPaper (ABSENT behind PAPER STATE, log entry 32; the pulse of 3 follows the signal's OFF) and whose
reading start makes it READING with its reading time and READING clocks.
Spec: 5.7 Hall hold; 5.2 Paper states. -/
def Obligations.HoldAndRelease : Prop :=
  ((∀ s : State, s.ready = true → s.clean = true → s.sli.notices.length < 64 →
        let said (c : Bool) : Sli :=
          { s.sli with notices := s.sli.notices ++ [⟨.held, s.htb.time, [flag true, flag c]⟩] }
        (s.ssu.held = true → exec .hold s =
          .next ({ s with ssu := { s.ssu with srcStation := true }, sli := said s.ssu.srcContact }.replied 54
            [flag true, flag s.ssu.srcContact]))
        ∧ (s.ssu.held = false → ∃ t : State, exec .hold s = .next (t.replied 54 [flag true, flag false])
          ∧ HoldRaised s t false ∧ t.due = s.due))
      ∧ (∀ s : State, s.ready = true → s.clean = true → s.sli.notices.length < 64 →
        (s.ssu.held = false → exec .release s = .next (s.refused 55 .wrongState))
        ∧ (s.ssu.held = true → s.ssu.contact = true → exec .release s = .next (s.refused 55 .contactActive))
        ∧ (s.ssu.held = true → s.ssu.contact = false → (∀ e ∈ s.ssu.papers, e.2.startPending = false) →
          ∃ t : State, exec .release s = .next (t.replied 55 [u16 s.ssu.holdLength])
            ∧ t.ssu = { s.ssu with held := false, srcStation := false, srcContact := false, signal := .off }
            ∧ t.sli = { s.sli with notices := s.sli.notices ++ [⟨.released, s.htb.time,
                [u16 s.ssu.holdLength, flag s.ssu.srcStation, flag s.ssu.srcContact]⟩] }
            ∧ (∀ k x b, s.slot? k = some x → x.suspect = false → x.clock.state = .held → x.clock.before = some b →
                ∃ y, t.slot? k = some y ∧ y.cand = x.cand ∧ y.clock = { x.clock with state := b, before := none })
            ∧ (∀ k x, s.slot? k = some x → x.suspect = true ∨ x.clock.state ≠ .held →
                ∃ y, t.slot? k = some y ∧ y.cand = x.cand ∧ y.clock = x.clock ∧ y.suspect = x.suspect)
            ∧ t.hmu = s.hmu ∧ t.sal = s.sal ∧ t.htb = s.htb ∧ t.dbc = s.dbc ∧ t.clu = s.clu ∧ t.mru = s.mru
            ∧ t.fcu = s.fcu)))
    ∧ (∀ s : State, s.ready = true → s.clean = true → s.tablesSorted = true → s.ssu.held = true → s.ssu.contact = false →
    let starts := (s.ssu.papers.filter fun e => e.2.state == .admitting && e.2.startPending).map Prod.fst
    let released (t : State) : State := notify .released [u16 s.ssu.holdLength, flag s.ssu.srcStation, flag s.ssu.srcContact] t
    ∃ u : State,
      u.ssu = { s.ssu with held := false, srcStation := false, srcContact := false, signal := .off }
      ∧ (∀ k x, s.slot? k = some x →
          (x.suspect = false → x.clock.state = .held → ∀ b, x.clock.before = some b →
            u.slot? k = (s.withSlot k x.cand { x.clock with state := b, before := none }).slot? k)
          ∧ (x.suspect = true → u.slot? k = some x)
          ∧ (x.suspect = false → x.clock.state ≠ .held → u.slot? k = (s.withSlot k x.cand x.clock).slot? k))
      ∧ u.sli = s.sli ∧ u.hmu = s.hmu ∧ u.sal = s.sal ∧ u.htb = s.htb ∧ u.dbc = s.dbc ∧ u.clu = s.clu ∧ u.mru = s.mru
      ∧ u.fcu = s.fcu ∧ u.upsets = s.upsets ∧ u.due = s.due ∧ u.pending = s.pending
      ∧ exec .release s = .next ((released (starts.foldl (fun t p => makeStart p
          (match t.paper? p with
            | some r => t.withPaperRecord p { r with startPending := false }
            | none => t)) u)).replied 55 [u16 s.ssu.holdLength])
      ∧ ∀ p r, starts = [p] → s.paper? p = some r → s.sli.notices.length + 1 < 64 →
        let cleared : Paper := { r with startPending := false }
        ∃ t : State, exec .release s = .next ((released t).replied 55 [u16 s.ssu.holdLength])
          ∧ (r.reading = 0 → WritingStarted (u.withPaperRecord p cleared) t p cleared)
          ∧ (0 < r.reading → ReadingStarted (u.withPaperRecord p cleared) t p cleared))

/-- SET CONTACT SENSE writes the sense, sets the quiet flag and replies DONE, or is refused BAD VALUE. The three
contact commands are taken as events of one sample (the model's choice, log entry 31). With nothing due, a
sample while quiet writes the kept level, clears the flag and sends CONTACT LEVEL with the level as a flag
(the model's layout, log entry 9), raising nothing; otherwise inactive to active adds the source CONTACT to a
hold, or raises one, with table memory clean and room in the notice queue: the held flag and that source
alone, hold length 0, the HOLD signal, each READING, RUNNING or PAUSED clock that is not suspect HELD with its
state kept as state before hold, and nothing else changed; notice HELD carries the sources, two flags, station
then contact (the model's layout, log entry 9); active to inactive sends CONTACT CLEAR, and an unchanged level
has no effect. The level command takes the pin's level under the sense, so it acts as one of the other two.
Spec: 5.7 Hall hold. -/
def Obligations.HoldContactSamples : Prop :=
  (∀ (s : State) (v : Nat), s.ready = true →
      (2 ≤ v → exec (.setContactSense v) s = .next (s.refused 56 .badValue))
      ∧ exec (.setContactSense 0) s = .next ({ s with ssu := { s.ssu with sense := .normal, quiet := true } }.replied 56 [])
      ∧ exec (.setContactSense 1) s =
        .next ({ s with ssu := { s.ssu with sense := .inverted, quiet := true } }.replied 56 []))
    ∧ ∀ s : State, s.calm = true →
      (s.ssu.quiet = true →
        exec .contactGoesActive s = .next (notify .contactLevel [flag true]
          { s with ssu := { s.ssu with contact := true, quiet := false } })
        ∧ exec .contactClear s = .next (notify .contactLevel [flag false]
          { s with ssu := { s.ssu with contact := false, quiet := false } }))
      ∧ (s.ssu.quiet = false →
        (s.ssu.contact = true → exec .contactGoesActive s = .next s
          ∧ exec .contactClear s = .next (notify .contactClear [] { s with ssu := { s.ssu with contact := false } }))
        ∧ (s.ssu.contact = false → exec .contactClear s = .next s)
        ∧ (s.ssu.contact = false → s.ssu.held = true → exec .contactGoesActive s =
          .next (notify .held [flag s.ssu.srcStation, flag true]
            { s with ssu := { s.ssu with contact := true, srcContact := true } }))
        ∧ (s.ssu.contact = false → s.ssu.held = false → s.clean = true → s.sli.notices.length < 64 →
          ∃ t : State, exec .contactGoesActive s = .next t
            ∧ HoldRaised { s with ssu := { s.ssu with contact := true } } t true ∧ t.due = s.due))
      ∧ (∀ high, (s.ssu.sense = .normal →
          exec (.contactLevel high) s = exec (if high then .contactGoesActive else .contactClear) s)
        ∧ (s.ssu.sense = .inverted →
          exec (.contactLevel high) s = exec (if high then .contactClear else .contactGoesActive) s))
      ∧ ∃ t : State, exec (.contactLevel true) s = .next t ∧ t.ssu.contact = (s.ssu.sense == .normal) ∧ t.ssu.quiet = false

/-- On a link ready for a request, with table memory clean: BREAK GRANT is refused BAD VALUE for a number outside
0 to 99,999,999, and GRANT TIME for minutes outside 1 to 30; both are refused NOT FOUND for a number no used
slot holds (for GRANT TIME a number outside the range too) and SUSPECT on a suspect record, and by the clock
as their rules give. BREAK GRANT of a SEATED candidate whose clock is RUNNING with budget left makes the clock
PAUSED, removes the seat's BREAK call and replies the budget. GRANT TIME adds 60 s a minute to the remaining
time up to 43,200, CLAMPED beyond it, sets the warning index anew and replies the new remaining time. Nothing
else changes.
Spec: 5.8 Breaks; 5.10 Added time. -/
def Obligations.BreaksAndAddedTime : Prop :=
  ∀ (s : State) (number m : Nat), s.ready = true → s.clean = true →
    (99999999 < number → exec (.breakGrant number) s = .next (s.refused 57 .badValue))
    ∧ (m = 0 ∨ 30 < m → exec (.grantTime number m) s = .next (s.refused 59 .badValue))
    ∧ (s.slotOf number = none → (number ≤ 99999999 → exec (.breakGrant number) s = .next (s.refused 57 .notFound))
      ∧ (1 ≤ m → m ≤ 30 → exec (.grantTime number m) s = .next (s.refused 59 .notFound)))
    ∧ (∀ k x, s.slotOf number = some k → s.slot? k = some x → x.suspect = true →
      (number ≤ 99999999 → exec (.breakGrant number) s = .next (s.refused 57 .suspect))
      ∧ (1 ≤ m → m ≤ 30 → exec (.grantTime number m) s = .next (s.refused 59 .suspect)))
    ∧ ∀ k x, s.finds number k x →
      (x.cand.state ≠ .seated ∨ x.clock.state ≠ .running →
        exec (.breakGrant number) s = .next (s.refused 57 .wrongState))
      ∧ (x.cand.state = .seated → x.clock.state = .running →
        (x.clock.budget = 0 → exec (.breakGrant number) s = .next (s.refused 57 .budget))
        ∧ (∀ n, 0 < x.clock.budget → x.cand.seat = some n → exec (.breakGrant number) s =
          .next ({ s.withSlot k x.cand { x.clock with state := .paused } with dbc := { s.dbc with
            calls := s.dbc.calls.filter fun c => !(c.seat == n && c.reason == CallReason.breakRequest) } }.replied 57
              [u16 x.clock.budget])))
      ∧ ∀ r, s.paper? x.cand.paper = some r → 1 ≤ m → m ≤ 30 →
        (r.state = .closed ∨ x.clock.state = .stopped ∨ x.clock.state = .expired →
          exec (.grantTime number m) s = .next (s.refused 59 .tooLate))
        ∧ (r.state ≠ .closed → x.clock.state = .none ∨ x.clock.state = .reading
            ∨ (x.clock.state = .held ∧ x.clock.before = some .reading) →
          exec (.grantTime number m) s = .next (s.refused 59 .wrongState))
        ∧ (r.state ≠ .closed → x.clock.state = .running ∨ x.clock.state = .paused
            ∨ (x.clock.state = .held ∧ (x.clock.before = some .running ∨ x.clock.before = some .paused)) →
          let left := min (x.clock.remaining + 60 * m) 43200
          exec (.grantTime number m) s = .next ((s.withSlot k x.cand { x.clock with
              remaining := left, warnIndex := r.warnings.findIdx fun w => 60 * w < left }).repliedClamped 59
                (43200 < x.clock.remaining + 60 * m) [u16 left]))

/-- On a link ready for a request, with table memory clean: FINISH CANDIDATE is refused BAD VALUE, NOT FOUND,
SUSPECT, TOO LATE for a STOPPED or EXPIRED clock, WRONG STATE for NONE, READING or HELD. For a RUNNING or
PAUSED clock, whatever the blackout, of a candidate without a seat, with the paper not OVERTIME and room in
the notice queue: the clock is STOPPED with its remaining time kept, the candidate FINISHED with reason
STATION, off the wait list (a walk ending as log entry 42 has it, the model's choice), notices FINISHED and
UNSEATED FINISH join in that order, and the reply carries the remaining time. For a slot whose candidate has a
seat, in a zone where no collector waits, of a paper not OVERTIME: the finish stops the clock with its
remaining time kept, makes the candidate FINISHED with the reason given and its seat kept, and adds one entry
(seat, slot, reason, booklets issued) at the bottom of the zone's urgent ring for reasons EARLY, STATION and
WITHDRAWN, of its main ring otherwise. Where collectors wait in the zone, its rings empty, the first of them
leaves the waiter list and is in ROUND with that entry alone and its timer set, and notice ROUND OFFERED
follows notice FINISHED. The finish of an OVERTIME paper's candidate, seated or not, no collector waiting,
leaves the paper OVERTIME while another clock of it is open, or a suspect candidate of it has a clock other
than NONE, and otherwise makes it CLOSED, with the pulse of 3 (not in a hold) and notice PAPER STATE after its
own notices, PAPER COLLECTED not following. The map, the other slots and the other zones' rings are unchanged.
Spec: 5.9 Finishing; 7.1 Rings and entries; 7.4 Taking rounds; 5.6 Closing a paper; 5.11 The hall signal. -/
def Obligations.FinishingACandidate : Prop :=
  (((∀ (s : State) (number : Nat), s.ready = true → s.clean = true →
          (99999999 < number → exec (.finishCandidate number) s = .next (s.refused 58 .badValue))
          ∧ (number ≤ 99999999 → s.slotOf number = none → exec (.finishCandidate number) s = .next (s.refused 58 .notFound))
          ∧ (∀ k x, number ≤ 99999999 → s.slotOf number = some k → s.slot? k = some x → x.suspect = true →
            exec (.finishCandidate number) s = .next (s.refused 58 .suspect))
          ∧ ∀ k x, s.finds number k x →
            (x.clock.state = .stopped ∨ x.clock.state = .expired →
              exec (.finishCandidate number) s = .next (s.refused 58 .tooLate))
            ∧ (x.clock.state = .none ∨ x.clock.state = .reading ∨ x.clock.state = .held →
              exec (.finishCandidate number) s = .next (s.refused 58 .wrongState))
            ∧ (x.clock.state = .running ∨ x.clock.state = .paused →
              exec (.finishCandidate number) s = .next ((acceptFinish k .station s).replied 58 [u16 x.clock.remaining]))
            ∧ (x.clock.state = .running ∨ x.clock.state = .paused → x.cand.seat = none →
              (∀ r, s.paper? x.cand.paper = some r → r.state ≠ .overtime) → s.sli.notices.length + 1 < 64 →
              ∃ (t : State) (y : Slot), exec (.finishCandidate number) s = .next (t.replied 58 [u16 x.clock.remaining])
                ∧ t.slot? k = some y ∧ y.clock = { x.clock with state := .stopped, before := none }
                ∧ y.cand = { x.cand with state := .finished, reason := some .station, walk := none, source := none }
                ∧ (∀ j, j ≠ k → t.slot? j = s.slot? j)
                ∧ t.sal = s.sal.left k
                ∧ t.sli = { s.sli with notices := s.sli.notices ++
                    [⟨.finished, s.htb.time, [u16 k] ++ labelFields none ++ [u8 4, u16 x.clock.remaining]⟩,
                     ⟨.unseatedFinish, s.htb.time, [u16 k, u32 x.cand.number, o8 (some 4)]⟩] }
                ∧ t.hmu = s.hmu ∧ t.htb = s.htb ∧ t.ssu = s.ssu ∧ t.dbc = s.dbc ∧ t.clu = s.clu ∧ t.fcu = s.fcu))
        ∧ (∀ (s : State) (k n : Nat) (x : Slot) (r : Seat) (why : FinishReason),
          s.slot? k = some x → x.cand.seat = some n → s.seat? n = some r → (s.ringsOf r.zone).waiters = [] →
          (∀ p, s.paper? x.cand.paper = some p → p.state ≠ .overtime) →
          let t := acceptFinish k why s
          let e : Entry := ⟨n, k, why, x.cand.issued⟩
          (∃ y, t.slot? k = some y ∧ y.clock = { x.clock with state := .stopped, before := none }
            ∧ y.cand = { x.cand with state := .finished, reason := some why, walk := none, source := none })
          ∧ (∀ j, j ≠ k → t.slot? j = s.slot? j)
          ∧ t.ringsOf r.zone =
              (if why = .early ∨ why = .station ∨ why = .withdrawn then
                { s.ringsOf r.zone with urgent := (s.ringsOf r.zone).urgent ++ [e] }
              else { s.ringsOf r.zone with main := (s.ringsOf r.zone).main ++ [e] })
          ∧ (∀ z, z ≠ r.zone → t.ringsOf z = s.ringsOf z)
          ∧ t.hmu = s.hmu ∧ t.htb = s.htb ∧ t.ssu = s.ssu ∧ t.dbc = s.dbc ∧ t.clu.collectors = s.clu.collectors))
      ∧ (∀ (s : State) (k n d : Nat) (ws : List Nat) (x : Slot) (r : Seat) (why : FinishReason),
      s.slot? k = some x → x.cand.seat = some n → s.seat? n = some r → s.ringsOf r.zone = ⟨[], [], d :: ws⟩ →
      1 ≤ (s.collectorOf d).size → (∀ p, s.paper? x.cand.paper = some p → p.state ≠ .overtime) →
      s.sli.notices.length + 1 < 64 →
      let t := acceptFinish k why s
      let e : Entry := ⟨n, k, why, x.cand.issued⟩
      t.ringsOf r.zone = ⟨[], [], ws⟩ ∧ (∀ z, z ≠ r.zone → t.ringsOf z = s.ringsOf z)
      ∧ t.collectorOf d = { s.collectorOf d with
          state := .round, zone := some r.zone, round := [e], timer := some (s.collectorOf d).timeout }
      ∧ (∀ c, c ≠ d → t.collectorOf c = s.collectorOf c)
      ∧ t.sli = { s.sli with notices := s.sli.notices ++
          [⟨.finished, s.htb.time, [u16 k] ++ labelFields (some (labelOf r)) ++ [u8 why.ctorIdx, u16 x.clock.remaining]⟩,
           ⟨.roundOffered, s.htb.time, [u8 d, u8 r.zone, u16 (s.collectorOf d).timeout, u8 1, u16 n]
              ++ labelFields (some (labelOf r)) ++ [u16 k, u8 why.ctorIdx, u8 x.cand.issued]⟩] }
      ∧ t.hmu = s.hmu ∧ t.htb = s.htb ∧ t.ssu = s.ssu ∧ t.dbc = s.dbc))
    ∧ (∀ (s : State) (k p : Nat) (x : Slot) (r : Paper) (why : FinishReason), s.clean = true → s.tablesSorted = true →
      s.slot? k = some x → x.suspect = false → x.cand.paper = p → s.paper? p = some r → r.state = .overtime →
      (∀ n, x.cand.seat = some n → ∃ w, s.seat? n = some w ∧ (s.ringsOf w.zone).waiters = []) → s.sli.notices.length + 2 < 64 →
      let t := acceptFinish k why s
      let told : List Notice :=
        ⟨.finished, s.htb.time, [u16 k] ++ s.labelFields x.cand.seat ++ [u8 why.ctorIdx, u16 x.clock.remaining]⟩ ::
          if x.cand.seat.isSome then [] else [⟨.unseatedFinish, s.htb.time, [u16 k, u32 x.cand.number, o8 (some why.ctorIdx)]⟩]
      let closes := List.all s.rsu.slots fun e => e.1 == k || e.2.shadow.paper != some p ||
        (if e.2.suspect then e.2.shadow.clockNone else
          e.2.clock.state == .none || e.2.clock.state == .stopped || e.2.clock.state == .expired)
      (closes = false → t.sli = { s.sli with notices := s.sli.notices ++ told } ∧ t.ssu = s.ssu)
      ∧ (closes = true →
        t.sli = { s.sli with notices := s.sli.notices ++ told ++ [⟨.paperState, s.htb.time, [u8 p, u8 5, u24 s.htb.time]⟩] }
        ∧ t.ssu = { s.ssu with papers := s.ssu.papers.put p { r with state := .closed }
                               signal := if s.ssu.held then s.ssu.signal else .pulse 3 }))

/-- Taken first among the steps a hall second made due: a RUNNING clock that stands at 0, alone of its kind, of a
candidate without a seat and a paper not OVERTIME, becomes EXPIRED and its candidate FINISHED with reason
EXPIRED, off the wait list (a walk ending as log entry 42 has it, the model's choice), with notices UNSEATED
FINISH and EXPIRED in that order; all such clocks together, seated or not, where no collector waits: the
candidates with a seat join the main ring of its zone in ascending seat number, with notices UNSEATED FINISH
in slot order and EXPIRED with the count of each paper in paper order, their EARLY SHEET entries are queued
for retry, and an OVERTIME paper of which no clock is then open and no suspect candidate has a clock other
than NONE becomes CLOSED, with notice PAPER STATE and the pulse of 3, unless the hall is held (PAPER COLLECTED
does not follow, its candidates being FINISHED). A PAUSED clock whose budget stands at 0 becomes RUNNING with
notice BREAK OVERRUN; an ADMITTED candidate whose walk timer stands at 0 is reported NOT SEATED and stays as
it is. Where the step is not due the command has no effect (the model's choice, log entry 3).
Spec: 5.4 The hall second; 2.4 The walk timer; 5.8 Breaks; 5.6 Closing a paper; 7.1 Rings and entries; 9.8
Retries and station resolution; 5.11 The hall signal. -/
def Obligations.ClockStepsOfTheSecond : Prop :=
  ((∀ (s : State) (d : Due), d ∉ s.due →
        (d = .clockExpiry → exec .clockExpiry s = .next s)
        ∧ (∀ k, d = .breakOverrun k → exec (.breakOverrun k) s = .next s)
        ∧ ∀ k, d = .notSeated k → exec (.notSeated k) s = .next s)
      ∧ (∀ (s : State) (rest : List Due) (k : Nat) (x : Slot), s.due = .clockExpiry :: rest → s.tablesSorted = true →
        s.slot? k = some x → x.suspect = false → x.clock.state = .running → x.clock.remaining = 0 → x.cand.seat = none →
        (∀ j y, j ≠ k → s.slot? j = some y → y.suspect = true ∨ y.clock.state ≠ .running ∨ y.clock.remaining ≠ 0) →
        (∀ p, s.paper? x.cand.paper = some p → p.state ≠ .overtime) → s.sli.notices.length + 1 < 64 →
        ∃ (t : State) (y : Slot), exec .clockExpiry s = .next t ∧ t.due = rest ∧ t.slot? k = some y
          ∧ y.clock = { x.clock with state := .expired, before := none }
          ∧ y.cand = { x.cand with state := .finished, reason := some .expired, walk := none, source := none }
          ∧ (∀ j, j ≠ k → t.slot? j = s.slot? j)
          ∧ t.sal = s.sal.left k
          ∧ t.sli = { s.sli with notices := s.sli.notices ++
              [⟨.unseatedFinish, s.htb.time, [u16 k, u32 x.cand.number, o8 (some 1)]⟩,
               ⟨.expired, s.htb.time, [u8 x.cand.paper, u16 1]⟩] }
          ∧ t.hmu = s.hmu ∧ t.ssu = s.ssu ∧ t.dbc = s.dbc ∧ t.clu = s.clu)
      ∧ (∀ (s : State) (rest : List Due) (k : Nat) (x : Slot), s.due = .breakOverrun k :: rest → s.slot? k = some x →
        x.suspect = false → x.clock.state = .paused → x.clock.budget = 0 →
        exec (.breakOverrun k) s = .next (notify .breakOverrun (u16 k :: s.labelFields x.cand.seat)
          { s.withSlot k x.cand { x.clock with state := .running } with due := rest }))
      ∧ ∀ (s : State) (rest : List Due) (k : Nat) (x : Slot), s.due = .notSeated k :: rest → s.slot? k = some x →
        x.suspect = false → x.cand.state = .admitted → x.cand.walk = some 0 →
        exec (.notSeated k) s = .next (notify .notSeated
          ([u16 k, u32 x.cand.number, u8 x.cand.paper] ++ s.labelFields x.cand.seat) { s with due := rest }))
    ∧ (∀ (s : State) (rest : List Due), s.due = .clockExpiry :: rest → s.tablesSorted = true → s.clean = true →
    let out := s.rsu.slots.filter fun e => !e.2.suspect && e.2.clock.state == .running && e.2.clock.remaining == 0
    let ks := out.map Prod.fst
    let seated := out.filterMap fun e => e.2.cand.seat.map fun n => (⟨n, e.1, .expired, e.2.cand.issued⟩ : Entry)
    let told : List Notice :=
      out.filterMap (fun e => if e.2.cand.seat.isSome then none else
        some ⟨.unseatedFinish, s.htb.time, [u16 e.1, u32 e.2.cand.number, o8 (some 1)]⟩)
      ++ (List.range 16).filterMap fun p =>
        let n := (out.filter fun e => e.2.cand.paper == p).length
        if n = 0 then none else some ⟨.expired, s.htb.time, [u8 p, u16 n]⟩
    (∀ e ∈ out, e.2.cand.paper < 16) → (∀ z, (s.ringsOf z).waiters = []) → s.sli.notices.length + told.length ≤ 63 →
    ∃ t : State, exec .clockExpiry s = .next t ∧ t.due = rest
      ∧ (∀ k x, s.slot? k = some x →
        (k ∈ ks → t.slot? k = (s.withSlot k { x.cand with state := .finished, reason := some .expired, walk := none, source := none }
          { x.clock with state := .expired, before := none }).slot? k)
        ∧ (k ∉ ks → t.slot? k = some x))
      ∧ t.sal = s.sal.leave ks
      ∧ (∀ z, (t.ringsOf z).urgent = (s.ringsOf z).urgent ∧ (t.ringsOf z).waiters = []
        ∧ ∃ l, (t.ringsOf z).main = (s.ringsOf z).main ++ l ∧ l.Pairwise (fun a b => a.seat ≤ b.seat)
          ∧ l.Perm (seated.filter fun e => ((s.seat? e.seat).map (·.zone)).getD 0 == z))
      ∧ t.clu.collectors = s.clu.collectors
      ∧ t.mru.exceptions = s.mru.exceptions.map (fun e =>
          if e.reason == .earlySheet && out.any (fun o => e.decNumber == some o.2.cand.number) then { e with queued := true } else e)
      ∧ t.hmu = s.hmu ∧ t.htb = s.htb ∧ t.dbc = s.dbc ∧ t.ssu.held = s.ssu.held
      ∧ ((∀ e ∈ s.ssu.papers, e.2.state = .overtime → ∀ o ∈ out, o.2.cand.paper ≠ e.1) →
        t.sli = { s.sli with notices := s.sli.notices ++ told } ∧ t.ssu = s.ssu)
      ∧ ∀ p r, (∀ o ∈ out, o.2.cand.paper = p) → out ≠ [] → s.paper? p = some r → r.state = .overtime →
        let closes := (List.all s.rsu.slots fun e => ks.contains e.1 || e.2.shadow.paper != some p ||
          (if e.2.suspect then e.2.shadow.clockNone else
            e.2.clock.state == .none || e.2.clock.state == .stopped || e.2.clock.state == .expired))
        (closes = false → t.sli = { s.sli with notices := s.sli.notices ++ told } ∧ t.ssu = s.ssu)
        ∧ (closes = true →
          t.sli = { s.sli with notices := s.sli.notices ++ told ++ [⟨.paperState, s.htb.time, [u8 p, u8 5, u24 s.htb.time]⟩] }
          ∧ t.ssu = { s.ssu with papers := s.ssu.papers.put p { r with state := .closed }
                                 signal := if s.ssu.held then s.ssu.signal else .pulse 3 }))

/-- Taken first among the steps made due, with table memory clean: a READING paper with reading remaining 0
makes its writing start, which OpenAndStartPaper states too: WRITING with elapsed 0, each READING clock
RUNNING with its full extended time and warning index, the pulse of 3, notice PAPER STATE, and admission
closed where the late-entry limit is 0, with ABSENT behind PAPER STATE (the order is the model's choice, log
entry 32); a WRITING paper at its late-entry limit has its admission closed and notice ABSENT carries the
count of EXPECTED candidates made ABSENT; a WRITING paper at 60 M becomes OVERTIME with notice PAPER STATE
while a clock of it is open, or a suspect candidate of it has a clock other than NONE, and otherwise CLOSED
with the pulse of 3 (not in a hold), notice PAPER STATE and, where no readable candidate of it is FINISHED,
notice PAPER COLLECTED with the returned total (a COLLECTED candidate with none recorded counted as 0, the
model's choice, log entry 70) and the discrepancy count; the scheduled start of an ADMITTING paper sets start
pending while the hall is held and otherwise makes its reading start (READING with reading remaining 60 times
the reading time and notice PAPER STATE, each WAITING, ADMITTED or SEATED candidate's NONE clock becoming
READING with its break budget, every other slot kept), or with a reading time of 0 its writing start. Where
the step is not among those due, whatever else is, the command has no effect (the model's choice, log entry
3).
Spec: 5.4 The hall second; 5.2 Paper states; 5.3 Candidate clocks; 5.5 Warnings; 5.6 Closing a paper; 2.6
Absence; 7.10 Reconciliation. -/
def Obligations.PaperStepsOfTheSecond : Prop :=
  (∀ (s : State) (p : Nat),
      (.readingEnd p ∉ s.due → exec (.readingEnd p) s = .next s)
      ∧ (.admissionCloses p ∉ s.due → exec (.admissionCloses p) s = .next s)
      ∧ (.writingEnd p ∉ s.due → exec (.writingEnd p) s = .next s)
      ∧ (.scheduledStart p ∉ s.due → exec (.scheduledStart p) s = .next s))
    ∧ (∀ (s : State) (rest : List Due) (p : Nat) (r : Paper), s.due = .readingEnd p :: rest → s.paper? p = some r →
      r.state = .reading → r.readingLeft = 0 → s.clean = true → s.tablesSorted = true → s.sli.notices.length + 1 < 64 →
      (∀ k x, s.slot? k = some x → x.suspect = false → x.shadow.paper = some p → x.cand.paper = p) →
      ∃ t : State, exec (.readingEnd p) s = .next t ∧ t.due = rest ∧ WritingStarted s t p r)
    ∧ (∀ (s : State) (rest : List Due) (p : Nat) (r : Paper), s.due = .admissionCloses p :: rest →
      s.clean = true → s.tablesSorted = true → s.paper? p = some r → r.state = .writing → 0 < r.late → r.elapsed = 60 * r.late →
      r.admClosed = false → s.sli.notices.length < 64 →
      ∃ t : State, exec (.admissionCloses p) s = .next t ∧ t.due = rest
        ∧ t.ssu = (s.withPaperRecord p { r with admClosed := true }).ssu
        ∧ t.sli = { s.sli with notices := s.sli.notices ++ [⟨.absent, s.htb.time, [u8 p, u16 (s.rsu.slots.filter
            fun e => !e.2.suspect && e.2.shadow.paper == some p && e.2.cand.state == .expected
              && e.2.cand.source.isNone).length]⟩] }
        ∧ (∀ k x, s.slot? k = some x → x.suspect = false → x.shadow.paper = some p → x.cand.state = .expected →
            x.cand.source = none → ∃ y, t.slot? k = some y ∧ y.cand = { x.cand with state := .absent } ∧ y.clock = x.clock)
        ∧ (∀ k x, s.slot? k = some x → x.suspect = true ∨ x.shadow.paper ≠ some p ∨ x.cand.state ≠ .expected
            ∨ x.cand.source.isSome = true → t.slot? k = some x)
        ∧ t.hmu = s.hmu ∧ t.htb = s.htb ∧ t.sal = s.sal ∧ t.dbc = s.dbc ∧ t.clu = s.clu ∧ t.mru = s.mru)
    ∧ (∀ (s : State) (rest : List Due) (p : Nat) (r : Paper), s.due = .writingEnd p :: rest → s.clean = true → s.paper? p = some r →
      r.state = .writing → r.elapsed = 60 * r.duration →
      (s.clocksOpen p = true → exec (.writingEnd p) s = .next (notify .paperState [u8 p, u8 4, u24 s.htb.time]
        { s.withPaperRecord p { r with state := .overtime } with due := rest }))
      ∧ (s.clocksOpen p = false → s.tablesSorted = true → s.sli.notices.length + 1 < 64 →
        let here := s.rsu.slots.filter fun e => !e.2.suspect && e.2.shadow.paper == some p
        let collected := here.filter fun e => e.2.cand.state == .collected
        let told : List Notice := ⟨.paperState, s.htb.time, [u8 p, u8 5, u24 s.htb.time]⟩ ::
          if here.any fun e => e.2.cand.state == .finished then [] else
            [⟨.paperCollected, s.htb.time, [u8 p, u16 (collected.map fun e => e.2.cand.returned.getD 0).sum,
              u16 (collected.filter fun e => e.2.cand.discrepancy).length]⟩]
        exec (.writingEnd p) s = .next { s with
          ssu := { s.ssu with papers := s.ssu.papers.put p { r with state := .closed }
                              signal := if s.ssu.held then s.ssu.signal else .pulse 3 }
          sli := { s.sli with notices := s.sli.notices ++ told }, due := rest })
      ∧ (s.clocksOpen p = false → s.ssu.held = false → ∃ t : State, exec (.writingEnd p) s = .next t ∧ t.due = rest
        ∧ t.paper? p = some { r with state := .closed } ∧ t.ssu.signal = .pulse 3 ∧ t.rsu = s.rsu ∧ t.hmu = s.hmu))
    ∧ ∀ (s : State) (rest : List Due) (p : Nat) (r : Paper), s.due = .scheduledStart p :: rest →
      s.paper? p = some r →
      (r.state = .admitting → s.ssu.held = true → exec (.scheduledStart p) s =
        .next { s.withPaperRecord p { r with startPending := true } with due := rest })
      ∧ (r.state = .admitting → s.ssu.held = false → 0 < r.reading → ∃ t : State, exec (.scheduledStart p) s = .next t
        ∧ t.due = rest ∧ t.paper? p = some { r with state := .reading, readingLeft := 60 * r.reading }
        ∧ (s.clean = true → s.tablesSorted = true → s.sli.notices.length < 64 → ReadingStarted s t p r))
      ∧ (r.state = .admitting → s.ssu.held = false → r.reading = 0 → s.clean = true → s.tablesSorted = true →
        s.sli.notices.length + 1 < 64 →
        (∀ k x, s.slot? k = some x → x.suspect = false → x.shadow.paper = some p → x.cand.paper = p) →
        ∃ t : State, exec (.scheduledStart p) s = .next t ∧ t.due = rest ∧ WritingStarted s t p r)
      ∧ (r.state ≠ .admitting → exec (.scheduledStart p) s = .next { s with due := rest })

/-- Taken first among the steps made due: a RUNNING clock whose remaining is 60 times the threshold at its index
advances the index by one, and where the candidate has a seat with a desk that desk's warning is set for 60 s;
notice WARNING carries the paper and each threshold t with base less writing elapsed equal to 60 t. Nothing
else changes. Taken first among the steps made due: a pulse at count 0 gives way to OFF; a desk's finish
window at 0 is closed; a desk's override, feedback and warning that stand at 0 are removed and the others
kept. Nothing else changes. Where the step is not among those due, whatever else is, the command has no effect
(the model's choice, log entry 3).
Spec: 5.5 Warnings; 6.5 Lamps; 5.11 The hall signal; 6.3 Buttons and presses. -/
def Obligations.WarningsAndTimers : Prop :=
  ((∀ (s : State) (n : Nat), (.clockWarning n ∉ s.due → exec (.clockWarning n) s = .next s)
        ∧ (.warning n ∉ s.due → exec (.warning n) s = .next s))
      ∧ (∀ (s : State) (rest : List Due) (k t : Nat) (x : Slot) (r : Paper), s.due = .clockWarning k :: rest →
        s.slot? k = some x → s.paper? x.cand.paper = some r → x.suspect = false → x.clock.state = .running →
        r.warnings[x.clock.warnIndex]? = some t → x.clock.remaining = 60 * t →
        let fired := { s.withSlot k x.cand { x.clock with warnIndex := x.clock.warnIndex + 1 } with due := rest }
        (x.cand.seat = none → exec (.clockWarning k) s = .next fired)
        ∧ ∀ n w a d, x.cand.seat = some n → s.seat? n = some w → w.desk = some a → s.desk? a = some d →
          exec (.clockWarning k) s = .next (fired.withDesk a { d with warning := some 60 }))
      ∧ ∀ (s : State) (rest : List Due) (p t : Nat) (r : Paper), s.due = .warning p :: rest → s.paper? p = some r →
        r.state = .writing → r.warnings.filter (fun w => r.elapsed + 60 * w == 60 * r.duration) = [t] →
        exec (.warning p) s = .next (notify .warning [u8 p, u8 t] { s with due := rest }))
    ∧ ((∀ (s : State) (a : Nat), (.pulseEnd ∉ s.due → exec .pulseEnd s = .next s)
        ∧ (.finishWindowExpiry a ∉ s.due → exec (.finishWindowExpiry a) s = .next s)
        ∧ (.lampItemExpiry a ∉ s.due → exec (.lampItemExpiry a) s = .next s))
      ∧ (∀ (s : State) (rest : List Due), s.due = .pulseEnd :: rest → s.ssu.signal = .pulse 0 →
        exec .pulseEnd s = .next { s with ssu := { s.ssu with signal := .off }, due := rest })
      ∧ (∀ (s : State) (rest : List Due) (a : Nat) (d : Desk), s.due = .finishWindowExpiry a :: rest →
        s.desk? a = some d → d.window = some 0 →
        exec (.finishWindowExpiry a) s = .next { s.withDesk a { d with window := none } with due := rest })
      ∧ ∀ (s : State) (rest : List Due) (a : Nat) (d : Desk), s.due = .lampItemExpiry a :: rest → s.desk? a = some d →
        exec (.lampItemExpiry a) s = .next { s.withDesk a { d with
          override := (if d.override.map (·.seconds) = some 0 then none else d.override)
          feedback := (if d.feedback.map (·.seconds) = some 0 then none else d.feedback)
          warning := (if d.warning = some 0 then none else d.warning) } with due := rest })

/-- On a link ready for a request: refused BUSY while the hall is held or a paper is READING, WRITING or OVERTIME;
otherwise, with table memory clean, every defined paper is DEFINED with its counters 0 and flags clear and its
other fields kept, every seat not UNAVAILABLE is FREE with occupant, last paper, used and override mark
cleared and its class, desk address and suspect mark kept, every slot that is not suspect is unused and a
suspect one keeps its mark with a clock of NONE and an empty shadow, both doors IDLE, an outstanding card
answered REFUSED UNKNOWN, the wait list, cursors, call list, rings and rounds are empty, collectors OFF,
results and exceptions gone, the buffers FREE, the marker IDLE, the pass idle and every rescore pending flag
clear, the scan link no longer discarding (the model's choice, log entry 21), the signal OFF; every listed
desk loses its presses, long press, window, override, feedback and warning and keeps its state, cause, flags,
misses, bits, last levels and lamp; zones, rows, forms, keys, the staging key, marking settings, button and
contact senses, the quiet flag, the hold length, the poll in progress, the time base, the arbiter's last
served and the reporting level are kept. With room in the queue, PAPER STATE of each paper not DEFINED, DOOR
ANSWER of each outstanding card, FAULT of each parity error unsettled (LOST, not at level QUIET; captured
where the record is empty) and the held CORRECTED notices join in that order (the model's choice, log entries
22 and 23; codes log entries 40 and 63); the held list is empty.
Spec: 5.12 Clearing the sitting; 1.7 Station requests on seats; 2.8 Queries and resets; 3.6 Resets; 7.11 What
the station sees, and resets; 6.6 Resets and what the station sees; 9.9 Resets; 11.4 Resets and what the
station sees; 11.2 Fault reports and the reporting level; 8.3 The scan link. -/
def Obligations.ClearSittingKeepsTheConfiguration : Prop :=
  ∀ s : State, s.ready = true →
    (s.ssu.held = true ∨ (∃ e ∈ s.ssu.papers, e.2.state = .reading ∨ e.2.state = .writing ∨ e.2.state = .overtime) →
      exec .clearSitting s = .next (s.refused 63 .busy))
    ∧ (s.clean = true → s.ssu.held = false → (∀ e ∈ s.ssu.papers, e.2.state = .defined ∨ e.2.state = .admitting ∨ e.2.state = .closed) →
      ∃ t : State, exec .clearSitting s = .next (t.replied 63 [])
        ∧ (∀ p, t.paper? p = (s.paper? p).map fun r =>
            { r with state := .defined, startPending := false, readingLeft := 0, elapsed := 0, admClosed := false })
        ∧ (∀ n, t.seat? n = (s.seat? n).map fun r =>
            { r with state := if r.state = .unavailable then .unavailable else .free, occupant := none,
                     lastPaper := none, used := false, override := false })
        ∧ (∀ e, e ∈ t.rsu.slots ↔ ∃ x, (e.1, x) ∈ s.rsu.slots ∧ x.suspect = true
            ∧ e.2 = { x with clock := ⟨.none, 0, none, none, 0, 0⟩, shadow := ⟨none, none, true⟩ })
        ∧ t.rsu.door0.card = none ∧ t.rsu.door1.card = none
        ∧ (let answered (d : Port) : Port := if d.card = none then d else ⟨none, some (.refused .unknown)⟩
          t.rsu.door0 = answered s.rsu.door0 ∧ t.rsu.door1 = answered s.rsu.door1)
        ∧ (let lost : List FaultReport := s.mru.resendWait.map fun w =>
            ⟨.scan, w.kind.faultRecord, w.row, .lost, s.htb.time⟩
          let told := if s.fcu.level = .quiet then [] else lost
          let notice (kind : NoticeKind) (l : List Field) : Notice := ⟨kind, s.htb.time, l⟩
          let card (d : Nat) (number : Option Nat) : List Notice := number.toList.map fun n =>
            notice .doorAnswer ([u8 d, u32 n, u8 2, u8 1] ++ labelFields none ++ [o16 none])
          let said : List Notice :=
            ((s.ssu.papers.filter fun e => e.2.state != .defined).map fun e => notice .paperState [u8 e.1, u8 0, u24 s.htb.time])
              ++ card 0 s.rsu.door0.card ++ card 1 s.rsu.door1.card
              ++ (told.map fun f => notice .fault [u8 2, u8 f.record.ctorIdx, o16 f.index, u8 2, u24 s.htb.time])
              ++ s.heldNotices
          (s.sli.notices.length + said.length ≤ 64 → t.sli = { s.sli with notices := s.sli.notices ++ said })
          ∧ t.fcu = { s.fcu with
              held := [], capture := s.fcu.capture.or told.head?
              further := s.fcu.further || (s.fcu.capture.isSome && !told.isEmpty) || decide (2 ≤ told.length) })
        ∧ t.sal = { cursors := [], wait := [], retry := .idle, again := false, span := [], reqDoor0 := none,
                    reqDoor1 := none, reqStation := none, reqRetry := false, last := s.sal.last, serving := none }
        ∧ t.clu = ⟨[], []⟩ ∧ t.dbc.calls = [] ∧ t.ssu.signal = .off ∧ t.ssu.sense = s.ssu.sense
        ∧ t.ssu.contact = s.ssu.contact
        ∧ t.ssu = { s.ssu with papers := t.ssu.papers, signal := .off }
        ∧ (∀ a, t.desk? a = (s.desk? a).map fun d => { d with
            presses := [], longPress := none, window := none, override := none, feedback := none, warning := none })
        ∧ t.dbc = { s.dbc with desks := t.dbc.desks, calls := [] }
        ∧ t.mru = { s.mru with
            buffer0 := ⟨.free, none, none, [], false⟩, buffer1 := ⟨.free, none, none, [], false⟩, fullOrder := []
            discarding := false, resendWait := [], exceptions := [], counter := 0, results := [], marker := none
            pass := none, rescorePending := [] }
        ∧ t.mru.results = [] ∧ t.mru.exceptions = [] ∧ t.mru.counter = 0 ∧ t.mru.pass = none ∧ t.mru.marker = none
        ∧ t.mru.buffer0 = ⟨.free, none, none, [], false⟩ ∧ t.mru.buffer1 = ⟨.free, none, none, [], false⟩
        ∧ t.mru.forms = s.mru.forms ∧ t.mru.keys = s.mru.keys ∧ t.mru.settings = s.mru.settings
        ∧ t.hmu.zones = s.hmu.zones ∧ t.hmu.rows = s.hmu.rows ∧ t.htb = s.htb
        ∧ t.fcu.level = s.fcu.level ∧ (∀ f, s.fcu.capture = some f → t.fcu.capture = some f))

/-- On a link ready for a request, with table memory clean but for STATUS. QUERY PAPER: BAD VALUE, NOT FOUND,
and otherwise a DONE reply with every field of the record, the eight cursors and the counts of candidates by
state and of clocks by state, suspect records passed over. QUERY RECONCILE: BAD VALUE, NOT FOUND, and
otherwise the paper's state, the booklets issued to candidates in the hall, finished or collected, the
returned total (a COLLECTED candidate with none recorded counted as 0, the model's choice, log entry 70), the
booklets in candidates' hands, the discrepancies, the FINISHED candidates with and without a seat and the
suspect slots of the paper. QUERY QUEUE: BAD VALUE, and otherwise the zone's rings, waiters and rounds and the
collectors' table. READ RESULT: BAD VALUE, NOT FOUND for a number no slot holds or a slot with no result, then
SUSPECT for a suspect candidate; a suspect result gives its marker alone, and another the marker clear, the
fields of the record and the current generation of its version. STATUS is never refused; its DONE reply
carries the base rate, the notices queued and the lost-notice flag, then the status fields of every block,
each as it stands, and the flag is then clear. Nothing else changes. The layouts within a reply (the marker
first, the base rate in 3 bytes, the buffer of a marked sheet in 2 bytes, the staging key's questions as its
staged entries, sources and contact level as flags, an absent serial as all ones, a buffer's and a collector's
fields in a row, rounds by ascending collector) are the model's choice, log entry 9.
Spec: 5.12 Clearing the sitting; 7.10 Reconciliation; 7.11 What the station sees, and resets; 9.8 Retries and
station resolution; 10.6 STATUS and the catalogue. -/
def Obligations.StatusAndReportQueries : Prop :=
  ((∀ (s : State) (p : Nat), s.ready = true → s.clean = true →
        (16 ≤ p → exec (.queryPaper p) s = .next (s.refused 64 .badValue))
        ∧ (p < 16 → s.paper? p = none → exec (.queryPaper p) s = .next (s.refused 64 .notFound))
        ∧ ∀ r, p < 16 → s.paper? p = some r → exec (.queryPaper p) s = .next (s.replied 64
          (r.code.map u8
            ++ [u8 r.form, u8 r.versions, u8 r.reading, u16 r.duration, u8 r.late, u8 r.blackFirst, u8 r.blackLast,
                u8 r.breakDefault, u8 r.bookletDefault, u16 r.walk]
            ++ listField (fun z => [u8 z]) r.zoneOrder ++ listField (fun t => [u8 t]) r.warnings
            ++ [o24 r.scheduled, u8 r.penalty, flag r.multipleWrong] ++ listField (fun q => [u8 q]) r.sections
            ++ [u8 r.state.ctorIdx, flag r.startPending, u16 r.readingLeft, u16 r.elapsed, flag r.admClosed]
            ++ (List.range 8).map (fun z => u16 (s.cursorOf p z))
            ++ (List.range 8).map (fun i => u16 ((s.rsu.slots.filter fun e =>
                !e.2.suspect && e.2.shadow.paper == some p && e.2.cand.state.ctorIdx == i).length))
            ++ (List.range 7).map (fun i => u16 ((s.rsu.slots.filter fun e =>
                !e.2.suspect && e.2.shadow.paper == some p && e.2.clock.state.ctorIdx == i).length)))))
      ∧ (∀ s : State, s.ready = true → s.clean = true →
        (∀ p, (16 ≤ p → exec (.queryReconcile p) s = .next (s.refused 102 .badValue))
          ∧ (p < 16 → s.paper? p = none → exec (.queryReconcile p) s = .next (s.refused 102 .notFound))
          ∧ ∀ r, p < 16 → s.paper? p = some r →
            let here := s.rsu.slots.filter fun e => !e.2.suspect && e.2.shadow.paper == some p
            let inHand (c : Candidate) : Bool :=
              c.state == .waiting || c.state == .admitted || c.state == .seated || c.state == .finished
            exec (.queryReconcile p) s = .next (s.replied 102 [u8 r.state.ctorIdx,
              u16 ((here.filter fun e => inHand e.2.cand || e.2.cand.state == .collected).map fun e => e.2.cand.issued).sum,
              u16 ((here.filter fun e => e.2.cand.state == .collected).map fun e => e.2.cand.returned.getD 0).sum,
              u16 ((here.filter fun e => inHand e.2.cand).map fun e => e.2.cand.issued).sum,
              u16 (here.filter fun e => e.2.cand.state == .collected && e.2.cand.discrepancy).length,
              u16 (here.filter fun e => e.2.cand.state == .finished && e.2.cand.seat.isSome).length,
              u16 (here.filter fun e => e.2.cand.state == .finished && e.2.cand.seat.isNone).length,
              u16 (s.rsu.slots.filter fun e => e.2.suspect && e.2.shadow.paper == some p).length]))
        ∧ ∀ z, (8 ≤ z → exec (.queryQueue z) s = .next (s.refused 103 .badValue))
          ∧ (z < 8 → exec (.queryQueue z) s = .next (s.replied 103
            (listField s.entryFields (s.ringsOf z).urgent ++ listField s.entryFields (s.ringsOf z).main
              ++ listField (fun c => [u8 c]) (s.ringsOf z).waiters
              ++ listField (fun c => u8 c :: s.roundFields c)
                  ((List.range 8).filter fun c => (s.collectorOf c).state == .round && (s.collectorOf c).zone == some z)
              ++ (List.range 8).flatMap fun c => (s.collectorOf c).fields))))
      ∧ (∀ (s : State) (number : Nat), s.ready = true → s.clean = true →
        (99999999 < number → exec (.readResult number) s = .next (s.refused 118 .badValue))
        ∧ (number ≤ 99999999 → s.slotOf number = none → exec (.readResult number) s = .next (s.refused 118 .notFound))
        ∧ (∀ k, number ≤ 99999999 → s.slotOf number = some k → s.mru.results.find k = none →
          exec (.readResult number) s = .next (s.refused 118 .notFound))
        ∧ (∀ k x, number ≤ 99999999 → s.slotOf number = some k → (s.mru.results.find k).isSome = true →
          s.slot? k = some x → x.suspect = true → exec (.readResult number) s = .next (s.refused 118 .suspect))
        ∧ ∀ k x, s.finds number k x →
          ∀ r, s.mru.results.find k = some r →
            (r.suspect = true → exec (.readResult number) s = .next (s.replied 118 [flag true]))
            ∧ (r.suspect = false → exec (.readResult number) s = .next (s.replied 118
              ([flag false, u16 r.serial, u8 r.form, u8 r.version, u16 r.generation]
                ++ listField (fun o => [o.field]) r.outcomes ++ listField (fun n => [u16 n]) r.score.sections
                ++ [u16 r.score.total, u16 r.score.maximum, o16 r.score.percent, u8 r.score.blanks, u8 r.score.lights,
                    u8 r.score.multiples, flag r.stale, u16 (s.keyOf x.cand.paper r.version).generation])))))
    ∧ (∀ s : State, s.ready = true →
      let running (n : Nat) : Option Nat := if s.htb.cal = .idle then none else some n
      let desks (d : DeskState) : Field := u16 (s.dbc.desks.filter fun e => e.2.state == d).length
      let buffer (b : Buffer) : List Field := [u8 b.state.ctorIdx, o16 b.serial, o8 b.form, flag b.held]
      exec .status s = .next { s with sli := { s.sli with
      lost := false
      replies := s.sli.replies ++ [⟨132, ⟨.done, .none,
        [u24 s.sli.rate, u8 s.sli.notices.length, flag s.sli.lost] ++ [u24 s.htb.time, flag s.htb.timeSet, u24 s.htb.trim, o24 s.htb.pendingTrim, u8 s.htb.cal.ctorIdx,
              o16 (running s.htb.calLength), o16 (running s.htb.pulses), o24 (running s.htb.ticks)]
          ++ [flag s.ssu.held, flag s.ssu.srcStation, flag s.ssu.srcContact, u16 s.ssu.holdLength, u8 s.ssu.sense.ctorIdx,
              flag s.ssu.contact, u8 s.ssu.signal.code]
          ++ [desks .offline, desks .quiet, desks .online, flag s.dbc.inverted.present, flag s.dbc.inverted.finish,
              flag s.dbc.inverted.call, flag s.dbc.inverted.breakKey, u8 s.dbc.calls.length]
          ++ buffer s.mru.buffer0 ++ buffer s.mru.buffer1
          ++ [flag s.readyLine, flag s.filling.isSome, o8 (s.filling.map fun b => (s.bufferOf b).rows.length),
              u8 s.mru.exceptions.length]
          ++ s.mru.markingFields
          ++ [u8 s.fcu.level.ctorIdx, flag s.fcu.capture.isSome, flag s.fcu.further, u8 s.fcu.held.length,
              u16 (s.hmu.seats.filter (·.2.suspect)).length, u16 (s.rsu.slots.filter (·.2.suspect)).length,
              u16 (s.mru.results.filter (·.2.suspect)).length]⟩, s.sli.lost⟩] } })

/-- On a link ready for a request: SET BUTTON SENSE is refused BAD VALUE for an unnamed button or sense, and
otherwise writes that button's sense, discards pending presses, long-press counts and finish windows at every
desk and makes every ONLINE desk QUIET with cause SENSE, its next good reply to be taken as a sample (a desk
QUIET already is left as it is, the model's choice, log entry 49). SET LAMP, with table memory clean, is
refused BAD VALUE, NOT FOUND, SUSPECT and WRONG STATE for a seat with no desk address, and otherwise sets the
desk's override pattern for the duration. Nothing else changes. ANSWER CALL is refused BAD VALUE for a seat
number outside 0 to 511, NOT FOUND where no seat has it or the list holds no entry of it, SUSPECT for a
suspect seat, and otherwise removes the seat's entry, the others keeping their order, and replies its reason
and time; QUERY CALLS replies the entries from the head and their number (the count stands before the entries
as in every list, and again behind them: the layout is the model's choice, log entry 9). Nothing else changes.
Spec: 6.3 Buttons and presses; 6.5 Lamps; 6.4 The call list. -/
def Obligations.DeskRequests : Prop :=
  ((∀ (s : State) (b v : Nat), s.ready = true →
        (4 ≤ b ∨ 2 ≤ v → exec (.setButtonSense b v) s = .next (s.refused 80 .badValue))
        ∧ (v < 2 →
          let after (inv : Buttons) : State := { s with dbc := { s.dbc with
            inverted := inv
            desks := s.dbc.desks.map fun e => (e.1, { e.2 with
              presses := [], longPress := none, window := none
              state := if e.2.state = .online then .quiet else e.2.state
              cause := if e.2.state = .online then some .sense else e.2.cause
              resample := e.2.state == .online || e.2.resample }) } }
          exec (.setButtonSense 0 v) s = .next ((after { s.dbc.inverted with present := v == 1 }).replied 80 [])
          ∧ exec (.setButtonSense 1 v) s = .next ((after { s.dbc.inverted with finish := v == 1 }).replied 80 [])
          ∧ exec (.setButtonSense 2 v) s = .next ((after { s.dbc.inverted with call := v == 1 }).replied 80 [])
          ∧ exec (.setButtonSense 3 v) s = .next ((after { s.dbc.inverted with breakKey := v == 1 }).replied 80 [])))
      ∧ ∀ (s : State) (n c d t : Nat), s.ready = true → s.clean = true →
        (4 ≤ c ∨ 3 ≤ d ∨ 511 < n ∨ t = 0 ∨ 600 < t → exec (.setLamp n c d t) s = .next (s.refused 82 .badValue))
        ∧ ∀ (colour : Colour) (cadence : Cadence), [Colour.off, .green, .amber, .red][c]? = some colour →
          [Cadence.steady, .slow, .fast][d]? = some cadence → n ≤ 511 → 1 ≤ t → t ≤ 600 →
          (s.seat? n = none → exec (.setLamp n c d t) s = .next (s.refused 82 .notFound))
          ∧ ∀ r, s.seat? n = some r →
            (r.suspect = true → exec (.setLamp n c d t) s = .next (s.refused 82 .suspect))
            ∧ (r.suspect = false → r.desk = none → exec (.setLamp n c d t) s = .next (s.refused 82 .wrongState))
            ∧ ∀ a k, r.suspect = false → r.desk = some a → s.desk? a = some k →
              exec (.setLamp n c d t) s =
                .next ((s.withDesk a { k with override := some ⟨⟨colour, cadence⟩, t⟩ }).replied 82 []))
    ∧ (∀ s : State, s.ready = true →
      (∀ n, (511 < n → exec (.answerCall n) s = .next (s.refused 81 .badValue))
        ∧ (n ≤ 511 → s.seat? n = none → exec (.answerCall n) s = .next (s.refused 81 .notFound))
        ∧ (n ≤ 511 → (∀ c ∈ s.dbc.calls, c.seat ≠ n) → exec (.answerCall n) s = .next (s.refused 81 .notFound))
        ∧ ∀ r c, n ≤ 511 → s.seat? n = some r → s.dbc.calls.find? (fun e => e.seat == n) = some c →
          (r.suspect = true → exec (.answerCall n) s = .next (s.refused 81 .suspect))
          ∧ (r.suspect = false → exec (.answerCall n) s =
            .next ({ s with dbc := { s.dbc with calls := s.dbc.calls.filter fun e => e.seat != n } }.replied 81
              [u8 c.reason.ctorIdx, u24 c.time])))
      ∧ exec .queryCalls s = .next (s.replied 83
        (u8 s.dbc.calls.length :: (s.dbc.calls.flatMap fun c =>
          [u16 c.seat] ++ s.labelFields (some c.seat) ++ [u8 c.reason.ctorIdx, u24 c.time])
          ++ [u8 s.dbc.calls.length])))

/-- With nothing due: on a silent bus the lowest listed address above the one polled last, or else the lowest
listed, is polled with the desk's lamp in effect and acknowledge bit; with no address listed, or an exchange
open (the model's choice, log entry 14), a poll changes nothing. A first failed attempt is retried; a second
one, by timeout or by a reply whose check fails or whose address differs in any of 16 bits (the model's
choice, log entry 20), ends the exchange and is a miss: an OFFLINE desk makes no report, its count stopping at
3; a QUIET or ONLINE desk makes a LOST fault of source DESK with its address, taken as TableReadsFindWrongBits
states for every fault (code and index width, log entry 63) and before any DESK OFFLINE (the model's choice,
log entry 20), and below 2 misses counts 1 more and keeps its state, at 2 becomes OFFLINE with what it kept of
presses, long press and window discarded, and then, where its return was announced, sends notice DESK OFFLINE
with its address and its seat's label. An exchange whose desk has left the poll list since is void: its
timeout ends it with no miss (the model's choice, log entry 20). An address listed on an empty poll list with
no exchange open begins a new round, from the lowest listed; any other change of the list leaves the round as
it is.
Spec: 6.1 The desk table and the poll list; 6.2 Desk states; 11.2 Fault reports and the reporting level. -/
def Obligations.DeskPollAndTimeout : Prop :=
  (∀ s : State, s.calm = true →
      (s.dbc.exchange.isSome = true → exec .deskPoll s = .next s)
      ∧ (s.dbc.desks = [] → exec .deskPoll s = .next s)
      ∧ (∀ a d, s.dbc.exchange = none → s.desk? a = some d →
        ((∀ b ∈ s.dbc.desks.keys, s.dbc.polled.getD 0 < b → a ≤ b) ∧ s.dbc.polled.getD 0 < a ∧ s.tablesSorted = true
          ∨ (∀ b ∈ s.dbc.desks.keys, b ≤ s.dbc.polled.getD 0) ∧ s.dbc.desks.keys.head? = some a) →
        exec .deskPoll s = .next { s with dbc := { s.dbc with
          exchange := some ⟨a, false, false⟩, polled := some a, out := some ⟨a, d.lamp, d.ack⟩ } })
      ∧ (s.dbc.exchange = none → exec .replyTimeout s = .next s)
      ∧ (∀ a, s.dbc.exchange = some ⟨a, false, false⟩ →
        exec .replyTimeout s = .next { s with dbc := { s.dbc with exchange := some ⟨a, true, false⟩ } })
      ∧ (∀ a r, s.dbc.exchange = some ⟨a, r, true⟩ →
        exec .replyTimeout s = .next { s with dbc := { s.dbc with exchange := none } })
      ∧ ∀ a d, s.dbc.exchange = some ⟨a, true, false⟩ → s.desk? a = some d →
        (d.state = .offline → exec .replyTimeout s = .next { s with dbc :=
          { (s.withDesk a { d with misses := min (d.misses + 1) 3 }).dbc with exchange := none } })
        ∧ (d.state ≠ .offline → d.misses < 2 → exec .replyTimeout s =
          .next (takeFault .desk .desk (some a) .lost { s with dbc :=
            { (s.withDesk a { d with misses := d.misses + 1 }).dbc with exchange := none } }))
        ∧ (d.state ≠ .offline → d.misses = 2 → ∀ n r, s.seatOfDesk a = some n → s.seat? n = some r →
          let lost := takeFault .desk .desk (some a) .lost s
          lost.sli.notices.length < 64 →
          ∃ t : State, exec .replyTimeout s = .next t ∧ t.fcu = lost.fcu ∧ t.mru = s.mru
            ∧ t.sli = (if d.announced then { lost.sli with notices := lost.sli.notices ++
                [⟨.deskOffline, s.htb.time, u16 a :: labelFields (some (labelOf r))⟩] } else lost.sli))
        ∧ (∀ hi lo b q ck : Byte, hi + lo + b + q + ck ≠ 0 ∨ hi.toNat * 256 + lo.toNat ≠ a →
          exec (.deskReply hi lo b q ck) s = exec .replyTimeout s)
        ∧ (d.state ≠ .offline → d.misses = 2 → ∃ t : State, exec .replyTimeout s = .next t
          ∧ t.desk? a = some { d with state := .offline, cause := none, announced := false, misses := 3, resample := false, presses := [],
                                      longPress := none, window := none }
          ∧ (∀ b, b ≠ a → t.desk? b = s.desk? b) ∧ t.dbc.exchange = none ∧ t.hmu = s.hmu ∧ t.rsu = s.rsu
          ∧ t.ssu = s.ssu))
    ∧ (∀ s : State,
    (s.dbc.desks = [] → s.dbc.exchange = none → s.addresses ≠ [] → (syncDesks s).dbc.polled = none)
    ∧ (s.dbc.desks ≠ [] ∨ s.dbc.exchange.isSome = true ∨ s.addresses = [] → (syncDesks s).dbc.polled = s.dbc.polled))

/-- With nothing due, no void exchange and a first attempt at an address: a reply whose check fails or whose
address differs fails the attempt; bits 1 to 7 of the sequence byte change nothing (log entry 44). A good one
of an OFFLINE desk makes it QUIET with cause RETURNED and is its sample: misses 0, sensed levels kept,
expected bit written from its own, acknowledge bit toggled; one out of step of a QUIET desk, and the first
after SET BUTTON SENSE, is a sample too; one out of step of an ONLINE desk is a sample with DESK RESTARTED,
the long press and window discarded. In step a QUIET desk comes ONLINE, with DESK ONLINE where it had RETURNED
and a retry trigger. In step the reply is accepted: levels kept, both bits toggled, a long-press count moved
by the CALL level (BOOKLET at the fourth, CALL at an earlier release), then the presses, as senses, latches
and levels give them (R107), handed on in button order, each on what the one before left; a CALL press after a
count so settled starts anew. The retried attempt's reply does the same, after a CORRECTED fault of source
DESK (order log entry 20, code log entry 63, the model's choices) unless the desk was OFFLINE. With table
memory clean, any press but FINISH closes the window, and one at a suspect seat or with a suspect occupant is
else ignored. PRESENT at the HELD seat of an ADMITTED candidate makes it OCCUPIED and the candidate SEATED, at
an OCCUPIED one ends a PAUSED clock's break with BREAK ENDED, at either else is ignored, and elsewhere is
UNEXPECTED PRESENT with red feedback; FINISH opens a window of 10 s, and in an open one is refused FINISH
REFUSED with amber feedback (reason coded as a reply's, the model's choice, log entry 9) or accepted as EARLY;
CALL at an OCCUPIED seat is offered, or counted while down; BREAK there is offered; a press elsewhere is
UNEXPECTED PRESS. An offer joins the list's tail with notice CALL, turns the seat's entry to CALL, or, at 64
entries, gives CALL LIST FULL and red feedback.
Spec: 6.1 The desk table and the poll list; 6.2 Desk states; 6.3 Buttons and presses; 6.4 The call list; 5.9
Finishing; 2.5 PRESENT presses; 5.8 Breaks. -/
def Obligations.DeskReplyIsTaken : Prop :=
  (∀ (s : State) (hi lo b q ck : Byte) (a : Nat) (d : Desk), s.calm = true →
      s.dbc.exchange = some ⟨a, false, false⟩ → s.desk? a = some d →
      let reply : Instr := .deskReply hi lo b q ck
      let raw : Buttons := ⟨b.getLsbD 0, b.getLsbD 1, b.getLsbD 2, b.getLsbD 3⟩
      let levels := raw.sensed s.dbc.inverted
      (hi + lo + b + q + ck ≠ 0 ∨ hi.toNat * 256 + lo.toNat ≠ a →
        exec reply s = .next { s with dbc := { s.dbc with exchange := some ⟨a, true, false⟩ } })
      ∧ (hi + lo + b + q + ck = 0 → hi.toNat * 256 + lo.toNat = a →
        let after (k : Desk) : State := { s with dbc := { (s.withDesk a k).dbc with exchange := none } }
        (d.state = .offline → exec reply s = .next (after { d with
          state := .quiet, cause := some .returned, misses := 0, levels := levels, expected := !(q.getLsbD 0),
          ack := !d.ack, resample := false }))
        ∧ (d.state = .quiet → d.resample = true ∨ q.getLsbD 0 ≠ d.expected → exec reply s = .next (after { d with
          misses := 0, levels := levels, expected := !(q.getLsbD 0), ack := !d.ack, resample := false }))
        ∧ (d.state = .online → q.getLsbD 0 = d.expected → d.longPress = none →
          pressesOf s.dbc.inverted ⟨b.getLsbD 4, b.getLsbD 5, b.getLsbD 6, b.getLsbD 7⟩ d.levels levels = [] →
          exec reply s = .next (after { d with
            misses := 0, levels := levels, presses := [], ack := !d.ack, expected := !d.expected }))
        ∧ (d.state = .online → q.getLsbD 0 = d.expected → d.longPress = none → s.dbc.inverted = .none → b = 16#8 →
          s.clean = true → ∀ n r k x, s.seatOfDesk a = some n → s.seat? n = some r → r.suspect = false →
          r.state = .held → r.occupant = some k → r.desk = some a → s.slot? k = some x → x.suspect = false →
          x.cand.state = .admitted →
          ∃ (t : State) (y : Slot), exec reply s = .next t ∧ t.seat? n = some { r with state := .occupied, used := true }
            ∧ (∀ m, m ≠ n → t.seat? m = s.seat? m) ∧ t.slot? k = some y ∧ y.clock = x.clock
            ∧ y.cand = { x.cand with state := .seated, walk := none } ∧ (∀ j, j ≠ k → t.slot? j = s.slot? j)
            ∧ t.desk? a = some { d with misses := 0, levels := .none, presses := [], window := none, ack := !d.ack,
                                        expected := !d.expected }
            ∧ t.sli = s.sli ∧ t.ssu = s.ssu ∧ t.sal = s.sal ∧ t.clu = s.clu ∧ t.dbc.calls = s.dbc.calls)
        ∧ (d.state = .quiet → d.resample = false → q.getLsbD 0 = d.expected → d.longPress = none →
          pressesOf s.dbc.inverted ⟨b.getLsbD 4, b.getLsbD 5, b.getLsbD 6, b.getLsbD 7⟩ d.levels levels = [] →
          let told (u : State) : State := if d.cause = some .returned then
            notify .deskOnline (u16 a :: s.labelFields (s.seatOfDesk a)) u else u
          exec reply s = .next (retryTrigger (told (after { d with
            state := .online, cause := none, announced := d.announced || d.cause == some .returned, misses := 0
            levels := levels, presses := [], ack := !d.ack, expected := !d.expected }))))
        ∧ (d.state = .online → q.getLsbD 0 ≠ d.expected → exec reply s =
          .next (notify .deskRestarted (u16 a :: s.labelFields (s.seatOfDesk a)) (after { d with
            misses := 0, levels := levels, expected := !(q.getLsbD 0), ack := !d.ack, resample := false
            longPress := none, window := none })))
        ∧ (d.state = .offline ∨ s.fcu.level ≠ .record →
          exec reply { s with dbc := { s.dbc with exchange := some ⟨a, true, false⟩ } } = exec reply s)
        ∧ (d.state = .online → q.getLsbD 0 = d.expected → d.longPress = none → s.fcu.level = .record →
          s.fcu.capture = none → s.mru.marker = none →
          pressesOf s.dbc.inverted ⟨b.getLsbD 4, b.getLsbD 5, b.getLsbD 6, b.getLsbD 7⟩ d.levels levels = [] →
          let found : FaultReport := ⟨.desk, .desk, some a, .corrected, s.htb.time⟩
          exec reply { s with dbc := { s.dbc with exchange := some ⟨a, true, false⟩ } } =
            .next (notify .fault [u8 1, u8 3, o16 (some a), u8 0, u24 s.htb.time] { after { d with
              misses := 0, levels := levels, presses := [], ack := !d.ack, expected := !d.expected } with
                fcu := { s.fcu with capture := some found } })))
      ∧ (hi + lo + b + q + ck = 0 → hi.toNat * 256 + lo.toNat = a → d.state = .online → q.getLsbD 0 = d.expected →
        s.dbc.inverted = .none → s.clean = true → ∀ n r, s.seatOfDesk a = some n → s.seat? n = some r → r.suspect = false →
        (∀ k x, r.occupant = some k → s.slot? k = some x → x.suspect = false) →
        let after (k : Desk) : State := { s with dbc := { (s.withDesk a k).dbc with exchange := none } }
        let idle : Desk := { d with
          misses := 0, levels := .none, presses := [], window := none, ack := !d.ack, expected := !d.expected }
        (d.longPress = none → b = 32#8 →
          (r.occupant = none → exec reply s = .next (notify .unexpectedPress
            (labelFields (some (labelOf r)) ++ [u8 1, u8 r.state.ctorIdx]) (after { idle with window := d.window })))
          ∧ ∀ k x, r.occupant = some k → s.slot? k = some x →
            (d.window = none → exec reply s = .next (after { idle with window := some 10 }))
            ∧ ∀ w, d.window = some w →
              let refusedFinish (why : Nat) : Prop := exec reply s =
                .next (notify .finishRefused (labelFields (some (labelOf r)) ++ [u8 why])
                  (after { idle with feedback := some ⟨⟨.amber, .fast⟩, 3⟩ }))
              (x.clock.state = .stopped ∨ x.clock.state = .expired → refusedFinish 9)
              ∧ (x.clock.state = .none ∨ x.clock.state = .reading ∨ x.clock.state = .held → refusedFinish 3)
              ∧ ∀ p, x.clock.state = .running ∨ x.clock.state = .paused → s.paper? x.cand.paper = some p →
                (p.elapsed < 60 * p.blackFirst ∨ x.clock.remaining ≤ 60 * p.blackLast → refusedFinish 10)
                ∧ (60 * p.blackFirst ≤ p.elapsed → 60 * p.blackLast < x.clock.remaining →
                  exec reply s = .next (acceptFinish k .early (after idle))))
        ∧ (d.longPress = none → b = 64#8 →
          (r.state = .occupied → exec reply s = .next (offerCall a n .call (after idle)))
          ∧ (r.state ≠ .occupied → exec reply s = .next (notify .unexpectedPress
            (labelFields (some (labelOf r)) ++ [u8 2, u8 r.state.ctorIdx]) (after idle))))
        ∧ (d.longPress = none → b = 68#8 → r.state = .occupied → exec reply s =
          .next (after { idle with levels := ⟨false, false, true, false⟩, longPress := some 1 }))
        ∧ (d.longPress = none → b = 128#8 →
          (r.state = .occupied → exec reply s = .next (offerCall a n .breakRequest (after idle)))
          ∧ (r.state ≠ .occupied → exec reply s = .next (notify .unexpectedPress
            (labelFields (some (labelOf r)) ++ [u8 3, u8 r.state.ctorIdx]) (after idle))))
        ∧ (d.longPress = none → b = 16#8 →
          (∀ k x, r.state = .occupied → r.occupant = some k → s.slot? k = some x →
            (x.clock.state = .paused → exec reply s = .next (notify .breakEnded
              ([u16 k] ++ labelFields (some (labelOf r)) ++ [u16 x.clock.budget])
              ((after idle).withSlot k x.cand { x.clock with state := .running })))
            ∧ (x.clock.state ≠ .paused → exec reply s = .next (after idle)))
          ∧ (∀ k x, r.state = .held → r.occupant = some k → s.slot? k = some x → x.cand.state ≠ .admitted →
            exec reply s = .next (after idle))
          ∧ (r.state = .free ∨ r.state = .vacated ∨ r.state = .unavailable → exec reply s =
            .next (notify .unexpectedPresent (labelFields (some (labelOf r)) ++ [u8 r.state.ctorIdx])
              (after { idle with feedback := some ⟨⟨.red, .fast⟩, 5⟩ }))))
        ∧ ∀ c, d.longPress = some c →
          let still : Desk := { idle with window := d.window }
          let down : Desk := { still with levels := ⟨false, false, true, false⟩ }
          (b = 4#8 → d.levels.call = true →
            (c < 3 → exec reply s = .next (after { down with longPress := some (c + 1) }))
            ∧ (c = 3 → exec reply s = .next (offerCall a n .booklet (after { down with longPress := some 4 })))
            ∧ (3 < c → exec reply s = .next (after down)))
          ∧ (b = 0#8 →
            (c < 4 → exec reply s = .next (offerCall a n .call (after { still with longPress := none })))
            ∧ (4 ≤ c → exec reply s = .next (after { still with longPress := none })))
          ∧ (b = 68#8 → r.state = .occupied → c ≠ 3 → exec reply s =
            .next (after { idle with levels := ⟨false, false, true, false⟩, longPress := some 1 }))
          ∧ (b = 64#8 → r.state = .occupied → 4 ≤ c → exec reply s =
            .next (offerCall a n .call (after { idle with longPress := none })))))
    ∧ (∀ (s : State) (a n : Nat) (why : CallReason),
    ((∃ c ∈ s.dbc.calls, c.seat = n) →
      (why = .call → offerCall a n why s = notify .call (s.labelFields (some n) ++ [u8 0]) { s with dbc := { s.dbc with
        calls := s.dbc.calls.map fun c => if c.seat = n then { c with reason := .call } else c } })
      ∧ (why ≠ .call → offerCall a n why s = s))
    ∧ ((∀ c ∈ s.dbc.calls, c.seat ≠ n) →
      (s.dbc.calls.length < 64 → offerCall a n why s = notify .call (s.labelFields (some n) ++ [u8 why.ctorIdx])
        { s with dbc := { s.dbc with calls := s.dbc.calls ++ [⟨n, why, s.htb.time⟩] } })
      ∧ ∀ d, 64 ≤ s.dbc.calls.length → s.desk? a = some d → offerCall a n why s =
        notify .callListFull (s.labelFields (some n) ++ [u8 why.ctorIdx])
          (s.withDesk a { d with feedback := some ⟨⟨.red, .fast⟩, 3⟩ })))
    ∧ (∀ (inverted latches last levels : Buttons) (k : Button),
      (k ∈ pressesOf inverted latches last levels ↔
        (inverted.get k = false ∧ (latches.get k = true ∨ (last.get k = false ∧ levels.get k = true))
          ∨ inverted.get k = true ∧ last.get k = false ∧ (latches.get k = true ∨ levels.get k = true)))
      ∧ (pressesOf inverted latches last levels).Sublist [.present, .finish, .call, .breakKey]
      ∧ (levels.sensed inverted).get k = (levels.get k != inverted.get k))
    ∧ (∀ (s : State) (hi lo b q ck : Byte) (a : Nat) (d : Desk), s.calm = true → s.dbc.exchange = some ⟨a, false, false⟩ →
      s.desk? a = some d → hi + lo + b + q + ck = 0 → hi.toNat * 256 + lo.toNat = a → q.getLsbD 0 = d.expected →
      let raw : Buttons := ⟨b.getLsbD 0, b.getLsbD 1, b.getLsbD 2, b.getLsbD 3⟩
      let levels := raw.sensed s.dbc.inverted
      let presses := pressesOf s.dbc.inverted ⟨b.getLsbD 4, b.getLsbD 5, b.getLsbD 6, b.getLsbD 7⟩ d.levels levels
      let after (k : Desk) : State := { s with dbc := { (s.withDesk a k).dbc with exchange := none } }
      let accepted : Desk := { d with
        misses := 0, levels := levels, presses := presses, ack := !d.ack, expected := !d.expected }
      let handedOn (u : State) : State :=
        presses.foldl (fun u k => handPress a levels k u) (countLongPress a levels.call u)
      (d.state = .online → exec (.deskReply hi lo b q ck) s = .next (handedOn (after accepted)))
      ∧ (d.state = .quiet → d.resample = false →
        let told (u : State) : State := if d.cause = some .returned then
          notify .deskOnline (u16 a :: s.labelFields (s.seatOfDesk a)) u else u
        exec (.deskReply hi lo b q ck) s = .next (handedOn (retryTrigger (told (after { accepted with
          state := .online, cause := none, announced := d.announced || d.cause == some .returned }))))))
    ∧ (∀ (u : State) (a n : Nat) (d : Desk) (level : Bool), u.desk? a = some d → u.seatOfDesk a = some n →
      let counted (c : Option Nat) : State := u.withDesk a { d with longPress := c }
      (d.longPress = none → countLongPress a level u = u)
      ∧ ∀ c, d.longPress = some c →
        (level = true → (c < 3 → countLongPress a level u = counted (some (c + 1)))
          ∧ (c = 3 → countLongPress a level u = offerCall a n .booklet (counted (some 4)))
          ∧ (3 < c → countLongPress a level u = u))
        ∧ (level = false → (c < 4 → countLongPress a level u = offerCall a n .call (counted none))
          ∧ (4 ≤ c → countLongPress a level u = counted none)))
    ∧ ∀ (u : State) (a n : Nat) (levels : Buttons) (k : Button) (d : Desk) (r : Seat), u.clean = true →
      u.desk? a = some d → u.seatOfDesk a = some n → u.seat? n = some r →
      let v : Desk := { d with presses := d.presses.drop 1, window := if k = .finish then d.window else none }
      (r.suspect = true ∨ (∃ j x, r.occupant = some j ∧ u.slot? j = some x ∧ x.suspect = true) →
        handPress a levels k u = u.withDesk a v)
      ∧ (r.suspect = false → (∀ j x, r.occupant = some j → u.slot? j = some x → x.suspect = false) →
        k = .call → r.state = .occupied →
        (levels.call = true → handPress a levels k u = u.withDesk a { v with longPress := some 1 })
        ∧ (levels.call = false → handPress a levels k u =
          offerCall a n .call (u.withDesk a { v with longPress := none })))

/-- For a desk whose address a seat names: AMBER fast for a suspect seat; else the override, else the feedback,
else RED fast while a finish window is open, else AMBER slow during a warning, else AMBER steady for an
occupant on a break or held from one, RED steady for a FINISHED occupant, GREEN slow for a HELD seat, GREEN
steady for an OCCUPIED one, and OFF otherwise; the first that holds. An occupant held from READING or RUNNING
is no break, and of a suspect occupant's record nothing is read, so its seat's state decides.
Spec: 6.5 Lamps. -/
def Obligations.LampTable : Prop :=
  ∀ (s : State) (a n : Nat) (d : Desk) (t : Seat), s.desk? a = some d → s.seatOfDesk a = some n → s.seat? n = some t →
    (t.suspect = true → s.lampPending a = ⟨.amber, .fast⟩)
    ∧ (t.suspect = false →
      (∀ i, d.override = some i → s.lampPending a = i.pattern)
      ∧ (∀ i, d.override = none → d.feedback = some i → s.lampPending a = i.pattern)
      ∧ (∀ w, d.override = none → d.feedback = none → d.window = some w → s.lampPending a = ⟨.red, .fast⟩)
      ∧ (∀ w, d.override = none → d.feedback = none → d.window = none → d.warning = some w →
        s.lampPending a = ⟨.amber, .slow⟩)
      ∧ (d.override = none → d.feedback = none → d.window = none → d.warning = none →
        (∀ k x, t.occupant = some k → s.slot? k = some x → x.suspect = false →
          (x.clock.state = .paused ∨ (x.clock.state = .held ∧ x.clock.before = some .paused) →
            s.lampPending a = ⟨.amber, .steady⟩)
          ∧ (x.clock.state ≠ .paused → ¬ (x.clock.state = .held ∧ x.clock.before = some .paused) →
            (x.cand.state = .finished → s.lampPending a = ⟨.red, .steady⟩)
            ∧ (x.cand.state ≠ .finished → t.state = .held → s.lampPending a = ⟨.green, .slow⟩)
            ∧ (x.cand.state ≠ .finished → t.state = .occupied → s.lampPending a = ⟨.green, .steady⟩)))
        ∧ (∀ k x, t.occupant = some k → s.slot? k = some x → x.suspect = true →
          (t.state = .held → s.lampPending a = ⟨.green, .slow⟩)
          ∧ (t.state = .occupied → s.lampPending a = ⟨.green, .steady⟩)
          ∧ (t.state ≠ .held → t.state ≠ .occupied → (s.lampPending a).colour = .off))
        ∧ (t.occupant = none → t.state = .free ∨ t.state = .vacated ∨ t.state = .unavailable →
          (s.lampPending a).colour = .off)))

/-- On a link ready for a request: COLLECTOR ON is refused BAD VALUE (a zone set of more than 8 items too, the
model's choice, log entry 60), then WRONG STATE for a collector WAITING or in ROUND, and otherwise makes it
IDLE with its zone set, its round size clamped to 1 to 12 and its timeout to 60 to 1,800 (8 and 300 where
absent), replying all three. TAKE ROUND is refused BAD VALUE for a collector or a zone outside 0 to 7, NOT
FOUND for an undefined zone, WRONG STATE unless IDLE and CONFLICT for a zone not its own; with both rings of
the zone empty the collector becomes WAITING at the tail of the waiter list (its reply carrying an absent
timer, the model's layout, log entry 9), otherwise it gets a round taken from the top of the urgent ring first
and then of the main ring, up to its size, with its timer set, and what it does not take stays in its ring;
the other zones' rings and the other collectors are unchanged, no notice is sent and nothing else changes.
COLLECTOR OFF leaves the collector OFF with its first
values and replies the seats of its round: a WAITING one leaves the zone's waiter list; one in ROUND gives its
entries back to the top of the zone's urgent ring in round order, and the collectors that wait there, its
rings empty, are then offered rounds: the first is in ROUND with up to its size of them and its timer set,
with notice ROUND OFFERED; whatever waits and whatever the rings hold, the offers are those RoundTimesOut
states one after another (`ringJoined`). The seats go without labels (the model's choice, log entry 9).
Spec: 7.3 Collectors; 7.4 Taking rounds; 7.7 Stopping a collector. -/
def Obligations.CollectorRequests : Prop :=
  (∀ (s : State) (c : Nat), s.ready = true →
      (∀ l n t, 8 ≤ c ∨ l = [] ∨ (∃ z ∈ l, 8 ≤ z) ∨ ¬ l.Nodup →
        exec (.collectorOn c l n t) s = .next (s.refused 96 .badValue))
      ∧ (∀ (l : List Nat) (n t : Option Nat), c < 8 → l ≠ [] → (∀ z ∈ l, z < 8) → l.Nodup →
        ((s.collectorOf c).state = .waiting ∨ (s.collectorOf c).state = .round →
          exec (.collectorOn c l n t) s = .next (s.refused 96 .wrongState))
        ∧ ((s.collectorOf c).state = .off ∨ (s.collectorOf c).state = .idle →
          let size := max 1 (min 12 (n.getD 8))
          let timeout := max 60 (min 1800 (t.getD 300))
          exec (.collectorOn c l n t) s = .next ((setCollector c { s.collectorOf c with
              state := .idle, zones := l, size := size, timeout := timeout } s).repliedClamped 96
                (size != n.getD 8 || timeout != t.getD 300)
                (u8 l.length :: l.map u8 ++ [u8 size, u16 timeout]))))
      ∧ (8 ≤ c → exec (.collectorOff c) s = .next (s.refused 97 .badValue)
        ∧ ∀ z, exec (.takeRound c z) s = .next (s.refused 98 .badValue))
      ∧ (c < 8 → (s.collectorOf c).state = .off ∨ (s.collectorOf c).state = .idle →
        exec (.collectorOff c) s = .next ((setCollector c ⟨.off, [], 8, 300, none, [], none, []⟩ s).replied 97
          (listField (fun e : Entry => [u16 e.seat]) (s.collectorOf c).round)))
      ∧ (∀ z, c < 8 → (s.collectorOf c).state = .waiting → (s.collectorOf c).zone = some z → (s.collectorOf c).round = [] →
        exec (.collectorOff c) s = .next ((setRings z { s.ringsOf z with
            waiters := (s.ringsOf z).waiters.filter (· != c) }
          (setCollector c ⟨.off, [], 8, 300, none, [], none, []⟩ s)).replied 97 [u8 0]))
      ∧ (∀ z, c < 8 → (s.collectorOf c).state = .round → (s.collectorOf c).zone = some z →
        let l := (s.collectorOf c).round
        let seats : List Field := u8 l.length :: l.map fun e => u16 e.seat
        ((s.ringsOf z).waiters = [] → ∃ t : State, exec (.collectorOff c) s = .next (t.replied 97 seats)
          ∧ t.ringsOf z = { s.ringsOf z with urgent := l ++ (s.ringsOf z).urgent } ∧ (∀ y, y ≠ z → t.ringsOf y = s.ringsOf y)
          ∧ t.collectorOf c = ⟨.off, [], 8, 300, none, [], none, []⟩
          ∧ (∀ d, d ≠ c → t.collectorOf d = s.collectorOf d) ∧ t.sli = s.sli ∧ t.hmu = s.hmu ∧ t.rsu = s.rsu)
        ∧ ∀ d ws, s.ringsOf z = ⟨[], [], d :: ws⟩ → d ≠ c → l ≠ [] → 1 ≤ (s.collectorOf d).size →
          ws = [] ∨ l.length ≤ (s.collectorOf d).size → s.sli.notices.length < 64 →
          ∃ t : State, exec (.collectorOff c) s = .next (t.replied 97 seats)
            ∧ t.ringsOf z = ⟨l.drop (s.collectorOf d).size, [], ws⟩ ∧ (∀ y, y ≠ z → t.ringsOf y = s.ringsOf y)
            ∧ t.collectorOf c = ⟨.off, [], 8, 300, none, [], none, []⟩
            ∧ t.collectorOf d = { s.collectorOf d with
                state := .round, zone := some z, round := l.take (s.collectorOf d).size
                timer := some (s.collectorOf d).timeout }
            ∧ (∀ b, b ≠ c → b ≠ d → t.collectorOf b = s.collectorOf b)
            ∧ t.sli = { s.sli with notices := s.sli.notices ++
                [⟨.roundOffered, s.htb.time, [u8 d, u8 z] ++ t.roundFields d⟩] }
            ∧ t.hmu = s.hmu ∧ t.rsu = s.rsu)
      ∧ ∀ z, c < 8 → z < 8 →
        (s.zone? z = none → exec (.takeRound c z) s = .next (s.refused 98 .notFound))
        ∧ ((s.zone? z).isSome = true →
          ((s.collectorOf c).state ≠ .idle → exec (.takeRound c z) s = .next (s.refused 98 .wrongState))
          ∧ ((s.collectorOf c).state = .idle → z ∉ (s.collectorOf c).zones →
            exec (.takeRound c z) s = .next (s.refused 98 .conflict))
          ∧ ((s.collectorOf c).state = .idle → z ∈ (s.collectorOf c).zones →
            ((s.ringsOf z).urgent = [] → (s.ringsOf z).main = [] → ∃ t : State,
              exec (.takeRound c z) s = .next (t.replied 98 (u8 2 :: t.roundFields c))
              ∧ t.collectorOf c = { s.collectorOf c with state := .waiting, zone := some z, expired := [] }
              ∧ t.ringsOf z = ⟨[], [], (s.ringsOf z).waiters ++ [c]⟩ ∧ (∀ y, y ≠ z → t.ringsOf y = s.ringsOf y)
              ∧ (∀ d, d ≠ c → t.collectorOf d = s.collectorOf d) ∧ { t with clu := s.clu } = s)
            ∧ ((s.ringsOf z).urgent ≠ [] ∨ (s.ringsOf z).main ≠ [] → ∃ t : State,
              let size := (s.collectorOf c).size
              let u := (s.ringsOf z).urgent
              let m := (s.ringsOf z).main
              exec (.takeRound c z) s = .next (t.replied 98 (u8 3 :: t.roundFields c))
              ∧ t.collectorOf c = { s.collectorOf c with
                  state := .round
                  zone := some z
                  expired := []
                  round := (u ++ m).take size, timer := some (s.collectorOf c).timeout }
              ∧ t.ringsOf z = ⟨u.drop size, m.drop (size - u.length), (s.ringsOf z).waiters⟩
              ∧ (∀ y, y ≠ z → t.ringsOf y = s.ringsOf y)
              ∧ (∀ d, d ≠ c → t.collectorOf d = s.collectorOf d) ∧ { t with clu := s.clu } = s))))
    ∧ (∀ (s : State) (c z : Nat), s.ready = true → c < 8 →
    (8 ≤ z → exec (.takeRound c z) s = .next (s.refused 98 .badValue))
    ∧ ((s.collectorOf c).state = .round → (s.collectorOf c).zone = some z →
      let l := (s.collectorOf c).round
      exec (.collectorOff c) s = .next ((ringJoined z
        (setCollector c ⟨.off, [], 8, 300, none, [], none, []⟩
          (setRings z { s.ringsOf z with urgent := l ++ (s.ringsOf z).urgent } s))).replied 97
            (u8 l.length :: l.map fun e => u16 e.seat))))

/-- On a link ready for a request: DEFER is refused BAD VALUE, WRONG STATE for an OFF collector and NOT IN
ROUND or ROUND EXPIRED for a seat not in its round; otherwise the entry leaves the round for the bottom of the
zone's main ring, and an emptied round makes the collector IDLE; where collectors wait in the zone, its rings
empty, the first of them leaves the waiter list and is in ROUND with that entry and its timer set, with notice
ROUND OFFERED; whatever waits and whatever the rings hold, the offers are those RoundTimesOut states one after
another (`ringJoined`). COLLECT DIRECT, with table memory clean, is refused BAD VALUE, NOT FOUND, SUSPECT and
WRONG STATE, and otherwise makes the unseated FINISHED candidate COLLECTED with the booklets returned clamped
to 8, its discrepancy mark set where they differ from those issued and kept where it was set, and notice
DISCREPANCY where they differ, its absent seat with a label of 7 bytes of all ones (the model's choice, log
entry 7); then, where the paper is CLOSED and none of its readable candidates is FINISHED any longer, PAPER
COLLECTED with the returned total (a COLLECTED candidate with none recorded counted as 0, the model's choice,
log entry 70) and the discrepancy count. No other notice is sent, and of the other state only that slot
changes.
Spec: 7.6 Confirming collection; 7.8 Unseated finishers; 7.2 Booklet counts; 7.4 Taking rounds; 7.10
Reconciliation. -/
def Obligations.DeferAndDirectCollection : Prop :=
  (∀ s : State, s.ready = true →
      (∀ c n, (8 ≤ c ∨ 511 < n → exec (.defer c n) s = .next (s.refused 100 .badValue))
        ∧ (c < 8 → n ≤ 511 →
          ((s.collectorOf c).state = .off → exec (.defer c n) s = .next (s.refused 100 .wrongState))
          ∧ ((s.collectorOf c).state ≠ .off → (∀ e ∈ (s.collectorOf c).round, e.seat ≠ n) →
            exec (.defer c n) s =
              .next (s.refused 100 (if n ∈ (s.collectorOf c).expired then .roundExpired else .notInRound)))
          ∧ ∀ e z, (s.collectorOf c).state = .round → (s.collectorOf c).zone = some z →
            (s.collectorOf c).round.find? (fun e => e.seat == n) = some e → (s.ringsOf z).waiters = [] →
            ∃ t : State, exec (.defer c n) s = .next (t.replied 100 [u8 (t.collectorOf c).state.ctorIdx])
              ∧ t.ringsOf z = { s.ringsOf z with main := (s.ringsOf z).main ++ [e] }
              ∧ (t.collectorOf c).round = (s.collectorOf c).round.filter (fun x => x.slot != e.slot)
              ∧ ((t.collectorOf c).state = .idle ↔ (t.collectorOf c).round = [])
              ∧ (∀ d, d ≠ c → t.collectorOf d = s.collectorOf d) ∧ t.hmu = s.hmu ∧ t.rsu = s.rsu ∧ t.ssu = s.ssu)
        ∧ ∀ e z d ws, c < 8 → n ≤ 511 → (s.collectorOf c).state = .round → (s.collectorOf c).zone = some z →
          (s.collectorOf c).round.find? (fun e => e.seat == n) = some e → s.ringsOf z = ⟨[], [], d :: ws⟩ → d ≠ c →
          1 ≤ (s.collectorOf d).size → s.sli.notices.length < 64 →
          ∃ t : State, exec (.defer c n) s = .next (t.replied 100 [u8 (t.collectorOf c).state.ctorIdx])
            ∧ t.ringsOf z = ⟨[], [], ws⟩
            ∧ (t.collectorOf c).round = (s.collectorOf c).round.filter (fun x => x.slot != e.slot)
            ∧ ((t.collectorOf c).state = .idle ↔ (t.collectorOf c).round = [])
            ∧ t.collectorOf d = { s.collectorOf d with
                state := .round, zone := some z, round := [e], timer := some (s.collectorOf d).timeout }
            ∧ (∀ b, b ≠ c → b ≠ d → t.collectorOf b = s.collectorOf b)
            ∧ t.sli = { s.sli with notices := s.sli.notices ++
                [⟨.roundOffered, s.htb.time, [u8 d, u8 z] ++ t.roundFields d⟩] }
            ∧ t.hmu = s.hmu ∧ t.rsu = s.rsu ∧ t.ssu = s.ssu)
      ∧ ∀ k v, s.clean = true →
        (576 ≤ k → exec (.collectDirect k v) s = .next (s.refused 101 .badValue))
        ∧ (k < 576 → s.slot? k = none → exec (.collectDirect k v) s = .next (s.refused 101 .notFound))
        ∧ ∀ x, k < 576 → s.slot? k = some x →
          (x.suspect = true → exec (.collectDirect k v) s = .next (s.refused 101 .suspect))
          ∧ (x.suspect = false → x.cand.state ≠ .finished ∨ x.cand.seat.isSome = true →
            exec (.collectDirect k v) s = .next (s.refused 101 .wrongState))
          ∧ (x.suspect = false → x.cand.state = .finished → x.cand.seat = none → ∃ (t : State) (y : Slot),
            exec (.collectDirect k v) s = .next (t.repliedClamped 101 (8 < v)
              [u32 x.cand.number, u8 x.cand.issued, u8 (min v 8), flag (min v 8 != x.cand.issued)])
            ∧ t.slot? k = some y ∧ y.clock = x.clock
            ∧ y.cand = { x.cand with state := .collected, returned := some (min v 8),
                                     discrepancy := x.cand.discrepancy || min v 8 != x.cand.issued }
            ∧ (∀ j, j ≠ k → t.slot? j = s.slot? j) ∧ t.hmu = s.hmu ∧ t.clu = s.clu ∧ t.ssu = s.ssu
            ∧ (min v 8 ≠ x.cand.issued → s.sli.notices.length < 64 →
                ∃ rest, t.sli.notices = s.sli.notices ++ ⟨.discrepancy, s.htb.time,
                  [u16 k, u32 x.cand.number, u8 x.cand.paper, o16 none] ++ labelFields none
                    ++ [u8 x.cand.issued, u8 (min v 8)]⟩ :: rest)))
    ∧ (∀ (s : State) (c n z : Nat) (e : Entry), s.ready = true → c < 8 → n ≤ 511 → (s.collectorOf c).state = .round →
    (s.collectorOf c).zone = some z → (s.collectorOf c).round.find? (fun e => e.seat == n) = some e →
    let k := s.collectorOf c
    let l := k.round.filter fun x => x.slot != e.slot
    let k' : Collector := if l = [] then { k with state := .idle, zone := none, round := [], timer := none } else { k with round := l }
    let t := ringJoined z (setCollector c k' (setRings z { s.ringsOf z with main := (s.ringsOf z).main ++ [e] } s))
    exec (.defer c n) s = .next (t.replied 100 [u8 (t.collectorOf c).state.ctorIdx]))
    ∧ ∀ (s : State) (k v : Nat) (x : Slot), s.ready = true → s.clean = true → s.tablesSorted = true → k < 576 →
      s.slot? k = some x → x.suspect = false → x.cand.state = .finished → x.cand.seat = none → s.sli.notices.length + 1 < 64 →
      let n := min v 8
      let p := x.cand.paper
      let others := s.rsu.slots.filter fun y => y.1 != k && !y.2.suspect && y.2.shadow.paper == some p
      let collected := others.filter fun y => y.2.cand.state == .collected
      let differs := n != x.cand.issued
      let said : List Notice :=
        (if differs then [⟨.discrepancy, s.htb.time, [u16 k, u32 x.cand.number, u8 p, o16 none] ++ labelFields none
          ++ [u8 x.cand.issued, u8 n]⟩] else [])
        ++ (if (s.paper? p).map (·.state) = some .closed ∧ ∀ y ∈ others, y.2.cand.state ≠ .finished then
          [⟨.paperCollected, s.htb.time, [u8 p, u16 ((collected.map fun y => y.2.cand.returned.getD 0).sum + n),
            u16 ((collected.filter (·.2.cand.discrepancy)).length + (x.cand.discrepancy || differs).toNat)]⟩] else [])
      ∃ t : State, exec (.collectDirect k v) s = .next (t.repliedClamped 101 (8 < v)
          [u32 x.cand.number, u8 x.cand.issued, u8 n, flag differs])
        ∧ { t with rsu := s.rsu } = { s with sli := { s.sli with notices := s.sli.notices ++ said } }

/-- While a CONFIRM record is being taken, with nothing due, the reply list short of 8 and table memory clean:
an entry whose own check fails stops the record; a seat number above 511 is refused BAD VALUE; an entry for an
OFF collector WRONG STATE; a seat not in the round NOT IN ROUND or ROUND EXPIRED; one whose seat or candidate
is suspect SUSPECT, whatever became of the other, and one whose seat is gone or neither HELD nor OCCUPIED or
whose candidate is not FINISHED WRONG STATE; an entry of the round whose seat is HELD or OCCUPIED by its
FINISHED candidate makes the seat VACATED with its last paper kept, the candidate COLLECTED with no seat and
its booklets returned, the discrepancy mark set where they differ from those expected and kept where it was
set, takes the entry out of the round, and reports slot, expected, returned and discrepancy. The round's other
entries keep their order, and an emptied round makes the collector IDLE with round zone and timer absent. A
seat that was OCCUPIED loses its call. Notice DISCREPANCY follows where the counts differ, and then, where the
paper is CLOSED and none of its candidates is FINISHED any longer, PAPER COLLECTED with the returned total (a
COLLECTED candidate with none recorded counted as 0, the model's choice, log entry 70) and the discrepancy
count.
Spec: 7.6 Confirming collection; 7.2 Booklet counts; 10.3 Batch records; 7.10 Reconciliation; 6.4 The call
list. -/
def Obligations.ConfirmationCollectsAScript : Prop :=
  (∀ (s : State) (b : Batch) (t : BatchTaken) (c n v : Nat),
      s.calm = true → s.clean = true → s.deaf = false → s.sli.receive = .inBatch b false → b.header = .confirm c →
      4 ≤ b.left → s.sli.taken = some (.batch t) → t.header = .confirm c → t.stopped = false → t.refusal = none → c < 8 →
      let after (t' : BatchTaken) : State := { s with sli := { s.sli with
        receive := .inBatch { b with left := b.left - 4 } false, taken := some (.batch t') } }
      let noted (r : Answer) : BatchTaken := { t with answers := t.answers ++ [r] }
      let refusedEntry (r : Reason) : Host.Outcome State Fault Refusal := .next (after (noted ⟨.refused, r, []⟩))
      exec (.confirmEntry n v false) s = .next (after { t with stopped := true })
      ∧ (511 < n → exec (.confirmEntry n v true) s = refusedEntry .badValue)
      ∧ (n ≤ 511 →
        ((s.collectorOf c).state = .off → exec (.confirmEntry n v true) s = refusedEntry .wrongState)
        ∧ ((s.collectorOf c).state ≠ .off → (∀ e ∈ (s.collectorOf c).round, e.seat ≠ n) →
          exec (.confirmEntry n v true) s =
            refusedEntry (if n ∈ (s.collectorOf c).expired then .roundExpired else .notInRound))
        ∧ (∀ e, (s.collectorOf c).state ≠ .off → (s.collectorOf c).round.find? (fun e => e.seat == n) = some e →
          ((∃ r, s.seat? n = some r ∧ r.suspect = true) ∨ (∃ x, s.slot? e.slot = some x ∧ x.suspect = true) →
            exec (.confirmEntry n v true) s = refusedEntry .suspect)
          ∧ ((∀ x, s.slot? e.slot = some x → x.suspect = false) → s.seat? n = none →
            exec (.confirmEntry n v true) s = refusedEntry .wrongState))
        ∧ ∀ e r x, (s.collectorOf c).state = .round → (s.collectorOf c).round.find? (fun e => e.seat == n) = some e →
          s.seat? n = some r → s.slot? e.slot = some x →
          (r.suspect = true ∨ x.suspect = true → exec (.confirmEntry n v true) s = refusedEntry .suspect)
          ∧ (r.suspect = false → x.suspect = false → x.cand.state ≠ .finished ∨ (r.state ≠ .held ∧ r.state ≠ .occupied) →
            exec (.confirmEntry n v true) s = refusedEntry .wrongState)
          ∧ (r.suspect = false → x.suspect = false → x.cand.state = .finished → r.state = .held ∨ r.state = .occupied → ∃ (u : State) (y : Slot),
            exec (.confirmEntry n v true) s = .next u
            ∧ u.sli.taken = some (.batch (noted ⟨if 8 < v then .clamped else .done, .none,
                [u16 e.slot, u8 e.booklets, u8 (min v 8), flag (min v 8 != e.booklets)]⟩))
            ∧ u.seat? n = some { r with state := .vacated, occupant := none } ∧ (∀ m, m ≠ n → u.seat? m = s.seat? m)
            ∧ u.slot? e.slot = some y ∧ y.clock = x.clock
            ∧ y.cand = { x.cand with state := .collected, seat := none, returned := some (min v 8),
                                     discrepancy := x.cand.discrepancy || min v 8 != e.booklets }
            ∧ (∀ j, j ≠ e.slot → u.slot? j = s.slot? j)
            ∧ (u.collectorOf c).round = (s.collectorOf c).round.filter (fun w => w.slot != e.slot)
            ∧ u.clu.rings = s.clu.rings ∧ u.ssu = s.ssu ∧ u.htb = s.htb)))
    ∧ (∀ (s : State) (b : Batch) (t : BatchTaken) (c n v : Nat) (e : Entry) (r : Seat) (x : Slot),
    s.calm = true → s.clean = true → s.tablesSorted = true → s.deaf = false → s.sli.receive = .inBatch b false →
    b.header = .confirm c → 4 ≤ b.left → s.sli.taken = some (.batch t) → t.header = .confirm c → t.stopped = false →
    t.refusal = none → c < 8 → n ≤ 511 → (s.collectorOf c).state = .round →
    (s.collectorOf c).round.find? (fun e => e.seat == n) = some e → s.seat? n = some r → s.slot? e.slot = some x →
    r.suspect = false → x.suspect = false → x.cand.state = .finished → r.state = .held ∨ r.state = .occupied →
    s.sli.notices.length + 1 < 64 →
    let k := s.collectorOf c
    let l := k.round.filter fun w => w.slot != e.slot
    let p := x.cand.paper
    let others := s.rsu.slots.filter fun y => y.1 != e.slot && !y.2.suspect && y.2.shadow.paper == some p
    let collected := others.filter fun y => y.2.cand.state == .collected
    let differs := min v 8 != e.booklets
    let last := if x.cand.seat = none then none else x.cand.lastSeat
    let said : List Notice :=
      (if differs then [⟨.discrepancy, s.htb.time, [u16 e.slot, u32 x.cand.number, u8 p, o16 last] ++ s.labelFields last
        ++ [u8 e.booklets, u8 (min v 8)]⟩] else [])
      ++ (if (s.paper? p).map (·.state) = some .closed ∧ ∀ y ∈ others, y.2.cand.state ≠ .finished then
        [⟨.paperCollected, s.htb.time, [u8 p, u16 ((collected.map fun y => y.2.cand.returned.getD 0).sum + min v 8),
          u16 ((collected.filter (·.2.cand.discrepancy)).length + (x.cand.discrepancy || differs).toNat)]⟩] else [])
    ∃ u : State, exec (.confirmEntry n v true) s = .next u
      ∧ u.sli.notices = s.sli.notices ++ said ∧ u.sli.lost = s.sli.lost
      ∧ u.collectorOf c = (if l = [] then { k with state := .idle, zone := none, round := [], timer := none }
          else { k with round := l })
      ∧ (∀ d, d ≠ c → u.collectorOf d = s.collectorOf d)
      ∧ u.dbc.calls = (if r.state = .occupied then s.dbc.calls.filter (fun w => w.seat != n) else s.dbc.calls))

/-- Taken first among the steps made due: a round whose timer stands at 0 goes back to the top of the zone's
urgent ring in round order, its collector is IDLE with those seats as its expired list, and notice ROUND
EXPIRED carries collector, zone and seats; where collectors wait in the zone, its rings empty, the first of
them then leaves the waiter list and is in ROUND with up to its size of the entries and its timer set, with
notice ROUND OFFERED, the rest staying in the ring for the next. Whatever collectors wait and whatever the
rings hold, the offers of one step (`ringJoined`) go on one after another, each to the first waiter as the one
before left rings and list, with its round from the urgent ring first up to its own size, its timer and its
notice, until no waiter or no entry is left; a round timing out is followed by exactly these. ROUND EXPIRED
gives the seats without labels (the model's choice, log entry 9). Where the collector has no such round, the
rings are unchanged. Where the step is not among those due, whatever else is, the command has no effect (the
model's choice, log entry 3).
Spec: 7.5 Round time; 7.4 Taking rounds; 7.1 Rings and entries. -/
def Obligations.RoundTimesOut : Prop :=
  (((∀ (s : State) (c : Nat), .roundTimeout c ∉ s.due → exec (.roundTimeout c) s = .next s)
        ∧ (∀ (s : State) (rest : List Due) (c : Nat), s.due = .roundTimeout c :: rest → (s.collectorOf c).state ≠ .round →
          exec (.roundTimeout c) s = .next { s with due := rest })
        ∧ ∀ (s : State) (rest : List Due) (c z : Nat), s.due = .roundTimeout c :: rest → (s.collectorOf c).state = .round →
          (s.collectorOf c).timer = some 0 → (s.collectorOf c).zone = some z → (s.ringsOf z).waiters = [] →
          s.sli.notices.length < 64 →
          ∃ t : State, exec (.roundTimeout c) s = .next t ∧ t.due = rest
            ∧ t.ringsOf z = { s.ringsOf z with urgent := (s.collectorOf c).round ++ (s.ringsOf z).urgent }
            ∧ (∀ y, y ≠ z → t.ringsOf y = s.ringsOf y) ∧ (∀ d, d ≠ c → t.collectorOf d = s.collectorOf d)
            ∧ t.collectorOf c = { s.collectorOf c with state := .idle, zone := none, round := [], timer := none,
                                                       expired := (s.collectorOf c).round.map (·.seat) }
            ∧ t.sli = { s.sli with notices := s.sli.notices ++ [⟨.roundExpired, s.htb.time,
                [u8 c, u8 z, u8 (s.collectorOf c).round.length] ++ (s.collectorOf c).round.map fun e => u16 e.seat⟩] }
            ∧ t.hmu = s.hmu ∧ t.rsu = s.rsu ∧ t.ssu = s.ssu)
      ∧ (∀ (s : State) (rest : List Due) (c z d : Nat) (ws : List Nat), s.due = .roundTimeout c :: rest →
      (s.collectorOf c).state = .round → (s.collectorOf c).timer = some 0 → (s.collectorOf c).zone = some z →
      s.ringsOf z = ⟨[], [], d :: ws⟩ → d ≠ c → (s.collectorOf c).round ≠ [] → 1 ≤ (s.collectorOf d).size →
      ws = [] ∨ (s.collectorOf c).round.length ≤ (s.collectorOf d).size → s.sli.notices.length + 1 < 64 →
      let l := (s.collectorOf c).round
      ∃ t : State, exec (.roundTimeout c) s = .next t ∧ t.due = rest
        ∧ t.ringsOf z = ⟨l.drop (s.collectorOf d).size, [], ws⟩ ∧ (∀ y, y ≠ z → t.ringsOf y = s.ringsOf y)
        ∧ t.collectorOf c = { s.collectorOf c with
            state := .idle, zone := none, round := [], timer := none, expired := l.map (·.seat) }
        ∧ t.collectorOf d = { s.collectorOf d with
            state := .round, zone := some z, round := l.take (s.collectorOf d).size, timer := some (s.collectorOf d).timeout }
        ∧ (∀ b, b ≠ c → b ≠ d → t.collectorOf b = s.collectorOf b)
        ∧ t.sli = { s.sli with notices := s.sli.notices ++
            [⟨.roundExpired, s.htb.time, [u8 c, u8 z, u8 l.length] ++ l.map fun e => u16 e.seat⟩,
             ⟨.roundOffered, s.htb.time, [u8 d, u8 z] ++ t.roundFields d⟩] }
        ∧ t.hmu = s.hmu ∧ t.rsu = s.rsu ∧ t.ssu = s.ssu))
    ∧ ((∀ (s : State) (z : Nat),
      ((s.ringsOf z).waiters = [] ∨ ((s.ringsOf z).urgent = [] ∧ (s.ringsOf z).main = []) → ringJoined z s = s)
      ∧ ∀ (d : Nat) (ws : List Nat) (u m : List Entry), s.ringsOf z = ⟨u, m, d :: ws⟩ → u ≠ [] ∨ m ≠ [] →
        let k := s.collectorOf d
        let given : State := setCollector d { k with
            state := .round, zone := some z, round := (u ++ m).take k.size, timer := some k.timeout }
          (setRings z ⟨u.drop k.size, m.drop (k.size - u.length), ws⟩ s)
        ringJoined z s = ringJoined z (notify .roundOffered ([u8 d, u8 z] ++ given.roundFields d) given))
    ∧ ∀ (s : State) (rest : List Due) (c z : Nat), s.due = .roundTimeout c :: rest → (s.collectorOf c).state = .round →
      (s.collectorOf c).timer = some 0 → (s.collectorOf c).zone = some z →
      let k := s.collectorOf c
      exec (.roundTimeout c) s = .next (ringJoined z (notify .roundExpired
        ([u8 c, u8 z, u8 k.round.length] ++ k.round.map fun e => u16 e.seat)
        (setCollector c { k with
            state := .idle, zone := none, round := [], timer := none, expired := k.round.map (·.seat) }
          (setRings z { s.ringsOf z with urgent := k.round ++ (s.ringsOf z).urgent } { s with due := rest })))))

/-- On a link ready for a request, with table memory clean: DEFINE FORM is refused BAD VALUE, WRONG STATE for a
form in use (by a buffer, an exception entry, a readable result or a paper past DEFINED), CONFLICT where a
paper naming the form has a section start beyond the questions, and otherwise writes the question count and
replies the rows per frame, 10 more; a result whose read then fails refuses it SUSPECT with the form
unchanged, and results that were suspect before are passed over (the model's choice, log entry 16). SET
MARKING clamps MARK to 40 to 240, SEPARATION to 8 to 128 and LIGHT to 20 to MARK less 1, and replies the
three, CLAMPED where one was. Nothing else changes; but a form redefined with another question count also
loses the keys of every paper that names it, their generations kept, and a staging key for such a paper is
cleared, whether or not a key stood there (the model's choice, log entry 53).
Spec: 8.1 Forms; 9.2 Normalization and row decision; 11.1 Table memory errors; 9.4 Answer keys and
generations. -/
def Obligations.FormAndMarkingRequests : Prop :=
  (((∀ (s : State) (f q : Nat), s.ready = true → s.clean = true →
          (4 ≤ f ∨ q = 0 ∨ 120 < q → exec (.defineForm f q) s = .next (s.refused 112 .badValue))
          ∧ (f < 4 → 1 ≤ q → q ≤ 120 →
            (s.formInUse f = true → exec (.defineForm f q) s = .next (s.refused 112 .wrongState))
            ∧ (s.formInUse f = false →
              ((∃ e ∈ s.ssu.papers, e.2.form = f ∧ q < e.2.sections.getLast?.getD 1) →
                exec (.defineForm f q) s = .next (s.refused 112 .conflict))
              ∧ ((∀ e ∈ s.ssu.papers, e.2.form = f → e.2.sections.getLast?.getD 1 ≤ q) →
                (s.mru.forms.find f = none ∨ s.mru.forms.find f = some q) →
                exec (.defineForm f q) s =
                  .next ({ s with mru := { s.mru with forms := s.mru.forms.put f q } }.replied 112 [u8 (10 + q)])))))
        ∧ ∀ (s : State) (m p l : Nat), s.ready = true →
          let mark := max 40 (min 240 m)
          let sep := max 8 (min 128 p)
          let light := max 20 (min (mark - 1) l)
          exec (.setMarking m p l) s = .next ({ s with mru := { s.mru with
              settings := ⟨mark, sep, light⟩ } }.repliedClamped 114 (mark != m || sep != p || light != l)
                [u8 mark, u8 sep, u8 light]))
      ∧ (∀ (s : State) (f q k w : Nat) (r : ResultRecord), s.ready = true → f < 4 → 1 ≤ q → q ≤ 120 → s.mru.results = [(k, r)] →
      r.suspect = false → s.upsets = [⟨.result k, w, true⟩] →
      s.formInUse f = false → ∃ t : State, exec (.defineForm f q) s = .next (t.refused 112 .suspect)
        ∧ t.mru.results = [(k, { r with suspect := true })] ∧ t.mru.forms = s.mru.forms ∧ t.upsets = []))
    ∧ (∀ (s : State) (f q old : Nat), s.ready = true → s.clean = true → s.tablesSorted = true → f < 4 → 1 ≤ q → q ≤ 120 →
    s.formInUse f = false → (∀ e ∈ s.ssu.papers, e.2.form = f → e.2.sections.getLast?.getD 1 ≤ q) →
    s.mru.forms.find f = some old → old ≠ q →
    let named (p : Nat) : Bool := (s.paper? p).map (·.form) == some f
    ∃ keys : Table KeySlot, exec (.defineForm f q) s = .next ({ s with mru := { s.mru with
        forms := s.mru.forms.put f q, keys := keys, staging := s.mru.staging.filter fun g => !named g.paper } }.replied 112 [u8 (10 + q)])
      ∧ ∀ p v, v < 4 → (keys.find (p * 4 + v)).getD ⟨none, 0⟩ =
          if named p then ⟨none, (s.keyOf p v).generation⟩ else s.keyOf p v)

/-- With nothing due, no characters being discarded and no parity error unsettled: a frame of an undefined form is
rejected where no frame is open; one of a defined form with no frame open fills the lower FREE buffer, and
with no buffer FREE it is answered BUSY; a row in its order and of its length joins the open frame, in either
buffer, any other discards it with REJECT and notice; with no frame open a row is ignored; a close with the
right count and enough contrast makes the buffer FULL, answers ACCEPT with the serial and queues it for the
marker behind any other; with no frame open it is answered REJECT NO FRAME. With a frame open, FRAME OPEN
first discards that frame, with no answer and no notice, and is then taken as with none open. An unbroken
record first settles the parity errors that wait, CORRECTED where it is of the broken record's kind and row
index and LOST otherwise, each a fault of source SCAN (codes and index width, log entry 63), before its own
effect (the order, and the settling of several each, are the model's choice, log entry 21). With nothing due:
a record broken by parity, known by its kind and row index as sent, is remembered with any broken before it
(the model's choice, log entry 21) until the next unbroken record, and is answered RESEND with the next index
of the open frame, or none, where its end is known; otherwise, and while characters are discarded, nothing is
answered until a gap, which is answered RESEND; a gap in the middle of a record is answered RESEND too, and a
gap between records changes nothing.
Spec: 8.2 Sheet buffers and the ready line; 8.3 The scan link; 11.2 Fault reports and the reporting level. -/
def Obligations.ScanLinkFrames : Prop :=
  ((∀ s : State, s.calm = true → s.mru.discarding = false → s.mru.resendWait = [] →
        let said (a : ScanAnswer) (t : State) : State := { t with mru := { t.mru with out := some a } }
        (∀ f n, s.filling = none →
          (s.mru.forms.find f = none → exec (.frameOpen f n) s = .next (said (.reject .noForm (some n)) s))
          ∧ ((s.mru.forms.find f).isSome = true →
            (s.mru.buffer0.state = .free → exec (.frameOpen f n) s =
              .next { s with mru := { s.mru with buffer0 := ⟨.filling, some f, some n, [], false⟩ } })
            ∧ (s.mru.buffer0.state ≠ .free → s.mru.buffer1.state = .free → exec (.frameOpen f n) s =
              .next { s with mru := { s.mru with buffer1 := ⟨.filling, some f, some n, [], false⟩ } })
            ∧ (s.mru.buffer0.state ≠ .free → s.mru.buffer1.state ≠ .free →
              exec (.frameOpen f n) s = .next (said .busy s))))
        ∧ (s.filling = none → (∀ i l, exec (.row i l) s = .next s)
          ∧ ∀ n, exec (.frameClose n) s = .next (said (.reject .noFrame none) s))
        ∧ (∀ b f q serial rows, b = 0 ∨ (b = 1 ∧ s.mru.buffer0.state ≠ .filling) →
          s.bufferOf b = ⟨.filling, some f, some serial, rows, false⟩ → s.mru.forms.find f = some q →
          let dropped (cause : RejectCause) : Host.Outcome State Fault Refusal := .next (notify .sheetRejected
            [u16 serial, u8 f, u8 cause.ctorIdx, u8 rows.length] (said (.reject cause (some serial))
              { s with mru := s.mru.withBuffer b ⟨.free, none, none, [], false⟩ }))
          (∀ i l, (i ≠ rows.length ∨ 10 + q ≤ i → exec (.row i l) s = dropped .rowOrder)
            ∧ (i = rows.length → i < 10 + q →
              (l.length ≠ (if i = 0 then 2 else if i ≤ 8 then 10 else if i = 9 then 4 else 5) →
                exec (.row i l) s = dropped .rowLength)
              ∧ (l.length = (if i = 0 then 2 else if i ≤ 8 then 10 else if i = 9 then 4 else 5) →
                exec (.row i l) s =
                  .next { s with mru := s.mru.withBuffer b ⟨.filling, some f, some serial, rows ++ [l], false⟩ })))
          ∧ ∀ n, (n ≠ 10 + q ∨ rows.length ≠ 10 + q → exec (.frameClose n) s = dropped .rowCount)
            ∧ ∀ w k v more, rows = (w :: k :: v) :: more → rows.length = 10 + q → n = 10 + q →
              (k.toNat < w.toNat + 64 → exec (.frameClose n) s = dropped .lowContrast)
              ∧ (w.toNat + 64 ≤ k.toNat → exec (.frameClose n) s = .next (said (.accept serial) { s with mru := { s.mru.withBuffer b
                  ⟨.full, some f, some serial, rows, false⟩ with fullOrder := s.mru.fullOrder ++ [b] } }))))
      ∧ (∀ s : State, s.calm = true →
        let next : Option Nat := s.filling.map fun b => (s.bufferOf b).rows.length
        (s.mru.discarding = true →
          (∀ k i e, exec (.scanRecordBroken k i e) s = .next s)
          ∧ ∀ m, exec (.scanGap m) s =
            .next { s with mru := { s.mru with discarding := false, out := some (.resend next) } })
        ∧ (s.mru.discarding = false →
          (∀ (k i : Nat) (kind : ScanKind), [ScanKind.frameOpen, .row, .frameClose][k]? = some kind →
            let w : ResendWait := ⟨kind, if kind = .row then some i else none⟩
            exec (.scanRecordBroken k i true) s = .next { s with mru := { s.mru with
              resendWait := s.mru.resendWait ++ [w], out := some (.resend next) } }
            ∧ exec (.scanRecordBroken k i false) s = .next { s with mru := { s.mru with
              resendWait := s.mru.resendWait ++ [w], discarding := true } })
          ∧ exec (.scanGap true) s = .next { s with mru := { s.mru with out := some (.resend next) } }
          ∧ exec (.scanGap false) s = .next s)))
    ∧ (∀ s : State, s.calm = true → s.mru.discarding = false →
    let settled (kind : ScanKind) (row : Option Nat) : State := s.mru.resendWait.foldl (fun t w => takeFault .scan w.kind.faultRecord
      w.row (if w.kind = kind ∧ w.row = row then .corrected else .lost) t) { s with mru := { s.mru with resendWait := [] } }
    (s.filling = none → ∀ i l, exec (.row i l) s = .next (settled .row (some i)))
    ∧ (s.sli.sending.isSome = true →
      (∀ f n, exec (.frameOpen f n) s = exec (.frameOpen f n) (settled .frameOpen none))
      ∧ (∀ i l, exec (.row i l) s = exec (.row i l) (settled .row (some i)))
      ∧ ∀ n, exec (.frameClose n) s = exec (.frameClose n) (settled .frameClose none))
    ∧ (s.mru.resendWait = [] → ∀ f n,
      let dropped : Buffer := ⟨.free, none, none, [], false⟩
      let opened : Buffer := ⟨.filling, some f, some n, [], false⟩
      let rejected (m : Mru) : Host.Outcome State Fault Refusal :=
        .next { s with mru := { m with out := some (.reject .noForm (some n)) } }
      (s.mru.buffer0.state = .filling →
        (s.mru.forms.find f = none → exec (.frameOpen f n) s = rejected { s.mru with buffer0 := dropped })
        ∧ ((s.mru.forms.find f).isSome = true →
          exec (.frameOpen f n) s = .next { s with mru := { s.mru with buffer0 := opened } }))
      ∧ (s.mru.buffer0.state ≠ .filling → s.mru.buffer1.state = .filling →
        (s.mru.forms.find f = none → exec (.frameOpen f n) s = rejected { s.mru with buffer1 := dropped })
        ∧ ((s.mru.forms.find f).isSome = true →
          (s.mru.buffer0.state = .free → exec (.frameOpen f n) s =
            .next { s with mru := { s.mru with buffer0 := opened, buffer1 := dropped } })
          ∧ (s.mru.buffer0.state ≠ .free → exec (.frameOpen f n) s =
            .next { s with mru := { s.mru with buffer1 := opened } })))))

/-- With nothing due: an IDLE marker takes the oldest FULL buffer not held, which becomes MARKING, with the
settings of that moment; a BUSY one keeps its work. With no buffer to take, it takes the first exception entry
queued for retry, clearing the flag; with none, the next step of the running rescore pass, or the first of a
pass it starts for the lowest paper pending, with the record and its version's key and generation; a pass,
just started too, with no slot left starts again from the lowest where its again flag is set and one is left,
and else ends with RESCORED (the time is log entry 66; papers and numbers of slots are the shadows', log entry
67). Where it reaches its decode or key snapshot (an operand, log entry 19), an unreadable number or a version
with no key ends it there as its end does; else paper, version and number are kept, and key and generation at
the snapshot. A sheet that fails a check of R156 (`SheetFails`), for a missing key, or at checks 2 to 6 of the
writing step (`OperationFails`), makes an exception entry with the reason and the decoded fields kept at the
tail, its number the counter's value or the first free one after it, sends SHEET EXCEPTION and frees the
buffer; so does one whose read of the candidate fails, NOT SITTING with the SUSPECT marker, its record marked
suspect; with 32 entries listed none joins, the buffer is FULL and held at the tail of the order, and SHEET
HELD is sent. A sheet scored with a key, the slot its number then finds (log entry 33) holding no result and
its candidate FINISHED or COLLECTED, writes the slot's result, stale where the key's generation has moved on,
which sets the paper's rescore pending flag or the again flag of its running pass, frees the buffer and sends
SHEET MARKED. At either end the marker is IDLE and the held CORRECTED fault notices join behind its own (log
entry 22). Nothing else changes. The layouts of SHEET EXCEPTION and SHEET HELD are log entry 9; the entries
named are the model's choices.
Spec: 9.1 The marker and its work; 9.3 Identity decode and candidate lookup; 9.5 Scoring; 9.6 Result records;
9.7 The rescore pass; 9.8 Retries and station resolution; 8.4 The exception list; 11.2 Fault reports and the
reporting level. -/
def Obligations.MarkerTakesAndEndsASheet : Prop :=
  ((∀ (s : State) (b : Nat) (passed rest : List Nat), s.calm = true → s.mru.marker = none → s.mru.fullOrder = passed ++ b :: rest →
        (∀ c ∈ passed, (s.bufferOf c).held = true) → (s.bufferOf b).held = false → b ∉ rest →
        exec (.markerTakesWork 0) s = .next { s with mru := { s.mru.withBuffer b { s.bufferOf b with state := .marking } with
          fullOrder := passed ++ rest, marker := some ⟨.sheet b .taken, s.mru.settings⟩ } })
      ∧ (∀ s : State, s.calm = true → s.mru.marker.isSome = true → exec (.markerTakesWork 0) s = .next s)
      ∧ (∀ (s : State) (b serial f reach : Nat) (rows : List (List Byte)) (set : Settings), s.calm = true →
        s.mru.marker = some ⟨.sheet b .taken, set⟩ → s.bufferOf b = ⟨.marking, some f, some serial, rows, false⟩ →
        decodedNumber (outcomesOf set rows) = none → 1 ≤ reach →
        exec (.markerTakesWork reach) s = exec .sheetOperationEnd s)
      ∧ (∀ (s : State) (b serial f k p v number : Nat) (rows : List (List Byte)) (set : Settings) (x : Slot) (r : Paper),
        s.calm = true → s.clean = true → s.mru.marker = some ⟨.sheet b .taken, set⟩ →
        s.bufferOf b = ⟨.marking, some f, some serial, rows, false⟩ →
        decodedNumber (outcomesOf set rows) = some number → s.slotOf number = some k → s.slot? k = some x →
        x.suspect = false → x.cand.state = .finished ∨ x.cand.state = .collected → s.mru.results.find k = none →
        x.cand.paper = p → s.paper? p = some r → r.form = f → decodedVersion r (outcomesOf set rows) = some v →
        let at_ (g : Progress) : State := { s with mru := { s.mru with marker := some ⟨.sheet b g, set⟩ } }
        let reached (g : Progress) : Host.Outcome State Fault Refusal := .next (at_ g)
        ((s.keyOf p v).key = none → exec (.markerTakesWork 1) s = exec .sheetOperationEnd s)
        ∧ ∀ key, (s.keyOf p v).key = some key →
          exec (.markerTakesWork 1) s = reached (.decoded ⟨p, v, number⟩)
          ∧ exec (.markerTakesWork 2) s = reached (.snapshot ⟨⟨p, v, number⟩, key, (s.keyOf p v).generation⟩)
          ∧ exec (.markerTakesWork 2) (at_ (.decoded ⟨p, v, number⟩)) =
            reached (.snapshot ⟨⟨p, v, number⟩, key, (s.keyOf p v).generation⟩)
          ∧ exec .sheetOperationEnd s =
            exec .sheetOperationEnd (at_ (.snapshot ⟨⟨p, v, number⟩, key, (s.keyOf p v).generation⟩))
          ∧ exec .sheetOperationEnd (at_ (.decoded ⟨p, v, number⟩)) =
            exec .sheetOperationEnd (at_ (.snapshot ⟨⟨p, v, number⟩, key, (s.keyOf p v).generation⟩)))
      ∧ ∀ (s : State) (b serial f k p v number gen : Nat) (rows : List (List Byte)) (set : Settings) (key : List KeyEntry)
          (x : Slot) (r : Paper), s.calm = true → s.clean = true →
        s.mru.marker = some ⟨.sheet b (.snapshot ⟨⟨p, v, number⟩, key, gen⟩), set⟩ →
        s.bufferOf b = ⟨.marking, some f, some serial, rows, false⟩ → s.slotOf number = some k → s.slot? k = some x →
        x.suspect = false → x.cand.state = .finished ∨ x.cand.state = .collected → s.mru.results.find k = none →
        s.paper? p = some r → s.sli.notices.length + s.fcu.held.length < 64 →
        let score := scoreOf r key (outcomesOf set rows)
        let stale := gen != (s.keyOf p v).generation
        exec .sheetOperationEnd s = .next { s with
          mru := { (s.mru.withBuffer b ⟨.free, none, none, [], false⟩).afterWrite p stale with
            marker := none, results := s.mru.results.put k ⟨serial, f, v, gen, outcomesOf set rows, score, stale, false⟩ }
          sli := { s.sli with notices := s.sli.notices ++ [⟨.sheetMarked, s.htb.time, [u16 serial, u16 k, u32 number,
              u8 p, u8 v, u16 score.total, u16 score.maximum, o16 score.percent]⟩] ++ s.heldNotices }
          fcu := { s.fcu with held := [] } })
    ∧ ((∀ s : State, s.calm = true → s.mru.marker = none → (∀ b ∈ s.mru.fullOrder, (s.bufferOf b).held = true) →
      (∀ e, s.mru.exceptions.find? (·.queued) = some e → exec (.markerTakesWork 0) s = .next { s with mru := { s.mru with
        exceptions := s.mru.exceptions.map fun y => if y.number = e.number then { y with queued := false } else y
        marker := some ⟨.retry e.number .taken, s.mru.settings⟩ } })
      ∧ ((∀ e ∈ s.mru.exceptions, e.queued = false) → s.mru.results.sorted = true →
        let next (p : Nat) (last : Option Nat) : Option (Nat × ResultRecord) := List.find? (fun e =>
          (e.2.stale || e.2.suspect) && ((s.slot? e.1).map (·.shadow.paper)) == some (some p) && last.all (· < e.1)) s.mru.results
        let steps (k : Nat) (r : ResultRecord) (p : Nat) (q : Pass) (flags : List Nat) : State := { s with mru := { s.mru with
          pass := some q, rescorePending := flags
          marker := some ⟨.rescore k r (s.keyOf p r.version).key (s.keyOf p r.version).generation, s.mru.settings⟩ } }
        (s.mru.pass = none → s.mru.rescorePending = [] → exec (.markerTakesWork 0) s = .next s)
        ∧ (∀ p rest k r, s.mru.pass = none → s.mru.rescorePending = p :: rest → next p none = some (k, r) →
          exec (.markerTakesWork 0) s = .next (steps k r p ⟨p, none, false, 0, 0⟩ rest))
        ∧ (∀ q k r, s.mru.pass = some q → next q.paper q.last = some (k, r) →
          exec (.markerTakesWork 0) s = .next (steps k r q.paper q s.mru.rescorePending))
        ∧ (∀ p rest, s.mru.pass = none → s.mru.rescorePending = p :: rest → next p none = none →
          exec (.markerTakesWork 0) s =
            .next (notify .rescored [u8 p, u16 0, u16 0] { s with mru := { s.mru with rescorePending := rest } }))
        ∧ (∀ q, s.mru.pass = some q → next q.paper q.last = none → q.again = true →
          (∀ k r, next q.paper none = some (k, r) → exec (.markerTakesWork 0) s =
            .next (steps k r q.paper { q with last := none, again := false } s.mru.rescorePending))
          ∧ (next q.paper none = none → exec (.markerTakesWork 0) s =
            .next (notify .rescored [u8 q.paper, u16 q.rescored, u16 q.removed] { s with mru := { s.mru with pass := none } })))
        ∧ ∀ q, s.mru.pass = some q → next q.paper q.last = none → q.again = false → exec (.markerTakesWork 0) s =
          .next (notify .rescored [u8 q.paper, u16 q.rescored, u16 q.removed] { s with mru := { s.mru with pass := none } })))
    ∧ (∀ (s : State) (b serial form number k w : Nat) (rows : List (List Byte)) (set : Settings) (g : Progress) (x : Slot),
      s.calm = true → s.upsets = [⟨.candidate k, w, true⟩] → s.mru.marker = some ⟨.sheet b g, set⟩ →
      s.bufferOf b = ⟨.marking, some form, some serial, rows, false⟩ →
      decodedNumber (outcomesOf set rows) = some number → s.slotOf number = some k → s.slot? k = some x → x.suspect = false →
      (g = .taken ∨ ∃ n, g = .snapshot n ∧ n.found.number = number) → s.fcu.level = .quiet → s.fcu.capture = none →
      s.mru.exceptions.length < 32 → (∀ e ∈ s.mru.exceptions, e.number ≠ s.mru.counter) →
      s.sli.notices.length + s.fcu.held.length < 64 →
      exec .sheetOperationEnd s = .next { s with
        rsu := { s.rsu with slots := s.rsu.slots.modify k fun y => { y with suspect := true } }
        mru := { s.mru.withBuffer b ⟨.free, none, none, [], false⟩ with
          marker := none, counter := (s.mru.counter + 1) % 65536
          exceptions := s.mru.exceptions ++ [⟨s.mru.counter, serial, form, .notSitting, some number, none,
            outcomesOf set rows, false⟩] }
        sli := { s.sli with notices := s.sli.notices ++ [⟨.sheetException, s.htb.time,
          [u16 s.mru.counter, u16 serial, u8 form, u8 3, ⟨4, some number⟩, flag true]⟩] ++ s.heldNotices }
        fcu := { s.fcu with held := [], capture := some ⟨.table, .candidate, some k, .uncorrectable, s.htb.time⟩ }
        upsets := [] })
    ∧ ∀ (s : State) (b serial form : Nat) (rows : List (List Byte)) (set : Settings) (g : Progress) (f : Failure),
      s.calm = true → s.clean = true → s.mru.marker = some ⟨.sheet b g, set⟩ →
      s.bufferOf b = ⟨.marking, some form, some serial, rows, false⟩ →
      s.OperationFails form (outcomesOf set rows) g f → s.sli.notices.length + s.fcu.held.length < 64 →
      let ends (m : Mru) (kind : NoticeKind) (fields : List Field) : Host.Outcome State Fault Refusal :=
        .next { s with mru := { m with marker := none }
                       sli := { s.sli with notices := s.sli.notices ++ [⟨kind, s.htb.time, fields⟩] ++ s.heldNotices }
                       fcu := { s.fcu with held := [] } }
      (s.mru.exceptions.length < 32 → (∀ e ∈ s.mru.exceptions, e.number ≠ s.mru.counter) → exec .sheetOperationEnd s =
        ends { s.mru.withBuffer b ⟨.free, none, none, [], false⟩ with
            counter := (s.mru.counter + 1) % 65536
            exceptions := s.mru.exceptions ++ [⟨s.mru.counter, serial, form, f.reason, f.number, f.version,
              outcomesOf set rows, false⟩] }
          .sheetException [u16 s.mru.counter, u16 serial, u8 form, u8 f.reason.ctorIdx, ⟨4, f.number⟩, flag f.suspect])
      ∧ (∀ i, s.mru.exceptions.length < 32 → s.mru.counter < 65536 → i < 65536 →
        let n := (s.mru.counter + i) % 65536
        (∀ e ∈ s.mru.exceptions, e.number ≠ n) →
        (∀ j, j < i → ∃ e ∈ s.mru.exceptions, e.number = (s.mru.counter + j) % 65536) → exec .sheetOperationEnd s =
        ends { s.mru.withBuffer b ⟨.free, none, none, [], false⟩ with
            counter := (n + 1) % 65536
            exceptions := s.mru.exceptions ++ [⟨n, serial, form, f.reason, f.number, f.version, outcomesOf set rows, false⟩] }
          .sheetException [u16 n, u16 serial, u8 form, u8 f.reason.ctorIdx, ⟨4, f.number⟩, flag f.suspect])
      ∧ (32 ≤ s.mru.exceptions.length → exec .sheetOperationEnd s =
        ends { s.mru.withBuffer b ⟨.full, some form, some serial, rows, true⟩ with fullOrder := s.mru.fullOrder ++ [b] }
          .sheetHeld [u16 serial, u8 form, u8 b, u8 f.reason.ctorIdx]))

/-- With nothing due and table memory clean: a retry that finds a key to score with, its candidate FINISHED or
COLLECTED without a result, writes the result of the slot its number then finds (log entry 33), stale where
the key's generation has moved on (the pending or again flag then set), removes the entry, releases held
buffers, and sends EXCEPTION RESOLVED. A retry that fails a check of R156 (`SheetFails`) or the writing step's
(`OperationFails`) replaces its entry's reason and decoded fields in place, and sends SHEET EXCEPTION again if
the reason changed. A rescore step on a stale record the slot still holds writes it scored with the key and
generation taken, counted rescored; one of a suspect record removes what the slot then holds, if suspect, with
RESULT DROPPED, counts it removed and queues the DUPLICATE entries of its candidate's number, and else counts
nothing (for a replaced record the model's choice, log entry 69); one whose stale record was replaced or
removed meanwhile writes nothing, one whose record became suspect writes nothing and sets the again flag, as
does, with or without a key, one whose own read, made at its end (the model's choice, log entry 15), fails,
marking it suspect, one with no key otherwise writes nothing (the model's choice, log entry 55), and one whose
key's generation moved on writes its result stale and sets the flag. The pass then stands at that slot; with
no later slot stale or suspect it starts again from the lowest, the again flag clear, where that flag is set
and one is left, or ends with RESCORED and its counts. The marker is then IDLE and the held CORRECTED fault
notices join behind its own (the order, the model's choice, log entry 22). The bytes of SHEET EXCEPTION and
RESULT DROPPED (4 for an absent number, the SUSPECT marker last) are the model's choice, log entry 9, papers
and numbers of slots those of the shadows, log entry 67. With no such operation in flight the command has no
effect (the model's choice, log entry 14).
Spec: 9.8 Retries and station resolution; 9.7 The rescore pass; 9.3 Identity decode and candidate lookup; 11.1
Table memory errors; 11.2 Fault reports and the reporting level. -/
def Obligations.RetryAndRescoreStepsEnd : Prop :=
  (((∀ s : State, s.calm = true → s.mru.marker = none → exec .retryEnd s = .next s ∧ exec .rescoreStepEnd s = .next s
          ∧ exec .sheetOperationEnd s = .next s)
        ∧ (∀ (s : State) (e : SheetException) (k p v number gen : Nat) (set : Settings) (key : List KeyEntry) (x : Slot)
            (r : Paper), s.calm = true → s.clean = true →
          s.mru.marker = some ⟨.retry e.number (.snapshot ⟨⟨p, v, number⟩, key, gen⟩), set⟩ →
          s.mru.exceptions.find? (fun y => y.number == e.number) = some e → s.slotOf number = some k →
          s.slot? k = some x → x.suspect = false → x.cand.state = .finished ∨ x.cand.state = .collected →
          s.mru.results.find k = none → s.paper? p = some r → s.sli.notices.length + s.fcu.held.length < 64 →
          let score := scoreOf r key e.outcomes
          let stale := gen != (s.keyOf p v).generation
          exec .retryEnd s = .next { s with
            mru := { s.mru.afterWrite p stale with
              marker := none, results := s.mru.results.put k ⟨e.serial, e.form, v, gen, e.outcomes, score, stale, false⟩
              exceptions := s.mru.exceptions.filter (fun y => y.number != e.number)
              buffer0 := { s.mru.buffer0 with held := false }, buffer1 := { s.mru.buffer1 with held := false } }
            sli := { s.sli with notices := s.sli.notices ++ [⟨.exceptionResolved, s.htb.time,
              [u16 e.number, u16 e.serial, u16 k, o16 score.percent]⟩] ++ s.heldNotices }
            fcu := { s.fcu with held := [] } })
        ∧ ∀ (s : State) (k p gen : Nat) (old : ResultRecord) (key : List KeyEntry) (set : Settings) (n m : Nat)
            (l : Option Nat) (paper : Paper), s.calm = true → s.clean = true →
          s.mru.marker = some ⟨.rescore k old (some key) gen, set⟩ → s.mru.pass = some ⟨p, l, false, n, m⟩ →
          s.mru.results = [(k, old)] → old.suspect = false → s.paper? p = some paper →
          (s.keyOf p old.version).generation = gen → s.fcu.held = [] → s.sli.notices.length < 64 →
          exec .rescoreStepEnd s = .next { s with
            mru := { s.mru with marker := none, pass := none, results := [(k, { old with
              generation := gen, score := scoreOf paper key old.outcomes, stale := false })] }
            sli := { s.sli with notices := s.sli.notices ++ [⟨.rescored, s.htb.time, [u8 p, u16 (n + 1), u16 m]⟩] } })
      ∧ ((∀ (s : State) (e : SheetException) (set : Settings) (g : Progress) (f : Failure), s.calm = true → s.clean = true →
        s.mru.marker = some ⟨.retry e.number g, set⟩ → s.mru.exceptions.find? (fun y => y.number == e.number) = some e →
        s.OperationFails e.form e.outcomes g f → s.sli.notices.length + s.fcu.held.length < 64 →
        exec .retryEnd s = .next { s with
          mru := { s.mru with marker := none, exceptions := s.mru.exceptions.map fun y => if y.number = e.number then
              { y with reason := f.reason, decNumber := f.number, decVersion := f.version } else y }
          sli := { s.sli with notices := s.sli.notices ++ (if f.reason = e.reason then [] else
            [⟨.sheetException, s.htb.time, [u16 e.number, u16 e.serial, u8 e.form, u8 f.reason.ctorIdx, ⟨4, f.number⟩,
              flag f.suspect]⟩]) ++ s.heldNotices }
          fcu := { s.fcu with held := [] } })
      ∧ ∀ (s : State) (k : Nat) (old : ResultRecord) (key : Option (List KeyEntry)) (gen : Nat) (set : Settings) (q : Pass),
        s.calm = true → s.clean = true → s.mru.marker = some ⟨.rescore k old key gen, set⟩ → s.mru.pass = some q →
        s.sli.notices.length + s.fcu.held.length + 1 < 64 →
        let after (results : Table ResultRecord) (exceptions : List SheetException) (again : Bool) (rescored removed : Nat)
            (said : List Notice) : Host.Outcome State Fault Refusal :=
          let due (test : Nat → Bool) : Bool := List.any results fun e => test e.1 && (e.2.stale || e.2.suspect)
            && ((s.slot? e.1).map (·.shadow.paper)) == some (some q.paper)
          let with_ (pass : Option Pass) (more : List Notice) : Host.Outcome State Fault Refusal :=
            .next { s with mru := { s.mru with marker := none, results := results, exceptions := exceptions, pass := pass }
                           sli := { s.sli with notices := s.sli.notices ++ said ++ more ++ s.heldNotices }
                           fcu := { s.fcu with held := [] } }
          if due (k < ·) then with_ (some ⟨q.paper, some k, again, rescored, removed⟩) []
          else if again && due (fun _ => true) then with_ (some ⟨q.paper, none, false, rescored, removed⟩) []
          else with_ none [⟨.rescored, s.htb.time, [u8 q.paper, u16 rescored, u16 removed]⟩]
        let kept (again : Bool) := after s.mru.results s.mru.exceptions again q.rescored q.removed []
        (s.mru.results.find k = none → exec .rescoreStepEnd s = kept q.again)
        ∧ ∀ r, s.mru.results.find k = some r →
          (old.suspect = true →
            (r.suspect = false → exec .rescoreStepEnd s = kept q.again)
            ∧ (r.suspect = true →
              let number := (s.slot? k).bind (·.shadow.number)
              exec .rescoreStepEnd s = after (s.mru.results.drop k)
                (s.mru.exceptions.map fun e => if e.reason = .duplicate ∧ e.decNumber = number then { e with queued := true } else e)
                q.again q.rescored (q.removed + 1) [⟨.resultDropped, s.htb.time, [u16 k, ⟨4, number⟩]⟩]))
          ∧ (old.suspect = false →
            ({ r with stale := old.stale, suspect := old.suspect } ≠ old → exec .rescoreStepEnd s = kept q.again)
            ∧ ({ r with stale := old.stale, suspect := old.suspect } = old →
              (r.suspect = true → exec .rescoreStepEnd s = kept true)
              ∧ (r.suspect = false →
                (key = none → exec .rescoreStepEnd s = kept q.again)
                ∧ ∀ l paper, key = some l → s.paper? q.paper = some paper →
                  let stale := gen != (s.keyOf q.paper r.version).generation
                  exec .rescoreStepEnd s = after (s.mru.results.put k { r with
                      generation := gen, score := scoreOf paper l r.outcomes, stale := stale })
                    s.mru.exceptions (q.again || stale) (q.rescored + 1) q.removed [])))))
    ∧ (∀ (s : State) (k w : Nat) (old r : ResultRecord) (key : Option (List KeyEntry)) (gen : Nat) (set : Settings) (q : Pass)
        (x : Slot), s.calm = true → s.upsets = [⟨.result k, w, true⟩] →
        s.mru.marker = some ⟨.rescore k old key gen, set⟩ → s.mru.pass = some q →
        s.mru.results.find k = some r → r.suspect = false → old.suspect = false →
        s.slot? k = some x → x.shadow.paper = some q.paper → s.fcu.level = .quiet → s.fcu.capture = none →
        s.sli.notices.length + s.fcu.held.length ≤ 64 →
        let results := s.mru.results.modify k fun y => { y with suspect := true }
        let later := List.any results fun e => decide (k < e.1) && (e.2.stale || e.2.suspect)
          && ((s.slot? e.1).map (·.shadow.paper)) == some (some q.paper)
        exec .rescoreStepEnd s = .next { s with
          mru := { s.mru with
            results := results, marker := none
            pass := some (if later then ⟨q.paper, some k, true, q.rescored, q.removed⟩
              else ⟨q.paper, none, false, q.rescored, q.removed⟩) }
          sli := { s.sli with notices := s.sli.notices ++ s.heldNotices }
          fcu := { s.fcu with held := [], capture := some ⟨.table, .result, some k, .uncorrectable, s.htb.time⟩ }
          upsets := [] })

/-- On a link ready for a request: an entry number no entry has is refused NOT FOUND. DISCARD SHEET removes the
entry, clears the held flag of both buffers and replies serial and reason; where that entry's retry is in
flight it is abandoned, the marker is IDLE and the held CORRECTED fault notices join the queue; READ EXCEPTION
replies the entry's fields, its position and the number of entries (an absent decoded number stands as 4 bytes
and a version as 1, the model's layout, log entry 9). ASSIGN SHEET, with table memory clean, is refused BAD
VALUE for a number or version out of range, NOT FOUND for an entry or number nobody has, SUSPECT for a suspect
candidate, WRONG STATE for one neither FINISHED nor COLLECTED, WRONG FORM, BAD VALUE for a version the paper
has not, WRONG STATE with no key, BUSY while the entry is being retried, in that order, and otherwise scores
the entry's outcomes with the version's key, writes the result over any the slot holds, removes the entry,
clears the held flags and replies slot, total, maximum and percent. Nothing else changes; a running pass whose
last slot it takes goes on running, with no RESCORED in this step (the model's choice, log entry 66).
Spec: 9.8 Retries and station resolution; 8.4 The exception list; 11.2 Fault reports and the reporting level.
-/
def Obligations.ExceptionSheetRequests : Prop :=
  ∀ (s : State) (n : Nat), s.ready = true →
    (s.exception? n = none → exec (.discardSheet n) s = .next (s.refused 116 .notFound)
      ∧ exec (.readException n) s = .next (s.refused 117 .notFound)
      ∧ ∀ number v, number ≤ 99999999 → v < 4 → exec (.assignSheet n number v) s = .next (s.refused 115 .notFound))
    ∧ (∀ number v, 99999999 < number ∨ 4 ≤ v → exec (.assignSheet n number v) s = .next (s.refused 115 .badValue))
    ∧ ∀ e, s.exception? n = some e →
      let without : Mru := { s.mru with
        exceptions := s.mru.exceptions.filter fun y => y.number != n
        buffer0 := { s.mru.buffer0 with held := false }, buffer1 := { s.mru.buffer1 with held := false } }
      (s.retrying n = false →
        exec (.discardSheet n) s = .next ({ s with mru := without }.replied 116 [u16 e.serial, u8 e.reason.ctorIdx]))
      ∧ (s.retrying n = true → s.sli.notices.length + s.fcu.held.length ≤ 64 →
        exec (.discardSheet n) s = .next ({ s with
          mru := { without with marker := none }
          sli := { s.sli with notices := s.sli.notices ++ s.heldNotices }
          fcu := { s.fcu with held := [] } }.replied 116 [u16 e.serial, u8 e.reason.ctorIdx]))
      ∧ exec (.readException n) s = .next (s.replied 117
          ([u16 e.number, u16 e.serial, u8 e.form, u8 e.reason.ctorIdx, ⟨4, e.decNumber⟩, o8 e.decVersion]
            ++ listField (fun o => [o.field]) e.outcomes
            ++ [flag e.queued, o8 (positionOf n (s.mru.exceptions.map (·.number))), u8 s.mru.exceptions.length]))
      ∧ (∀ number v, number ≤ 99999999 → v < 4 → s.slotOf number = none →
        exec (.assignSheet n number v) s = .next (s.refused 115 .notFound))
      ∧ (∀ number v k x, s.clean = true → number ≤ 99999999 → v < 4 → s.slotOf number = some k → s.slot? k = some x →
        x.suspect = true → exec (.assignSheet n number v) s = .next (s.refused 115 .suspect))
      ∧ ∀ number v k x, s.clean = true → v < 4 → s.finds number k x →
        (x.cand.state ≠ .finished → x.cand.state ≠ .collected →
          exec (.assignSheet n number v) s = .next (s.refused 115 .wrongState))
        ∧ ∀ r, x.cand.state = .finished ∨ x.cand.state = .collected → s.paper? x.cand.paper = some r →
          (r.form ≠ e.form → exec (.assignSheet n number v) s = .next (s.refused 115 .wrongForm))
          ∧ (r.form = e.form → r.versions ≤ v → exec (.assignSheet n number v) s = .next (s.refused 115 .badValue))
          ∧ (r.form = e.form → v < r.versions → (s.keyOf x.cand.paper v).key = none →
            exec (.assignSheet n number v) s = .next (s.refused 115 .wrongState))
          ∧ ∀ key, r.form = e.form → v < r.versions → (s.keyOf x.cand.paper v).key = some key →
            (s.retrying n = true → exec (.assignSheet n number v) s = .next (s.refused 115 .busy))
            ∧ (s.retrying n = false →
              let score := scoreOf r key e.outcomes
              let gen := (s.keyOf x.cand.paper v).generation
              exec (.assignSheet n number v) s = .next ({ s with mru := { without with
                  results := s.mru.results.put k ⟨e.serial, e.form, v, gen, e.outcomes, score, false, false⟩ }
                }.replied 115 [u16 k, u16 score.total, u16 score.maximum, o16 score.percent]))

/-- While a LOAD KEY record is being taken, with nothing due and the reply list short of 8: an entry whose own
check fails stops the record; a run outside 1 to 8, a first question of 0, a run of one past the questions, or
a pair that is neither all zero nor a set of options 1 to 31 with a weight of 1 to 32 is refused BAD VALUE
with nothing staged; a run of one question with such a pair joins the staging key, void for the pair of zeros,
and where every question is then filled, with no result and no exception entry standing, the key is installed
with its generation advanced by 1 modulo 65,536 and the staging key cleared. A run of 1 to 8 of such pairs
joins, or is refused whole, in the same way, and with table memory clean the install also makes stale each
result of the paper's candidates with that version and another generation, passing suspect ones over (R177;
the model's reading, log entry 62); where there is one, the paper's rescore pending flag is set, or the again
flag of its running pass; the NO KEY entries of that version whose number names a candidate of the paper are
queued for retry. Which slots are of the paper, suspect ones too, and hold a number is what their shadows say
(the model's reading, log entry 67). With the staging key empty, as after an install, an entry is refused
WRONG STATE.
Spec: 9.4 Answer keys and generations; 10.3 Batch records; 9.7 The rescore pass; 9.8 Retries and station
resolution; 11.1 Table memory errors. -/
def Obligations.KeyEntryIsStaged : Prop :=
  (∀ (s : State) (b : Batch) (t : BatchTaken) (p v q m first : Nat) (g : Staging),
      s.calm = true → s.deaf = false → s.sli.receive = .inBatch b false → b.header = .loadKey p v q m →
      5 ≤ b.left → s.sli.taken = some (.batch t) → t.header = .loadKey p v q m → t.stopped = false → t.refusal = none →
      s.mru.staging = some g →
      let after (mru : Mru) (t' : BatchTaken) (size : Nat) : State := { s with mru := mru, sli := { s.sli with
        receive := .inBatch { b with left := b.left - size } false, taken := some (.batch t') } }
      let noted (r : Answer) (i : Bool) : BatchTaken := { t with answers := t.answers ++ [r], installed := t.installed || i }
      let bad (size : Nat) : Host.Outcome State Fault Refusal :=
        .next (after s.mru (noted ⟨.refused, .badValue, []⟩ false) size)
      exec (.loadKeyEntry first 1 [(1, 1)] false) s = .next (after s.mru { t with stopped := true } 5)
      ∧ (∀ run pairs, run = 0 ∨ 8 < run → 3 + 2 * run ≤ b.left →
        exec (.loadKeyEntry first run pairs true) s = bad (3 + 2 * run))
      ∧ (first = 0 ∨ g.questions < first → exec (.loadKeyEntry first 1 [(1, 1)] true) s = bad 5)
      ∧ (∀ set weight, (set = 0 ∧ weight ≠ 0) ∨ 32 ≤ set ∨ (set ≠ 0 ∧ weight = 0) ∨ 32 < weight →
        exec (.loadKeyEntry first 1 [(set, weight)] true) s = bad 5)
      ∧ ∀ (set weight : Nat) (entry : KeyEntry), 1 ≤ first → first ≤ g.questions →
        (set = 0 ∧ weight = 0 ∧ entry = .void)
          ∨ (1 ≤ set ∧ set ≤ 31 ∧ 1 ≤ weight ∧ weight ≤ 32 ∧ entry = .correct set weight) →
        let staged := g.entries.put first entry
        (staged.length ≠ g.questions → exec (.loadKeyEntry first 1 [(set, weight)] true) s =
          .next (after { s.mru with staging := some { g with entries := staged } } (noted ⟨.done, .none, []⟩ false) 5))
        ∧ (staged.length = g.questions → s.mru.results = [] → s.mru.exceptions = [] →
          exec (.loadKeyEntry first 1 [(set, weight)] true) s =
            .next (after { s.mru with
                staging := none
                keys := s.mru.keys.put (g.paper * 4 + g.version)
                  (KeySlot.mk (some (staged.map Prod.snd)) (((s.keyOf g.paper g.version).generation + 1) % 65536)) }
                (noted ⟨.done, .none, []⟩ true) 5)))
    ∧ (∀ (s : State) (b : Batch) (t : BatchTaken) (p v q m first run : Nat) (pairs : List (Nat × Nat)),
    s.calm = true → s.deaf = false → s.sli.receive = .inBatch b false → b.header = .loadKey p v q m →
    b.left ≠ 0 → 3 + 2 * run ≤ b.left → s.sli.taken = some (.batch t) → t.header = .loadKey p v q m → t.stopped = false →
    t.refusal = none →
    let after (mru : Mru) (r : Answer) (i : Bool) : Host.Outcome State Fault Refusal := .next { s with mru := mru, sli := { s.sli with
      receive := .inBatch { b with left := b.left - (3 + 2 * run) } false
      taken := some (.batch { t with answers := t.answers ++ [r], installed := t.installed || i }) } }
    (s.mru.staging = none → exec (.loadKeyEntry first run pairs true) s = after s.mru ⟨.refused, .wrongState, []⟩ false)
    ∧ ∀ g, s.mru.staging = some g →
      (first = 0 ∨ g.questions < first + run - 1 → exec (.loadKeyEntry first run pairs true) s = after s.mru ⟨.refused, .badValue, []⟩ false)
      ∧ ((∃ w ∈ pairs, (w.1 = 0 ∧ w.2 ≠ 0) ∨ 32 ≤ w.1 ∨ (w.1 ≠ 0 ∧ w.2 = 0) ∨ 32 < w.2) →
        exec (.loadKeyEntry first run pairs true) s = after s.mru ⟨.refused, .badValue, []⟩ false)
      ∧ ∀ es : List KeyEntry, 1 ≤ run → run ≤ 8 → pairs.length = run → 1 ≤ first → first + run - 1 ≤ g.questions →
        List.Forall₂ (fun w e => (w = (0, 0) ∧ e = .void)
          ∨ (1 ≤ w.1 ∧ w.1 ≤ 31 ∧ 1 ≤ w.2 ∧ w.2 ≤ 32 ∧ e = KeyEntry.correct w.1 w.2)) pairs es →
        let staged := (es.zipIdx first).foldl (fun (l : Table KeyEntry) e => l.put e.2 e.1) g.entries
        (staged.length ≠ g.questions → exec (.loadKeyEntry first run pairs true) s =
          after { s.mru with staging := some { g with entries := staged } } ⟨.done, .none, []⟩ false)
        ∧ (staged.length = g.questions → s.clean = true →
          let gen := ((s.keyOf g.paper g.version).generation + 1) % 65536
          let ofPaper (k : Nat) : Bool := ((s.slot? k).map (·.shadow.paper)) == some (some g.paper)
          let ages (e : Nat × ResultRecord) : Bool :=
            ofPaper e.1 && !e.2.suspect && e.2.version == g.version && e.2.generation != gen
          let awaits (e : SheetException) : Bool := e.reason == .noKey && e.decVersion == some g.version
            && ((e.decNumber.bind s.slotOf).map ofPaper) == some true
          let aged := List.any s.mru.results ages
          let runs : Bool := (s.mru.pass.map (·.paper)) == some g.paper
          exec (.loadKeyEntry first run pairs true) s = after { s.mru with
              staging := none
              keys := s.mru.keys.put (g.paper * 4 + g.version) (KeySlot.mk (some (staged.map Prod.snd)) gen)
              results := s.mru.results.map fun e => if ages e then (e.1, { e.2 with stale := true }) else e
              exceptions := s.mru.exceptions.map fun e => if awaits e then { e with queued := true } else e
              pass := s.mru.pass.map fun w => { w with again := w.again || (aged && runs) }
              rescorePending := if aged && !runs && !s.mru.rescorePending.contains g.paper then
                insertBy id g.paper s.mru.rescorePending else s.mru.rescorePending }
            ⟨.done, .none, []⟩ true))

/-- For every white reference w below a black one b, the level of a raw value r is 0 up to w, 255 from b, and
between them floor((255 (r - w) + floor((b - w) / 2)) / (b - w)), so at most 255: the nearest whole level, a
half rounded up. An operation's outcomes are those of rows 1 to the last, each decided on the levels of its
raw values against the references of row 0, which itself is neither normalized nor decided; the references of
a buffer that a FRAME CLOSE makes FULL lie at least 64 apart. A row whose highest level d1 is first held by
bubble o1, and whose highest level among the other bubbles is d2, is BLANK for d1 below LIGHT, else LIGHT for
d1 below MARK, else MULTIPLE for d2 at least MARK and d1 - d2 less than SEPARATION, else SINGLE with o1, which
is one of the row's bubbles. For ascending section starts beginning at 1 and a key entry for each question:
VOID contributes 0, SINGLE in the correct set its weight and outside it minus the penalty, MULTIPLE minus the
penalty where multiple counts wrong and else 0, BLANK and LIGHT 0; each section score is the sum over the
questions from its start to before the next (the last to the last question), 0 where the sum is below 0; the
total is the sum of the section scores, the maximum that of the weights of the entries not VOID, the
percentage floor((10,000 total + floor(maximum / 2)) / maximum), NO SCORE for a maximum of 0, and the counts
are those of the BLANK, LIGHT and MULTIPLE question rows. The total is at most the maximum, so a percentage is
at most 10,000.
Spec: R154; 9.2 Normalization and row decision; 9.5 Scoring. -/
def Obligations.LevelsAndPercentagesStayInRange : Prop :=
  (∀ w b r : Nat, w < b → levelOf w b r ≤ 255 ∧ (r ≤ w → levelOf w b r = 0) ∧ (b ≤ r → levelOf w b r = 255)
      ∧ (w < r → r < b → levelOf w b r = (255 * (r - w) + (b - w) / 2) / (b - w)
        ∧ 2 * (b - w) * levelOf w b r ≤ 2 * 255 * (r - w) + (b - w)
        ∧ 2 * 255 * (r - w) + (b - w) < 2 * (b - w) * (levelOf w b r + 1)))
    ∧ (∀ (t : Settings) (w b : Byte) (more : List Byte) (rows : List (List Byte)),
      outcomesOf t ((w :: b :: more) :: rows) =
        rows.map fun row => decideRow t (row.map fun r => levelOf w.toNat b.toNat r.toNat))
    ∧ (∀ (s t : State) (n i : Nat), s.calm = true → exec (.frameClose n) s = .next t →
      (s.bufferOf i).state ≠ .full → (t.bufferOf i).state = .full →
      (references (t.bufferOf i).rows).1 + 64 ≤ (references (t.bufferOf i).rows).2)
    ∧ (∀ (t : Settings) (l : List Nat) (k : Nat), l ≠ [] → decideRow t l = .single k → k < l.length)
    ∧ (∀ (t : Settings) (l : List Nat) (d1 o1 d2 : Nat),
      l[o1]? = some d1 → (∀ (j x : Nat), l[j]? = some x → x ≤ d1 ∧ (x = d1 → o1 ≤ j)) →
      (∃ j : Nat, j ≠ o1 ∧ l[j]? = some d2) → (∀ (j x : Nat), j ≠ o1 → l[j]? = some x → x ≤ d2) →
      (d1 < t.light → decideRow t l = .blank)
      ∧ (t.light ≤ d1 → d1 < t.mark → decideRow t l = .light)
      ∧ (t.light ≤ d1 → t.mark ≤ d1 → t.mark ≤ d2 → d1 - d2 < t.separation → decideRow t l = .multiple)
      ∧ (t.light ≤ d1 → t.mark ≤ d1 → d2 < t.mark ∨ t.separation ≤ d1 - d2 → decideRow t l = .single o1))
    ∧ (∀ (r : Paper) (key : List KeyEntry) (outcomes : List RowOutcome), r.sections.head? = some 1 →
      r.sections.Pairwise (· < ·) →
      (scoreOf r key outcomes).total ≤ (scoreOf r key outcomes).maximum
      ∧ ∀ q, (scoreOf r key outcomes).percent = some q → q ≤ 10000)
    ∧ ∀ (r : Paper) (key : List KeyEntry) (outcomes : List RowOutcome), r.sections.head? = some 1 →
      r.sections.Pairwise (· < ·) → (outcomes.drop 9).length = key.length →
      let questions := outcomes.drop 9
      let n := key.length
      let wrong : Int := -(r.penalty : Int)
      let gives (i : Nat) : Int :=
        match key.getD i .void, questions.getD i .blank with
        | .void, _ => 0
        | .correct options weight, .single b => if options.testBit b then (weight : Int) else wrong
        | .correct _ _, .multiple => if r.multipleWrong then wrong else 0
        | .correct _ _, .blank => 0
        | .correct _ _, .light => 0
      let score := scoreOf r key outcomes
      score.sections.length = r.sections.length
      ∧ (∀ (i a : Nat), r.sections[i]? = some a →
          let stop := (r.sections[i + 1]?).getD (n + 1)
          score.sections[i]? = some ((((List.range n).filter fun q => a ≤ q + 1 && q + 1 < stop).map gives).sum).toNat)
      ∧ score.total = score.sections.sum
      ∧ score.maximum = (key.map fun e => match e with
          | .void => 0
          | .correct _ weight => weight).sum
      ∧ score.percent = (if score.maximum = 0 then none
          else some ((10000 * score.total + score.maximum / 2) / score.maximum))
      ∧ score.blanks = (questions.filter (· == .blank)).length
      ∧ score.lights = (questions.filter (· == .light)).length
      ∧ score.multiples = (questions.filter (· == .multiple)).length

/-- Full reset reads the rate straps (57,600, 115,200, 230,400, 460,800 characters per second for 00, 01, 10, 11),
leaves STARTED to be sent with that rate and the time of day 0 (the model's choice, log entry 48), and puts
every block at the values its chapter gives, the arbiter's last served the retry requester among them (3.1 and
3.6); values the chapters do not give, the calibration's phase counts, the desk polled last and the answers
sent last, are the model's (log entry 36); the commands that wait stay waiting (the model's choice, log entry
12). The model's State.reset is that state with both straps low (the straps' levels are the model's choice,
log entry 1) and nothing waiting.
Spec: 10.5 Resets of the link; 1.2 Rows and seat numbering; 2.8 Queries and resets; 3.1 Requests and the
arbiter; 3.6 Resets; 4.4 What the station sees, and resets; 5.12 Clearing the sitting; 6.6 Resets and what the
station sees; 7.11 What the station sees, and resets; 8.5 Resets and what the station sees; 9.9 Resets; 11.4
Resets and what the station sees. -/
def Obligations.FullResetValues : Prop :=
  (∀ (a b : Bool) (s : State), ∃ t : State, exec (.fullReset a b) s = .next t
      ∧ t.sli = { rate := (if a then if b then 460800 else 230400 else if b then 115200 else 57600),
                  receive := .idle, taken := none, waiting := none, replies := [], sending := none, notices := [],
                  lost := false,
                  start := some (.started (if a then if b then 460800 else 230400 else if b then 115200 else 57600) 0) }
      ∧ t.hmu = ⟨[], [], []⟩ ∧ t.rsu = ⟨[], ⟨none, none⟩, ⟨none, none⟩⟩
      ∧ t.sal = { cursors := [], wait := [], retry := .idle, again := false, span := [], reqDoor0 := none,
                  reqDoor1 := none, reqStation := none, reqRetry := false, last := .retry, serving := none }
      ∧ t.htb.trim = 524288 ∧ t.htb.pendingTrim = none ∧ t.htb.phase = 0 ∧ t.htb.time = 0 ∧ t.htb.timeSet = false
      ∧ t.htb.cal = .idle
      ∧ t.ssu.papers = [] ∧ t.ssu.held = false ∧ t.ssu.srcStation = false ∧ t.ssu.srcContact = false
      ∧ t.ssu.holdLength = 0 ∧ t.ssu.sense = .normal ∧ t.ssu.contact = false ∧ t.ssu.quiet = false
      ∧ t.ssu.signal = .off
      ∧ t.dbc.desks = [] ∧ t.dbc.inverted = ⟨false, false, false, false⟩ ∧ t.dbc.calls = [] ∧ t.dbc.exchange = none
      ∧ t.clu = ⟨[], []⟩
      ∧ t.mru.forms = [] ∧ t.mru.buffer0 = ⟨.free, none, none, [], false⟩
      ∧ t.mru.buffer1 = ⟨.free, none, none, [], false⟩ ∧ t.mru.exceptions = [] ∧ t.mru.counter = 0
      ∧ t.mru.settings = ⟨140, 40, 60⟩ ∧ t.mru.keys = [] ∧ t.mru.staging = none ∧ t.mru.results = []
      ∧ t.mru.pass = none ∧ t.mru.marker = none
      ∧ t.fcu = ⟨.standard, none, false, []⟩ ∧ t.pending = s.pending)
    ∧ ∀ s : State, s.pending = [] → exec (.fullReset false false) s = .next State.reset

/-- With nothing due: a gap or a framing fault discards a record in progress with no reply, and a batch being
taken is answered BROKEN with no reason and the entries already applied, and no fields of the record's own
(the model's choice, log entry 18), also where characters of it were lost; with no record in progress nothing
changes. A lead breaks the record in progress, a batch too, in the same way and begins a new one of its kind;
while the reply list is full it is not received, and a batch in progress has lost a character. On a link ready
for a request a whole record that does not sum to 0 modulo 256 is answered CHECK ERROR, one that does but is
of no request kind or length, or whose count byte disagrees with its length (the model's choice, log entry
60), is answered BAD RECORD, and nothing else changes.
Spec: 10.1 Characters and records; 10.2 Taking requests; 10.3 Batch records. -/
def Obligations.BrokenAndBadRecords : Prop :=
  (∀ s : State, s.calm = true →
      (s.sli.receive = .idle → exec .recordGap s = .next s ∧ exec .framingFault s = .next s)
      ∧ (∀ k, s.sli.receive = .inRecord k →
        exec .recordGap s = .next { s with sli := { s.sli with receive := .idle } }
        ∧ exec .framingFault s = .next { s with sli := { s.sli with receive := .idle } })
      ∧ (∀ b l t, s.sli.receive = .inBatch b l → s.sli.taken = some (.batch t) →
        let after := addReply b.header.kind ⟨.broken, .none, u8 t.answers.length ::
            t.answers.flatMap fun a => [u8 a.result.ctorIdx, u8 a.reason.ctorIdx] ++ a.fields⟩
          { s with sli := { s.sli with receive := .idle, taken := none } }
        exec .recordGap s = .next after ∧ exec .framingFault s = .next after
        ∧ (s.deaf = false → ∀ k, exec (.recordBrokenByLead k) s =
          .next { after with sli := { after.sli with receive := .inRecord k } }))
      ∧ (∀ b l, s.sli.receive = .inBatch b l → (∀ t, s.sli.taken ≠ some (.batch t)) →
        exec .recordGap s = .next { s with sli := { s.sli with receive := .idle } }
        ∧ exec .framingFault s = .next { s with sli := { s.sli with receive := .idle } }
        ∧ (s.deaf = false → ∀ k, exec (.recordBrokenByLead k) s =
          .next { s with sli := { s.sli with receive := .inRecord k } }))
      ∧ (∀ b l k, s.deaf = true → s.sli.receive = .inBatch b l → exec (.recordBrokenByLead k) s =
        .next { s with sli := { s.sli with receive := .inBatch b true } })
      ∧ (∀ k, s.deaf = false → s.sli.receive = .idle →
        exec (.recordBrokenByLead k) s = .next { s with sli := { s.sli with receive := .inRecord k } })
      ∧ (∀ k j, s.deaf = false → s.sli.receive = .inRecord j →
        exec (.recordBrokenByLead k) s = .next { s with sli := { s.sli with receive := .inRecord k } })
      ∧ (∀ k, s.deaf = true → s.sli.receive = .idle → exec (.recordBrokenByLead k) s = .next s))
    ∧ ∀ (s : State) (kind : Byte) (body : List Byte) (ck : Byte), s.ready = true → body.length ≤ 240 →
      kind ≠ 32 → kind ≠ 99 → kind ≠ 113 →
      let chars := kind :: BitVec.ofNat 8 body.length :: (body ++ [ck])
      (byteSum chars ≠ 0 → exec (.badRecord chars) s = .next (s.refused kind.toNat .checkError))
      ∧ (byteSum chars = 0 → decodeBody kind.toNat (body.map BitVec.toNat) = none →
        exec (.badRecord chars) s = .next (s.refused kind.toNat .badRecord))

/-- For every request command that can arrive, other than the parts of batch records, with nothing due, no record
in progress and fewer than 8 replies listed: with the taken place occupied and the waiting place empty the
request waits and nothing else changes; with both occupied it is answered OVERRUN and nothing else changes;
with 8 replies listed nothing is received and nothing changes. WAITING REQUEST TAKEN, with the taken place
free, answers a next state: the waiting request is taken exactly as it would have been at its arrival (shown
whole for READ FAULT, whose reply is made at once: its record codes, its index of 2 bytes and the all ones of
an empty capture record are the model's choice, log entry 63). A batch of any kind whose header has arrived is
taken then exactly as at its header's arrival with the place free; the entries that arrived meanwhile are
handed on exactly as those that arrive after; and a batch that waits whole gets them all, and its reply,
exactly as one taken before its end (the last two shown while a record is being sent, since a notice of an
entry would else begin to be sent). With the taken place occupied, or nothing waiting and no record in
progress, it has no effect (the model's choice, log entry 14).
Spec: 10.2 Taking requests; 10.3 Batch records. -/
def Obligations.RequestsWaitTheirTurn : Prop :=
  ((∀ (s : State) (i : Instr) (k : Nat), s.calm = true → s.sli.receive = .idle → requestKind i = some k → i.wellFormed = true →
        k ≠ 32 → k ≠ 99 → k ≠ 113 → s.sli.taken.isSome = true →
        (s.deaf = true → exec i s = .next s)
        ∧ (s.deaf = false → s.sli.waiting = none →
          exec i s = .next { s with sli := { s.sli with waiting := some (.request i) } })
        ∧ (s.deaf = false → s.sli.waiting.isSome = true → exec i s = .next (s.refused k .overrun)))
      ∧ (∀ (s : State) (i : Instr) (k : Nat), requestKind i = some k → i.wellFormed = true → k ≠ 32 → k ≠ 99 → k ≠ 113 → s.ready = true →
        let waits : State := { s with sli := { s.sli with waiting := some (.request i) } }
        ∃ t : State, exec .waitingRequestTaken waits = .next t ∧ exec i s = .next t)
      ∧ (∀ s : State, s.ready = true → exec .waitingRequestTaken { s with sli := { s.sli with
          waiting := some (.request .readFault) } } = .next ({ s with fcu := { s.fcu with capture := none, further := false }
        }.replied 129 ((match s.fcu.capture with
          | some f => [u8 f.source.ctorIdx, u8 f.record.ctorIdx, o16 f.index, u8 f.kind.ctorIdx, u24 f.time]
          | none => [o8 none, o8 none, o16 none, o8 none, o24 none]) ++ [flag s.fcu.further])))
      ∧ (∀ s : State, s.sli.waiting = none → s.sli.receive = .idle → exec .waitingRequestTaken s = .next s)
      ∧ ∀ (s : State) (w : Waiting), s.sli.taken.isSome = true → s.sli.waiting = some w →
        exec .waitingRequestTaken s = .next s)
    ∧ (∀ s : State, s.ready = true →
    let arriving (h : BatchHeader) (ok : Bool) (es : List (BatchEntry × Bool)) (left : Nat) : State :=
      { s with sli := { s.sli with receive := .inBatch ⟨h, ok, es, left, true⟩ false } }
    (∀ ok n, 1 ≤ n → n ≤ 8 →
      exec .waitingRequestTaken (arriving .loadCandidates ok [] (14 * n)) = exec (.loadCandidates (2 + 14 * n) n ok) s)
    ∧ (∀ c ok n, 1 ≤ n → n ≤ 12 →
      exec .waitingRequestTaken (arriving (.confirm c) ok [] (4 * n)) = exec (.confirm (3 + 4 * n) c n ok) s)
    ∧ (∀ l p v q m ok, 11 ≤ l → l ≤ 234 →
      exec .waitingRequestTaken (arriving (.loadKey p v q m) ok [] (l - 6)) = exec (.loadKey l p v q m ok) s)
    ∧ ∀ (h : BatchHeader) (ok : Bool) (es : List (BatchEntry × Bool)),
      (∃ t : State, ∃ k : BatchTaken, exec .waitingRequestTaken (arriving h ok es 0) = .next t ∧ t.sli.taken = some (.batch k))
      ∧ (s.sli.sending.isSome = true →
        (∀ t, exec .waitingRequestTaken (arriving h ok es 0) = .next t → exec (.batchRecordEnd true) t =
          exec .waitingRequestTaken { s with sli := { s.sli with waiting := some (.batch ⟨h, ok, es, 0, true⟩) } })
        ∧ ∀ left t, exec .waitingRequestTaken (arriving h ok es left) = .next t →
          (∀ n v e, 4 ≤ left → h.kind = 99 → exec (.confirmEntry n v e) t =
            exec .waitingRequestTaken (arriving h ok (es ++ [(.confirm n v, e)]) (left - 4)))
          ∧ (∀ k n p c a m w z e, 14 ≤ left → h.kind = 32 → exec (.loadCandidatesEntry k n p c a m w z e) t =
            exec .waitingRequestTaken (arriving h ok (es ++ [(.candidate k n p c a m w z, e)]) (left - 14)))
          ∧ ∀ f r l e, 3 + 2 * r ≤ left → h.kind = 113 → exec (.loadKeyEntry f r l e) t =
            exec .waitingRequestTaken (arriving h ok (es ++ [(.key f r l, e)]) (left - (3 + 2 * r)))))

/-- On a link ready for a request, a header whose own check holds and whose length passes its test takes the
batch: it is in progress with its body's bytes to come, and its owner has accepted it or refused it (CONFIRM:
BAD VALUE for a collector outside 0 to 7; LOAD KEY: BAD VALUE for paper, version or mode out of range, NOT
FOUND, BAD VALUE for a version beyond the paper's, WRONG FORM for another question count, WRONG STATE for
CONTINUE with another staging key or none; LOAD CANDIDATES: never); LOAD KEY with NEW clears the staging key
for its paper, version and questions, with CONTINUE keeps it. A header whose own check fails stops the record
(log entry 11). A length that fails its test, or disagrees with the header's count (the model's choice, log
entry 18), leaves the record in progress and not taken, for all three kinds. Nothing else changes. With
nothing due and the reply list short of 8, at the check character of a batch of any of the three kinds being
taken, whose body has arrived: the taken place is free and the receive state IDLE; the reply is BROKEN with
CHECK ERROR where the record's sum or a part's own check failed, REFUSED with the header's reason where the
header was refused, and otherwise REFUSED with the reason of the first refused entry, CLAMPED where an entry
was clamped, or DONE; it carries the entries handed on, each with its outcome, reason and fields, and LOAD
KEY's then whether a key was installed and the generation after the record; BROKEN and header-refused replies
carry no fields of the record's own (the model's choice, log entries 11 and 18).
Spec: 10.3 Batch records; 9.4 Answer keys and generations; 7.6 Confirming collection; 12.4 Reply and notice
headers; 2.2 Loading the roster. -/
def Obligations.BatchRecordsBeginAndEnd : Prop :=
  (((∀ s : State, s.ready = true →
          let taken (h : BatchHeader) (left : Nat) (refusal : Option Reason) (mru : Mru) : State :=
            { s with mru := mru, sli := { s.sli with
              receive := .inBatch ⟨h, true, [], left, true⟩ false, taken := some (.batch ⟨h, refusal, [], false, false⟩) } }
          (∀ n, 1 ≤ n → n ≤ 8 →
            exec (.loadCandidates (2 + 14 * n) n true) s = .next (taken .loadCandidates (14 * n) none s.mru))
          ∧ (∀ l n, n = 0 ∨ 8 < n ∨ l ≠ 2 + 14 * n → exec (.loadCandidates l n true) s = .next { s with sli := { s.sli with
              receive := .inBatch ⟨.loadCandidates, true, [], l - 2, false⟩ false } })
          ∧ (∀ n c, 1 ≤ n → n ≤ 12 → exec (.confirm (3 + 4 * n) c n true) s =
            .next (taken (.confirm c) (4 * n) (if 8 ≤ c then some .badValue else none) s.mru))
          ∧ (∀ l p v q m, 11 ≤ l → l ≤ 234 → 16 ≤ p ∨ 4 ≤ v ∨ 2 ≤ m →
            exec (.loadKey l p v q m true) s = .next (taken (.loadKey p v q m) (l - 6) (some .badValue) s.mru))
          ∧ ∀ l p v q r, 11 ≤ l → l ≤ 234 → p < 16 → v < 4 → s.paper? p = some r → v < r.versions →
            (s.mru.forms.find r.form ≠ some q → exec (.loadKey l p v q 0 true) s =
              .next (taken (.loadKey p v q 0) (l - 6) (some .wrongForm) s.mru))
            ∧ (s.mru.forms.find r.form = some q → exec (.loadKey l p v q 0 true) s =
              .next (taken (.loadKey p v q 0) (l - 6) none { s.mru with staging := some ⟨p, v, q, []⟩ })))
        ∧ (∀ (s : State) (b : Batch) (t : BatchTaken), s.calm = true → s.deaf = false → s.sli.receive = .inBatch b false →
          b.left = 0 → s.sli.taken = some (.batch t) → t.header = .loadCandidates →
          let lines : List Field := u8 t.answers.length ::
            t.answers.flatMap fun a => [u8 a.result.ctorIdx, u8 a.reason.ctorIdx] ++ a.fields
          let answered (o : Result) (r : Reason) : Host.Outcome State Fault Refusal :=
            .next (addReply 32 ⟨o, r, lines⟩ { s with sli := { s.sli with receive := .idle, taken := none } })
          exec (.batchRecordEnd false) s = answered .broken .checkError
          ∧ (t.stopped = true → exec (.batchRecordEnd true) s = answered .broken .checkError)
          ∧ (t.stopped = false →
            (∀ r, t.refusal = some r → exec (.batchRecordEnd true) s = answered .refused r)
            ∧ (t.refusal = none →
              (∀ a, t.answers.find? (fun a => a.result == .refused) = some a →
                exec (.batchRecordEnd true) s = answered .refused a.reason)
              ∧ ((∀ a ∈ t.answers, a.result ≠ .refused) → (∃ a ∈ t.answers, a.result = .clamped) →
                exec (.batchRecordEnd true) s = answered .clamped .none)
              ∧ ((∀ a ∈ t.answers, a.result = .done) → exec (.batchRecordEnd true) s = answered .done .none)))))
      ∧ (∀ (s : State) (b : Batch) (t : BatchTaken), s.calm = true → s.deaf = false → s.sli.receive = .inBatch b false →
      b.left = 0 → s.sli.taken = some (.batch t) →
      let lines : List Field := u8 t.answers.length ::
        t.answers.flatMap fun a => [u8 a.result.ctorIdx, u8 a.reason.ctorIdx] ++ a.fields
      let answered (kind : Nat) (o : Result) (r : Reason) (own : List Field) : Host.Outcome State Fault Refusal :=
        .next (addReply kind ⟨o, r, lines ++ own⟩ { s with sli := { s.sli with receive := .idle, taken := none } })
      let ends (kind : Nat) (own : List Field) : Prop :=
        exec (.batchRecordEnd false) s = answered kind .broken .checkError []
        ∧ (t.stopped = true → exec (.batchRecordEnd true) s = answered kind .broken .checkError [])
        ∧ (t.stopped = false →
          (∀ r, t.refusal = some r → exec (.batchRecordEnd true) s = answered kind .refused r [])
          ∧ (t.refusal = none →
            (∀ a, t.answers.find? (fun a => a.result == .refused) = some a →
              exec (.batchRecordEnd true) s = answered kind .refused a.reason own)
            ∧ ((∀ a ∈ t.answers, a.result ≠ .refused) → (∃ a ∈ t.answers, a.result = .clamped) →
              exec (.batchRecordEnd true) s = answered kind .clamped .none own)
            ∧ ((∀ a ∈ t.answers, a.result = .done) → exec (.batchRecordEnd true) s = answered kind .done .none own)))
      (∀ c, t.header = .confirm c → ends 99 [])
      ∧ ∀ p v q m, t.header = .loadKey p v q m → ends 113 [flag t.installed, u16 (s.keyOf p v).generation]))
    ∧ (∀ s : State, s.ready = true →
    let begun (h : BatchHeader) (ok : Bool) (left : Nat) (t : Option BatchTaken) : Host.Outcome State Fault Refusal :=
      .next { s with sli := { s.sli with
        receive := .inBatch ⟨h, ok, [], left, t.isSome⟩ false, taken := t.map Taken.batch } }
    let accepted (h : BatchHeader) (left : Nat) := begun h true left (some ⟨h, none, [], false, false⟩)
    let refusedHeader (h : BatchHeader) (left : Nat) (r : Reason) := begun h true left (some ⟨h, some r, [], false, false⟩)
    let broken (h : BatchHeader) (left : Nat) := begun h false left (some ⟨h, none, [], true, false⟩)
    (∀ n, 1 ≤ n → n ≤ 8 → exec (.loadCandidates (2 + 14 * n) n false) s = broken .loadCandidates (14 * n))
    ∧ (∀ n c, 1 ≤ n → n ≤ 12 → exec (.confirm (3 + 4 * n) c n false) s = broken (.confirm c) (4 * n))
    ∧ (∀ l p v q m, 11 ≤ l → l ≤ 234 → exec (.loadKey l p v q m false) s = broken (.loadKey p v q m) (l - 6))
    ∧ (∀ l c n ok, n = 0 ∨ 12 < n ∨ l ≠ 3 + 4 * n → exec (.confirm l c n ok) s = begun (.confirm c) ok (l - 3) none)
    ∧ (∀ l p v q m ok, l < 11 ∨ 234 < l → exec (.loadKey l p v q m ok) s = begun (.loadKey p v q m) ok (l - 6) none)
    ∧ ∀ l p v q m, 11 ≤ l → l ≤ 234 → p < 16 → v < 4 → m < 2 →
      (s.paper? p = none → exec (.loadKey l p v q m true) s = refusedHeader (.loadKey p v q m) (l - 6) .notFound)
      ∧ ∀ r, s.paper? p = some r →
        (r.versions ≤ v → exec (.loadKey l p v q m true) s = refusedHeader (.loadKey p v q m) (l - 6) .badValue)
        ∧ (v < r.versions → s.mru.forms.find r.form ≠ some q →
          exec (.loadKey l p v q m true) s = refusedHeader (.loadKey p v q m) (l - 6) .wrongForm)
        ∧ (v < r.versions → s.mru.forms.find r.form = some q → m = 1 →
          ((∀ g, s.mru.staging = some g → g.paper ≠ p ∨ g.version ≠ v) →
            exec (.loadKey l p v q m true) s = refusedHeader (.loadKey p v q m) (l - 6) .wrongState)
          ∧ ((∃ g, s.mru.staging = some g ∧ g.paper = p ∧ g.version = v) →
            exec (.loadKey l p v q m true) s = accepted (.loadKey p v q m) (l - 6))))

/-- With nothing due: a record sent whole leaves its place, and the output side then begins the pending start
record, else the first reply, else the first notice, whichever kind of record was sent; a start record or
notice that begins carries the lost-notice flag and clears it; with nothing being sent the command has no
effect (the model's choice, log entry 14). STARTED and LINK RESTARTED are notice records: their code, the
lost-notice flag, the time of day and their fields, in STARTED the base rate in 3 bytes (the width is the
model's choice, log entry 9; the time is that at which they became pending, the model's choice, log entry 48).
The notices and replies behind keep their order and no other block changes. LINK RESET: the receive state is
IDLE, a batch being taken is dropped and a deferred request goes on with its reply to be discarded, the
waiting place and the reply list are empty, nothing is being sent, and LINK RESTARTED is to be sent first,
naming that request and the notices queued (a STARTED not yet sent whole is begun again instead, the model's
choice, log entry 17); the notice queue keeps its notices, the lost-notice flag stays set, and is set where
the record being sent, start record, notice or STATUS reply, carried it. Every other block is unchanged.
Spec: 10.4 Replies and notices; 10.5 Resets of the link; 12.4 Reply and notice headers. -/
def Obligations.OutputAndLinkReset : Prop :=
  ((∀ s : State, s.calm = true →
        (s.sli.sending = none → exec .recordSent s = .next s)
        ∧ (∀ r x rest, s.sli.sending = some (.reply r) → s.sli.start = none → s.sli.replies = [r] → s.sli.notices = x :: rest →
          exec .recordSent s = .next { s with sli := { s.sli with
            replies := [], sending := some (.notice x s.sli.lost), lost := false } })
        ∧ (∀ r q rest, s.sli.sending = some (.reply r) → s.sli.start = none → s.sli.replies = r :: q :: rest →
          exec .recordSent s = .next { s with sli := { s.sli with replies := q :: rest, sending := some (.reply q) } })
        ∧ (∀ x b rest, s.sli.sending = some (.notice x b) → s.sli.start = none → s.sli.replies = [] →
          s.sli.notices = x :: rest → rest = [] →
          exec .recordSent s = .next { s with sli := { s.sli with notices := [], sending := none } })
        ∧ (∀ r b, s.sli.sending = some (.start r b) → s.sli.replies = [] → s.sli.notices = [] →
          exec .recordSent s = .next { s with sli := { s.sli with start := none, sending := none } })
        ∧ (∀ r b q rest, s.sli.sending = some (.start r b) → s.sli.replies = q :: rest →
          exec .recordSent s = .next { s with sli := { s.sli with start := none, sending := some (.reply q) } }))
      ∧ (∀ (s : State) (r : StartRecord), s.sli.start = some r → s.sli.sending = none →
        startOutput s = { s with sli := { s.sli with sending := some (.start r s.sli.lost), lost := false } })
      ∧ (∀ (rate time : Nat) (lost : Bool), (Sending.start (.started rate time) lost).bytes =
        recordBytes 225 (([u8 1, flag lost, u24 time, u24 rate] : List Field).flatMap Field.bytes))
      ∧ (∀ (kind : Option Nat) (n time : Nat) (lost : Bool), (Sending.start (.linkRestarted kind n time) lost).bytes =
        recordBytes 225 (([u8 2, flag lost, u24 time, o8 kind, u8 n] : List Field).flatMap Field.bytes))
      ∧ (∀ s : State, s.calm = true → ∃ l : Sli, exec .linkReset s = .next { s with sli := l }
        ∧ l.receive = .idle ∧ l.waiting = none ∧ l.replies = [] ∧ l.sending = none ∧ l.notices = s.sli.notices
        ∧ l.rate = s.sli.rate
        ∧ (s.sli.taken = none → l.taken = none)
        ∧ (∀ b, s.sli.taken = some (.batch b) → l.taken = none)
        ∧ (∀ k d, s.sli.taken = some (.deferred k d) → l.taken = some (.deferred k true))
        ∧ (s.sli.lost = true → l.lost = true)
        ∧ (∀ n, s.sli.sending = some (.notice n true) → l.lost = true)
        ∧ (∀ r, s.sli.sending = some (.start r true) → l.lost = true)
        ∧ (∀ k a, s.sli.sending = some (.reply ⟨k, a, true⟩) → l.lost = true)
        ∧ (s.sli.sending = none → l.lost = s.sli.lost)
        ∧ (∀ r t, s.sli.start = some (.started r t) → l.start = some (.started r t))
        ∧ ((∀ r t, s.sli.start ≠ some (.started r t)) → l.start = some (.linkRestarted
            (match s.sli.taken with
              | some (.deferred k _) => some k
              | _ => none) s.sli.notices.length s.htb.time))))
    ∧ (∀ s : State, s.calm = true →
    let begun (l : Sli) (x : Notice) : Host.Outcome State Fault Refusal :=
      .next { s with sli := { l with sending := some (.notice x s.sli.lost), lost := false } }
    (∀ x b q rest more, s.sli.sending = some (.notice x b) → s.sli.start = none → s.sli.replies = q :: rest →
      s.sli.notices = x :: more →
      exec .recordSent s = .next { s with sli := { s.sli with notices := more, sending := some (.reply q) } })
    ∧ (∀ x b y rest, s.sli.sending = some (.notice x b) → s.sli.start = none → s.sli.replies = [] →
      s.sli.notices = x :: y :: rest → exec .recordSent s = begun { s.sli with notices := y :: rest } y)
    ∧ (∀ r b y rest, s.sli.sending = some (.start r b) → s.sli.replies = [] → s.sli.notices = y :: rest →
      exec .recordSent s = begun { s.sli with start := none } y)
    ∧ (∀ r st, s.sli.sending = some (.reply r) → s.sli.start = some st → exec .recordSent s = .next { s with sli := { s.sli with
      replies := s.sli.replies.tail, sending := some (.start st s.sli.lost), lost := false } })
    ∧ ∀ x b st, s.sli.sending = some (.notice x b) → s.sli.start = some st → exec .recordSent s = .next { s with sli := { s.sli with
      notices := s.sli.notices.tail, sending := some (.start st s.sli.lost), lost := false } })

/-- At reporting level RECORD, with the capture record empty and the marker IDLE, on a link ready for a request
and room in the queue: QUERY SEAT of a seat with one wrong bit in a word is answered with the fields that
SeatAndZoneQueries gives for the same record, the bit is gone and a CORRECTED fault of source TABLE is
captured and notified; with one wrong bit in each of two words there are two such faults, the first captured
and the second setting the further-faults flag. A seat with two or more wrong bits in one word becomes
suspect, the query is refused SUSPECT, and an UNCORRECTABLE fault is captured and notified. A suspect record
is not read again. That a record's words have numbers and that a command gives them is the model's choice (log
entry 13); that every word of the record is read, log entry 15's. For a fault of any source: at level QUIET
only an UNCORRECTABLE one is captured, and none notified; at STANDARD a CORRECTED one is neither, a LOST or
UNCORRECTABLE one both; at RECORD each is both; at RECORD with the marker BUSY the notice of a CORRECTED one
is held, or, with 8 held, dropped with the lost-notice flag set; a captured fault is written to the capture
record where it is empty, and else sets the further-faults flag. The codes and widths of a fault are the
model's choice, log entry 63. Nothing else changes.
Spec: 11.1 Table memory errors; 11.2 Fault reports and the reporting level. -/
def Obligations.TableReadsFindWrongBits : Prop :=
  ((∀ (s : State) (n : Nat) (r : Seat), s.ready = true → s.seat? n = some r → r.suspect = false → s.fcu.level = .record →
      s.fcu.capture = none → s.mru.marker = none → s.sli.notices.length < 63 →
      let fields : List Field := [u16 n] ++ (labelOf r).map u8 ++ [u8 r.cls.ctorIdx, o16 r.desk, u8 r.state.ctorIdx,
        o16 r.occupant, o8 r.lastPaper, flag r.used, flag r.override,
        flag (r.state == .free && !(r.desk.map s.online).getD false)]
      let report (k : FaultKind) : FaultReport := ⟨.table, .seat, some n, k, s.htb.time⟩
      let notice (k : FaultKind) : Notice :=
        ⟨.fault, s.htb.time, [u8 0, u8 0, o16 (some n), u8 k.ctorIdx, u24 s.htb.time]⟩
      let told (l : List FaultKind) : Sli := { s.sli with notices := s.sli.notices ++ l.map notice }
      let lost (t : State) : Prop := t.upsets = [] ∧ t.seat? n = some { r with suspect := true }
        ∧ (∀ m, m ≠ n → t.seat? m = s.seat? m) ∧ t.sli = told [.uncorrectable]
        ∧ t.fcu = { s.fcu with capture := some (report .uncorrectable) }
      (∀ w, s.upsets = [⟨.seat n, w, false⟩] → ∃ t : State,
        exec (.querySeat n) s = .next (t.replied 24 fields) ∧ t.upsets = [] ∧ t.seat? n = some r ∧ t.hmu = s.hmu
        ∧ t.sli = told [.corrected] ∧ t.fcu = { s.fcu with capture := some (report .corrected) })
      ∧ (∀ w v, w ≠ v → s.upsets = [⟨.seat n, w, false⟩, ⟨.seat n, v, false⟩] → ∃ t : State,
        exec (.querySeat n) s = .next (t.replied 24 fields) ∧ t.upsets = [] ∧ t.seat? n = some r ∧ t.hmu = s.hmu
        ∧ t.sli = told [.corrected, .corrected]
        ∧ t.fcu = { s.fcu with capture := some (report .corrected), further := true })
      ∧ (∀ w, s.upsets = [⟨.seat n, w, true⟩] → ∃ t : State, exec (.querySeat n) s = .next (t.refused 24 .suspect) ∧ lost t)
      ∧ (∀ w, s.upsets = [⟨.seat n, w, false⟩, ⟨.seat n, w, false⟩] →
        ∃ t : State, exec (.querySeat n) s = .next (t.refused 24 .suspect) ∧ lost t)
      ∧ ∀ w, readRecord (.seat n) { s with hmu := (s.withSeat n { r with suspect := true }).hmu, upsets := [⟨.seat n, w, true⟩] }
          = { s with hmu := (s.withSeat n { r with suspect := true }).hmu, upsets := [⟨.seat n, w, true⟩] })
    ∧ ∀ (s : State) (source : FaultSource) (record : FaultRecord) (index : Option Nat),
      (s.fcu.level = .quiet →
        (∀ k, k ≠ .uncorrectable → takeFault source record index k s = s)
        ∧ (s.fcu.capture = none → takeFault source record index .uncorrectable s =
            { s with fcu := { s.fcu with capture := some ⟨source, record, index, .uncorrectable, s.htb.time⟩ } })
        ∧ (s.fcu.capture ≠ none → takeFault source record index .uncorrectable s =
            { s with fcu := { s.fcu with further := true } }))
      ∧ (s.fcu.level = .standard → takeFault source record index .corrected s = s)
      ∧ (s.fcu.level = .record → s.mru.marker ≠ none →
        let f : FaultReport := ⟨source, record, index, .corrected, s.htb.time⟩
        let u : Fcu := if s.fcu.capture = none then { s.fcu with capture := some f } else { s.fcu with further := true }
        (s.fcu.held.length < 8 → takeFault source record index .corrected s =
          { s with fcu := { u with held := s.fcu.held ++ [f] } })
        ∧ (8 ≤ s.fcu.held.length → takeFault source record index .corrected s =
          { s with fcu := u, sli := { s.sli with lost := true } })))
    ∧ (∀ (s : State) (source : FaultSource) (record : FaultRecord) (index : Option Nat) (k : FaultKind),
    (s.fcu.level = .standard ∧ k ≠ .corrected) ∨ (s.fcu.level = .record ∧ (k ≠ .corrected ∨ s.mru.marker = none)) →
    let told (u : Fcu) : State := notify .fault [u8 source.ctorIdx, u8 record.ctorIdx, o16 index, u8 k.ctorIdx, u24 s.htb.time]
      { s with fcu := u }
    (s.fcu.capture = none → takeFault source record index k s =
      told { s.fcu with capture := some ⟨source, record, index, k, s.htb.time⟩ })
    ∧ (s.fcu.capture ≠ none → takeFault source record index k s = told { s.fcu with further := true }))

/-- On a link ready for a request: SET REPORTING is refused BAD VALUE for an unnamed level and else writes the
level and replies the one before; READ FAULT replies the captured fault, or its absence (all ones; codes and
widths, log entry 63), with the further-faults flag, and empties the record and clears the flag. Nothing else
changes. REPAIR SEAT is refused BAD VALUE, NOT FOUND for no seat, WRONG STATE for one not suspect, SUSPECT
where its own read fails (its place: log entry 57) and CONFLICT in the cases of R180 (an occupant whose slot
is unused and a suspect seat's address among them, log entries 25 and 64); otherwise the seat is written
whole, zone, row and position kept, mark clear, the desk records follow the addresses, its call leaves the
list unless it is OCCUPIED, and FREE is a retry trigger. REPAIR CANDIDATE is refused BAD VALUE for an unnamed
use or USED with no fields, and ignores the fields of UNUSED (the model's choice, log entry 61), is refused
WRONG STATE for a slot unused or not suspect (shown with UNUSED), BUSY for one allocating (log entry 65),
CONFLICT where a seat, the wait list or a result names it; otherwise UNUSED makes the slot unused and takes
its entry out of ring or round, an emptied round's collector IDLE, and queues no exception entry (the model's
choice, log entry 56). USED is refused BAD VALUE, WRONG STATE, BUSY, NOT FOUND, DUPLICATE, SUSPECT (a named
seat whose read fails too, log entry 57) and CONFLICT in the cases of R181, in this order; else record and
clock are written, the mark clear; a slot not WAITING leaves the wait list (a walk's end: log entry 42, the
model's choice); its entry is made (offered to a waiting collector), updated or removed as R134 gives; NOT
SITTING and EARLY SHEET entries of its number are queued; and an OVERTIME paper either repair settles (the
shadow's too, log entry 24) is CLOSED, with PAPER STATE and PAPER COLLECTED (absent booklets count as 0, the
model's choice, log entry 70). No other slot changes.
Spec: 11.2 Fault reports and the reporting level; 11.3 Repair; 11.1 Table memory errors; 7.9 Repairs; 9.8
Retries and station resolution; 5.6 Closing a paper. -/
def Obligations.FaultAndRepairRequests : Prop :=
  (((∀ s : State, s.ready = true →
          (∀ v, (3 ≤ v → exec (.setReporting v) s = .next (s.refused 128 .badValue))
            ∧ ∀ l : Reporting, [Reporting.quiet, .standard, .record][v]? = some l →
              exec (.setReporting v) s = .next ({ s with fcu := { s.fcu with level := l } }.replied 128 [u8 s.fcu.level.ctorIdx]))
          ∧ (∀ f, s.fcu.capture = some f → exec .readFault s =
            .next ({ s with fcu := { s.fcu with capture := none, further := false } }.replied 129
              [u8 f.source.ctorIdx, u8 f.record.ctorIdx, o16 f.index, u8 f.kind.ctorIdx, u24 f.time, flag s.fcu.further]))
          ∧ (s.fcu.capture = none → exec .readFault s =
            .next ({ s with fcu := { s.fcu with further := false } }.replied 129
              [o8 none, o8 none, o16 none, o8 none, o24 none, flag s.fcu.further])))
        ∧ (∀ s : State, s.ready = true → s.clean = true →
          (∀ n, n ≤ 511 →
            let f : SeatFields := ⟨0, none, 0, none, none, 0, 0⟩
            (s.seat? n = none → exec (.repairSeat n f) s = .next (s.refused 130 .notFound))
            ∧ ∀ r, s.seat? n = some r →
              (r.suspect = false → exec (.repairSeat n f) s = .next (s.refused 130 .wrongState))
              ∧ (r.suspect = true → r.desk = none → (∀ e ∈ s.rsu.slots, e.2.suspect = true ∨ e.2.cand.seat ≠ some n) →
                ∃ t : State, exec (.repairSeat n f) s = .next (t.replied 130 [])
                  ∧ t.seat? n = some ⟨r.zone, r.row, r.position, .standard, none, .unavailable, none, none, false, false, false⟩
                  ∧ (∀ m, m ≠ n → t.seat? m = s.seat? m)
                  ∧ t.dbc.calls = s.dbc.calls.filter (fun c => c.seat != n)
                  ∧ t.rsu = s.rsu ∧ t.ssu = s.ssu ∧ t.sal = s.sal ∧ t.clu = s.clu ∧ t.mru = s.mru ∧ t.htb = s.htb))
          ∧ ∀ k, (∀ u f, 2 ≤ u → exec (.repairCandidate k u f) s = .next (s.refused 131 .badValue))
            ∧ exec (.repairCandidate k 0 none) s = .next (s.refused 131 .badValue)
            ∧ (∀ f, exec (.repairCandidate k 1 f) s = exec (.repairCandidate k 1 none) s)
            ∧ (s.slot? k = none → exec (.repairCandidate k 1 none) s = .next (s.refused 131 .wrongState))
            ∧ ∀ x, s.slot? k = some x →
              (x.suspect = false → exec (.repairCandidate k 1 none) s = .next (s.refused 131 .wrongState))
              ∧ (x.suspect = true →
                (s.allocating k = true → exec (.repairCandidate k 1 none) s = .next (s.refused 131 .busy))
                ∧ (s.allocating k = false → (s.occupies k = true ∨ k ∈ s.sal.wait ∨ (s.mru.results.find k).isSome = true) →
                  exec (.repairCandidate k 1 none) s = .next (s.refused 131 .conflict))
                ∧ (s.allocating k = false → s.occupies k = false → k ∉ s.sal.wait → s.mru.results.find k = none →
                  (∃ t : State, exec (.repairCandidate k 1 none) s = .next (t.replied 131 [])
                    ∧ t.slot? k = none ∧ (∀ j, j ≠ k → t.slot? j = s.slot? j)
                    ∧ (if (s.findEntry k).isSome then EntryRemoved s t k else t.clu = s.clu)
                    ∧ PapersSettled s { s with rsu := { s.rsu with slots := s.rsu.slots.drop k } } t [] x.shadow.paper.toList
                    ∧ t.mru = s.mru ∧ t.fcu = s.fcu ∧ t.rsu.door0 = s.rsu.door0 ∧ t.rsu.door1 = s.rsu.door1
                    ∧ t.hmu = s.hmu ∧ t.sal = s.sal ∧ t.htb = s.htb ∧ t.dbc = s.dbc)
                  ∧ ∀ (number paper allowance budget issued c : Nat) (cls : CandidateClass), k < 576 → number ≤ 99999999 →
                    paper < 16 → (s.paper? paper).isSome = true → allowance ≤ 100 → budget ≤ 3600 → issued ≤ 8 →
                    [CandidateClass.standard, .arranged][c]? = some cls →
                    (∀ e ∈ s.rsu.slots, e.1 ≠ k → e.2.shadow.number ≠ some number) →
                    (∀ e ∈ s.ssu.papers, e.2.state ≠ .overtime) →
                    let f : CandidateFields :=
                      { number := number, paper := paper, cls := c, allowance := allowance, breakBudget := budget,
                        preplaced := none, state := 0, seat := none, lastSeat := none, admTime := none, walk := none,
                        reason := none, issued := issued, returned := none, discrepancy := 0, clockState := 0,
                        remaining := 0, extended := none, before := none, budget := 0, warnIndex := 0 }
                    ∃ (t : State) (y : Slot), exec (.repairCandidate k 0 (some f)) s = .next (t.replied 131 [])
                      ∧ t.slot? k = some y ∧ y.suspect = false
                      ∧ y.cand = { number := number, paper := paper, cls := cls, allowance := allowance,
                                   breakBudget := budget, preplaced := none, state := .expected, seat := none,
                                   lastSeat := none, source := none, admTime := none, walk := none, reason := none,
                                   issued := issued, returned := none, discrepancy := false }
                      ∧ y.clock = ⟨.none, 0, none, none, 0, 0⟩
                      ∧ (∀ j, j ≠ k → t.slot? j = s.slot? j) ∧ t.hmu = s.hmu ∧ t.sal = s.sal ∧ t.ssu = s.ssu
                      ∧ t.htb = s.htb ∧ t.dbc = s.dbc))))
      ∧ (∀ s : State, s.ready = true →
        (∀ n (f : SeatFields), 2 ≤ f.used ∨ 2 ≤ f.override → exec (.repairSeat n f) s = .next (s.refused 130 .badValue))
        ∧ ∀ k (f : CandidateFields), 2 ≤ f.discrepancy →
          exec (.repairCandidate k 0 (some f)) s = .next (s.refused 131 .badValue)))
    ∧ ((∀ (s : State) (n : Nat) (f : SeatFields), s.ready = true →
    let no (why : Reason) : Prop := exec (.repairSeat n f) s = .next (s.refused 130 why)
    let cls := [SeatClass.standard, .nearExit, .wide, .isolated][f.cls]?
    let state := [SeatState.unavailable, .free, .held, .occupied, .vacated][f.state]?
    let inRange : Prop := n ≤ 511 ∧ (∀ a, f.desk = some a → 1 ≤ a ∧ a ≤ 511) ∧ (∀ k, f.occupant = some k → k ≤ 575)
      ∧ (∀ p, f.lastPaper = some p → p ≤ 15) ∧ f.used ≤ 1 ∧ f.override ≤ 1
    (cls = none ∨ state = none ∨ ¬ inRange → no .badValue)
    ∧ ∀ c st, cls = some c → state = some st → inRange →
      let fits : Prop := (f.occupant.isSome = true ↔ st = .held ∨ st = .occupied)
        ∧ (st = .held ∨ st = .occupied ∨ st = .vacated → f.lastPaper.isSome = true)
        ∧ (st = .free ∨ st = .unavailable → f.lastPaper = none ∧ f.override = 0)
      (¬ fits → no .badValue)
      ∧ (fits → (s.seat? n = none → no .notFound) ∧ ∀ r, s.seat? n = some r →
        (r.suspect = false → no .wrongState)
        ∧ (r.suspect = true → s.clean = true →
          let conflict : Prop :=
            (∃ a, f.desk = some a ∧ ∃ e ∈ s.hmu.seats, e.1 ≠ n ∧ e.2.desk = some a)
            ∨ (∃ k, f.occupant = some k ∧ ∃ e ∈ s.hmu.seats, e.1 ≠ n ∧ e.2.suspect = false ∧ e.2.occupant = some k)
            ∨ (∃ e ∈ s.rsu.slots, e.2.suspect = false ∧ e.2.cand.seat = some n ∧ (f.occupant ≠ some e.1
                ∨ (e.2.cand.state ≠ .admitted ∧ e.2.cand.state ≠ .seated ∧ e.2.cand.state ≠ .finished)
                ∨ (e.2.cand.state = .admitted ∧ st = .occupied) ∨ (e.2.cand.state = .seated ∧ st = .held)))
            ∨ (∃ k, f.occupant = some k ∧ (s.slot? k = none ∨ ∃ x, s.slot? k = some x ∧ x.suspect = false
                ∧ (x.cand.seat ≠ some n ∨ some x.cand.paper ≠ f.lastPaper)))
            ∨ (f.override = 0 ∧ ∃ p, f.lastPaper = some p ∧ s.spacingHolds p n = false)
          (conflict → no .conflict)
          ∧ (¬ conflict → ∃ t : State, exec (.repairSeat n f) s = .next (t.replied 130 [])
            ∧ t.seat? n = some { r with
                cls := c, desk := f.desk, state := st, occupant := f.occupant, lastPaper := f.lastPaper
                used := f.used == 1, override := f.override == 1, suspect := false }
            ∧ (∀ m, m ≠ n → t.seat? m = s.seat? m)
            ∧ (∀ a, (t.desk? a).isSome = true ↔ ∃ e ∈ t.hmu.seats, e.2.desk = some a)
            ∧ t.dbc.calls = (if st = .occupied then s.dbc.calls else s.dbc.calls.filter (fun w => w.seat != n))
            ∧ t.sal = (if st = .free then (retryTrigger s).sal else s.sal)
            ∧ t.hmu.zones = s.hmu.zones ∧ t.hmu.rows = s.hmu.rows ∧ t.rsu = s.rsu ∧ t.ssu = s.ssu ∧ t.clu = s.clu
            ∧ t.mru = s.mru ∧ t.htb = s.htb ∧ t.sli = s.sli))
        ∧ (∀ w, r.suspect = true → s.tablesSorted = true →
          (∀ k x, s.slot? k = some x → x.suspect = false → s.upsets = [⟨.candidate k, w, true⟩] →
            ∃ t : State, exec (.repairSeat n f) s = .next (t.refused 130 .suspect)
              ∧ t.slot? k = some { x with suspect := true } ∧ t.hmu = s.hmu ∧ t.dbc = s.dbc ∧ t.upsets = [])
          ∧ ∀ m y, s.seat? m = some y → y.suspect = false → s.upsets = [⟨.seat m, w, true⟩] →
            ∃ t : State, exec (.repairSeat n f) s = .next (t.refused 130 .suspect)
              ∧ t.seat? m = some { y with suspect := true } ∧ t.seat? n = some r ∧ t.rsu = s.rsu ∧ t.dbc = s.dbc)))
  ∧ ∀ (s : State) (k : Nat) (f : CandidateFields), s.ready = true →
    let no (why : Reason) : Prop := exec (.repairCandidate k 0 (some f)) s = .next (s.refused 131 why)
    let cls := [CandidateClass.standard, .arranged][f.cls]?
    let state := [CandidateState.expected, .waiting, .admitted, .seated, .finished, .collected, .absent, .withdrawn][f.state]?
    let clock := [ClockState.none, .reading, .running, .paused, .held, .stopped, .expired][f.clockState]?
    let atMost (most : Nat) (v : Option Nat) : Prop := ∀ i, v = some i → i ≤ most
    let inRange : Prop := k ≤ 575 ∧ f.number ≤ 99999999 ∧ f.paper ≤ 15 ∧ f.allowance ≤ 100 ∧ f.breakBudget ≤ 3600
      ∧ atMost 511 f.preplaced ∧ atMost 511 f.seat ∧ atMost 511 f.lastSeat ∧ atMost 86399 f.admTime ∧ atMost 900 f.walk
      ∧ atMost 4 f.reason ∧ f.issued ≤ 8 ∧ atMost 8 f.returned ∧ f.discrepancy ≤ 1 ∧ f.remaining ≤ 43200
      ∧ atMost 43200 f.extended ∧ atMost 2 f.before ∧ f.budget ≤ 3600 ∧ f.warnIndex ≤ 4
    (cls = none ∨ state = none ∨ clock = none ∨ ¬ inRange → no .badValue)
    ∧ ∀ c st g, cls = some c → state = some st → clock = some g → inRange →
      let fits : Prop := (st = .admitted ∨ st = .seated → f.seat.isSome = true) ∧ (f.seat.isSome = true →
        st = .admitted ∨ st = .seated ∨ st = .finished)
      let cand : Candidate :=
        { number := f.number, paper := f.paper, cls := c, allowance := f.allowance, breakBudget := f.breakBudget,
          preplaced := f.preplaced, state := st, seat := f.seat, lastSeat := f.lastSeat, source := none,
          admTime := f.admTime, walk := f.walk
          reason := f.reason.bind fun i => [FinishReason.early, .expired, .ended, .withdrawn, .station][i]?
          issued := f.issued, returned := f.returned, discrepancy := f.discrepancy == 1 }
      let clk : Clock := ⟨g, f.remaining, f.extended, f.before.bind fun i => [ClockState.reading, .running, .paused][i]?,
        f.budget, f.warnIndex⟩
      (¬ fits → no .badValue)
      ∧ (fits → (s.slot? k = none → no .wrongState) ∧ ∀ x, s.slot? k = some x →
        (x.suspect = false → no .wrongState)
        ∧ (x.suspect = true → s.allocating k = true → no .busy)
        ∧ (x.suspect = true → s.allocating k = false →
          (s.paper? f.paper = none → no .notFound)
          ∧ ∀ r, s.paper? f.paper = some r →
            ((∃ e ∈ s.rsu.slots, e.1 ≠ k ∧ e.2.shadow.number = some f.number) → no .duplicate)
            ∧ ((∀ e ∈ s.rsu.slots, e.1 ≠ k → e.2.shadow.number ≠ some f.number) →
              (∀ m y w, f.seat = some m → s.seat? m = some y → y.suspect = false → s.upsets = [⟨.seat m, w, true⟩] →
                s.tablesSorted = true → ∃ t : State, exec (.repairCandidate k 0 (some f)) s = .next (t.refused 131 .suspect)
                  ∧ t.seat? m = some { y with suspect := true } ∧ t.rsu = s.rsu)
              ∧ (s.clean = true → (∃ m y, f.seat = some m ∧ s.seat? m = some y ∧ y.suspect = true) → no .suspect)
              ∧ (s.clean = true → (∀ m y, f.seat = some m → s.seat? m = some y → y.suspect = false) →
                let counts : Prop := g = .reading ∨ g = .running ∨ g = .paused
                let past : Prop := st = .finished ∨ st = .collected
                let conflict : Prop :=
                  (∃ m, f.seat = some m ∧ (s.seat? m = none ∨ ∃ y, s.seat? m = some y ∧ (y.occupant ≠ some k
                    ∨ (st = .admitted ∧ y.state ≠ .held) ∨ (st = .seated ∧ y.state ≠ .occupied)
                    ∨ (st = .finished ∧ y.state ≠ .held ∧ y.state ≠ .occupied))))
                  ∨ (f.seat = none ∧ ∃ e ∈ s.hmu.seats, e.2.suspect = false ∧ e.2.occupant = some k)
                  ∨ (st = .waiting ∧ k ∉ s.sal.wait)
                  ∨ (g ≠ .none ∧ (st = .expected ∨ st = .absent ∨ st = .withdrawn ∨ r.state = .defined ∨ r.state = .admitting))
                  ∨ (past ∧ g ≠ .stopped ∧ g ≠ .expired) ∨ ((counts ∨ g = .held) ∧ r.state = .closed)
                  ∨ (g = .held ∧ s.ssu.held = false) ∨ (counts ∧ s.ssu.held = true) ∨ (f.before.isSome = true ∧ g ≠ .held)
                  ∨ ((s.mru.results.find k).isSome = true ∧ ¬ past)
                (conflict → no .conflict)
                ∧ (¬ conflict → ∃ t : State, exec (.repairCandidate k 0 (some f)) s = .next (t.replied 131 [])
                  ∧ t.slot? k = (s.withSlot k cand clk).slot? k ∧ (∀ j, j ≠ k → t.slot? j = s.slot? j)
                  ∧ t.hmu = s.hmu ∧ t.htb = s.htb ∧ t.dbc = s.dbc ∧ t.sal = (if st = .waiting then s.sal else s.sal.left k)
                  ∧ t.mru.exceptions = s.mru.exceptions.map (fun e =>
                      if (e.reason = .notSitting ∨ e.reason = .earlySheet) ∧ e.decNumber = some f.number then
                        { e with queued := true } else e)
                  ∧ t.fcu = s.fcu ∧ t.rsu.door0 = s.rsu.door0 ∧ t.rsu.door1 = s.rsu.door1
                  ∧ (let papers : List Nat := match x.shadow.paper with
                      | none => [f.paper]
                      | some q => if q < f.paper then [q, f.paper] else if q = f.paper then [q] else [f.paper, q]
                    let u := s.withSlot k cand clk
                    let settles (said : List Notice) : Prop := PapersSettled s u t said papers
                    (st ≠ .finished ∨ f.seat = none → settles []
                        ∧ if (s.findEntry k).isSome then EntryRemoved s t k else t.clu = s.clu)
                    ∧ (∀ m y, st = .finished → f.seat = some m → s.seat? m = some y →
                        let e : Entry := ⟨m, k, cand.reason.getD .station, f.issued⟩
                        let rings := if e.reason = .expired ∨ e.reason = .ended then
                            { s.ringsOf y.zone with main := (s.ringsOf y.zone).main ++ [e] }
                          else { s.ringsOf y.zone with urgent := (s.ringsOf y.zone).urgent ++ [e] }
                        let joined := ringJoined y.zone { u with
                          clu := { s.clu with rings := s.clu.rings.put y.zone rings }, sli := { s.sli with notices := [] } }
                        (∀ w, s.findEntry k = some w → w.seat ≠ m → settles [] ∧ EntryRemoved s t k)
                        ∧ (∀ w, s.findEntry k = some w → w.seat = m → settles []
                          ∧ t.findEntry k = some { w with booklets := f.issued })
                        ∧ (s.findEntry k = none → settles joined.sli.notices ∧ t.clu = joined.clu)))))))))

/-- For every well-formed request command of the catalogue other than the batch kinds, with every operand at every
value its field admits: the record made of its kind, its length, its fields and its check character has at
most 243 characters, sums to 0 modulo 256, and is read back as that command; on the line its first character
alone has the lead flag set. For every well-formed FRAME OPEN, ROW and FRAME CLOSE, its characters with their
parity bits, after any characters that pass their check and are no record kind, are read back as that record;
characters of which one fails its check spell no record.
Spec: 12.1 Station link records; 12.2 Kind, outcome and reason codes; 12.3 Field widths; 12.6 Desk bus, door
and scan link frames; 8.3 The scan link. -/
def Obligations.RecordsDecodeToTheirRequests : Prop :=
  ((∀ (i : Instr) (bytes : List Byte), i.wellFormed = true → requestRecord i = some bytes →
          bytes.length ≤ 243 ∧ byteSum bytes = 0 ∧ decodeRecord bytes = some i)
      ∧ (∀ (i : Instr) (bytes : List Byte), requestRecord i = some bytes →
        (lineCharacters bytes).map Prod.fst = bytes
        ∧ (lineCharacters bytes).map Prod.snd = true :: List.replicate (bytes.length - 1) false))
    ∧ ((∀ (i : Instr) (bytes noise : List Byte), i.wellFormed = true → scanRecordBytes i = some bytes →
      (∀ b ∈ noise, scanKindByte b = false) → decodeScan ((noise ++ bytes).map scanCharacter) = some i)
    ∧ ∀ (cs : List Character) (c : Character), c ∈ cs → parityHolds c = false → decodeScan cs = none)

/-- In State.reset and after every FULL_RESET: the trim and any pending trim lie in 522,240 to 526,336, the phase
accumulator is below D + 16 and the time of day below 86,400; at most 64 notices are queued and at most 8
fault notices held; the record tables are in their form, and every other law that O19 and O60 say a step keeps
holds: of seats, rows, spacing, the wait list, clocks, results, calls, exceptions, collectors and collection
entries.
Spec: 4.1 Ticks, trim and the hall second; 4.4 What the station sees, and resets; 10.5 Resets of the link;
11.4 Resets and what the station sees. -/
def Obligations.InvariantsHoldAtReset : Prop :=
  ∀ t : State, (t = State.reset ∨ ∃ (a b : Bool) (s : State), exec (.fullReset a b) s = .next t) →
    t.htb.lawful = true ∧ t.sli.notices.length ≤ 64 ∧ t.fcu.held.length ≤ 8 ∧ t.tablesSorted = true
    ∧ t.sal.wait.length ≤ 32 ∧ t.dbc.callsLawful = true ∧ t.callsSeated = true ∧ t.mru.exceptionsLawful = true ∧ t.seatsLawful = true
    ∧ t.rowsLawful = true ∧ t.spacingLawful = true ∧ t.waitLawful = true ∧ t.clocksLawful = true ∧ t.resultsLawful = true
    ∧ t.collectionLawful = true ∧ t.entriesLawful = true

/-- For every state whose tables of zones, seats, slots, papers and desks each list an index at most once, in
rising order, whatever command a step takes, the next state's tables do so too. Beside that form, every step
keeps each of these laws: a seat has an occupant exactly while HELD or OCCUPIED, a last paper exactly while in
use and an override mark only then, no desk address is named twice, and the desk records are those of the
addresses named; seats and rows are numbered in the order rows were defined, in defined zones; of two
neighbours that hold one paper one has the override mark (in states whose rows are so numbered); the wait list
holds at most 32 slots, none twice, each suspect or WAITING, and every readable WAITING candidate; every
readable candidate and clock is in its ranges, agrees with its shadow, has a clock only as its state and its
paper's state allow, none open in a CLOSED paper, and is HELD only during a hold, when none counts; a result
belongs to a suspect, FINISHED or COLLECTED candidate; a collector has a round and a timer exactly in ROUND
and a zone exactly in WAITING and ROUND, within its ranges, and collectors wait in their zone's list only
while its rings are empty; no slot has two collection entries, and each is of a suspect candidate or one
FINISHED at that seat (in states whose clocks are lawful).
Spec: 00_scope.md Capacities and ranges; 1.2 Rows and seat numbering; 1.3 Seat records; 1.4 Neighbours and
spacing; 1.5 Seat states and transitions; 2.1 The candidate table; 3.4 The wait list and the retry walk; 5.3
Candidate clocks; 5.6 Closing a paper; 6.1 The desk table and the poll list; 7.1 Rings and entries; 9.6 Result
records. -/
def Obligations.TablesKeepTheirForm : Prop :=
  (∀ s t : State, s.tablesSorted = true → step s = .next t → t.tablesSorted = true)
  ∧ (∀ s t : State, s.seatsLawful = true → step s = .next t → t.seatsLawful = true)
  ∧ (∀ s t : State, s.rowsLawful = true → step s = .next t → t.rowsLawful = true)
  ∧ (∀ s t : State, s.rowsLawful = true → s.spacingLawful = true → step s = .next t → t.spacingLawful = true)
  ∧ (∀ s t : State, s.waitLawful = true → step s = .next t → t.waitLawful = true)
  ∧ (∀ s t : State, s.clocksLawful = true → step s = .next t → t.clocksLawful = true)
  ∧ (∀ s t : State, s.resultsLawful = true → step s = .next t → t.resultsLawful = true)
  ∧ (∀ s t : State, s.collectionLawful = true → step s = .next t → t.collectionLawful = true)
  ∧ (∀ s t : State, s.clocksLawful = true → s.entriesLawful = true → step s = .next t → t.entriesLawful = true)
end

