-- ==== Sys2Proof/Laws/State.lean ====
section
/-! SUPPORT. What each shared update of the state leaves and what it writes, one lemma a field, so that no proof
unfolds a record update. -/

namespace Sys2Proof.Machine

-- Hundreds of short lemmas: checked one after another, since a thread for each takes more memory than it saves.
set_option Elab.async false

variable (s : State)

@[simp] theorem addReply_hmu (k : Nat) (a : Answer) : (addReply k a s).hmu = s.hmu := rfl
@[simp] theorem addReply_rsu (k : Nat) (a : Answer) : (addReply k a s).rsu = s.rsu := rfl
@[simp] theorem addReply_sal (k : Nat) (a : Answer) : (addReply k a s).sal = s.sal := rfl
@[simp] theorem addReply_htb (k : Nat) (a : Answer) : (addReply k a s).htb = s.htb := rfl
@[simp] theorem addReply_ssu (k : Nat) (a : Answer) : (addReply k a s).ssu = s.ssu := rfl
@[simp] theorem addReply_dbc (k : Nat) (a : Answer) : (addReply k a s).dbc = s.dbc := rfl
@[simp] theorem addReply_clu (k : Nat) (a : Answer) : (addReply k a s).clu = s.clu := rfl
@[simp] theorem addReply_mru (k : Nat) (a : Answer) : (addReply k a s).mru = s.mru := rfl
@[simp] theorem addReply_fcu (k : Nat) (a : Answer) : (addReply k a s).fcu = s.fcu := rfl
@[simp] theorem addReply_upsets (k : Nat) (a : Answer) : (addReply k a s).upsets = s.upsets := rfl
@[simp] theorem addReply_due (k : Nat) (a : Answer) : (addReply k a s).due = s.due := rfl
@[simp] theorem addReply_pending (k : Nat) (a : Answer) : (addReply k a s).pending = s.pending := rfl
@[simp] theorem addReply_sli_replies (k : Nat) (a : Answer) : (addReply k a s).sli.replies = s.sli.replies ++ [⟨k, a, false⟩] := rfl
@[simp] theorem addReply_sli_notices (k : Nat) (a : Answer) : (addReply k a s).sli.notices = s.sli.notices := rfl
@[simp] theorem addReply_sli_taken (k : Nat) (a : Answer) : (addReply k a s).sli.taken = s.sli.taken := rfl
@[simp] theorem addReply_sli_waiting (k : Nat) (a : Answer) : (addReply k a s).sli.waiting = s.sli.waiting := rfl
@[simp] theorem addReply_sli_receive (k : Nat) (a : Answer) : (addReply k a s).sli.receive = s.sli.receive := rfl
@[simp] theorem addReply_sli_sending (k : Nat) (a : Answer) : (addReply k a s).sli.sending = s.sli.sending := rfl
@[simp] theorem addReply_sli_start (k : Nat) (a : Answer) : (addReply k a s).sli.start = s.sli.start := rfl
@[simp] theorem addReply_sli_lost (k : Nat) (a : Answer) : (addReply k a s).sli.lost = s.sli.lost := rfl
@[simp] theorem addReply_sli_rate (k : Nat) (a : Answer) : (addReply k a s).sli.rate = s.sli.rate := rfl

@[simp] theorem setReceive_hmu (r : Receive) : (setReceive r s).hmu = s.hmu := rfl
@[simp] theorem setReceive_rsu (r : Receive) : (setReceive r s).rsu = s.rsu := rfl
@[simp] theorem setReceive_sal (r : Receive) : (setReceive r s).sal = s.sal := rfl
@[simp] theorem setReceive_htb (r : Receive) : (setReceive r s).htb = s.htb := rfl
@[simp] theorem setReceive_ssu (r : Receive) : (setReceive r s).ssu = s.ssu := rfl
@[simp] theorem setReceive_dbc (r : Receive) : (setReceive r s).dbc = s.dbc := rfl
@[simp] theorem setReceive_clu (r : Receive) : (setReceive r s).clu = s.clu := rfl
@[simp] theorem setReceive_mru (r : Receive) : (setReceive r s).mru = s.mru := rfl
@[simp] theorem setReceive_fcu (r : Receive) : (setReceive r s).fcu = s.fcu := rfl
@[simp] theorem setReceive_upsets (r : Receive) : (setReceive r s).upsets = s.upsets := rfl
@[simp] theorem setReceive_due (r : Receive) : (setReceive r s).due = s.due := rfl
@[simp] theorem setReceive_pending (r : Receive) : (setReceive r s).pending = s.pending := rfl
@[simp] theorem setReceive_sli_receive (r : Receive) : (setReceive r s).sli.receive = r := rfl
@[simp] theorem setReceive_sli_notices (r : Receive) : (setReceive r s).sli.notices = s.sli.notices := rfl
@[simp] theorem setReceive_sli_taken (r : Receive) : (setReceive r s).sli.taken = s.sli.taken := rfl
@[simp] theorem setReceive_sli_waiting (r : Receive) : (setReceive r s).sli.waiting = s.sli.waiting := rfl
@[simp] theorem setReceive_sli_replies (r : Receive) : (setReceive r s).sli.replies = s.sli.replies := rfl
@[simp] theorem setReceive_sli_sending (r : Receive) : (setReceive r s).sli.sending = s.sli.sending := rfl
@[simp] theorem setReceive_sli_start (r : Receive) : (setReceive r s).sli.start = s.sli.start := rfl
@[simp] theorem setReceive_sli_lost (r : Receive) : (setReceive r s).sli.lost = s.sli.lost := rfl

@[simp] theorem setTaken_hmu (r : Option Taken) : (setTaken r s).hmu = s.hmu := rfl
@[simp] theorem setTaken_rsu (r : Option Taken) : (setTaken r s).rsu = s.rsu := rfl
@[simp] theorem setTaken_sal (r : Option Taken) : (setTaken r s).sal = s.sal := rfl
@[simp] theorem setTaken_htb (r : Option Taken) : (setTaken r s).htb = s.htb := rfl
@[simp] theorem setTaken_ssu (r : Option Taken) : (setTaken r s).ssu = s.ssu := rfl
@[simp] theorem setTaken_dbc (r : Option Taken) : (setTaken r s).dbc = s.dbc := rfl
@[simp] theorem setTaken_clu (r : Option Taken) : (setTaken r s).clu = s.clu := rfl
@[simp] theorem setTaken_mru (r : Option Taken) : (setTaken r s).mru = s.mru := rfl
@[simp] theorem setTaken_fcu (r : Option Taken) : (setTaken r s).fcu = s.fcu := rfl
@[simp] theorem setTaken_upsets (r : Option Taken) : (setTaken r s).upsets = s.upsets := rfl
@[simp] theorem setTaken_due (r : Option Taken) : (setTaken r s).due = s.due := rfl
@[simp] theorem setTaken_pending (r : Option Taken) : (setTaken r s).pending = s.pending := rfl
@[simp] theorem setTaken_sli_taken (r : Option Taken) : (setTaken r s).sli.taken = r := rfl
@[simp] theorem setTaken_sli_notices (r : Option Taken) : (setTaken r s).sli.notices = s.sli.notices := rfl
@[simp] theorem setTaken_sli_receive (r : Option Taken) : (setTaken r s).sli.receive = s.sli.receive := rfl
@[simp] theorem setTaken_sli_waiting (r : Option Taken) : (setTaken r s).sli.waiting = s.sli.waiting := rfl
@[simp] theorem setTaken_sli_replies (r : Option Taken) : (setTaken r s).sli.replies = s.sli.replies := rfl
@[simp] theorem setTaken_sli_sending (r : Option Taken) : (setTaken r s).sli.sending = s.sli.sending := rfl
@[simp] theorem setTaken_sli_start (r : Option Taken) : (setTaken r s).sli.start = s.sli.start := rfl
@[simp] theorem setTaken_sli_lost (r : Option Taken) : (setTaken r s).sli.lost = s.sli.lost := rfl

@[simp] theorem setWaiting_hmu (r : Option Waiting) : (setWaiting r s).hmu = s.hmu := rfl
@[simp] theorem setWaiting_rsu (r : Option Waiting) : (setWaiting r s).rsu = s.rsu := rfl
@[simp] theorem setWaiting_sal (r : Option Waiting) : (setWaiting r s).sal = s.sal := rfl
@[simp] theorem setWaiting_htb (r : Option Waiting) : (setWaiting r s).htb = s.htb := rfl
@[simp] theorem setWaiting_ssu (r : Option Waiting) : (setWaiting r s).ssu = s.ssu := rfl
@[simp] theorem setWaiting_dbc (r : Option Waiting) : (setWaiting r s).dbc = s.dbc := rfl
@[simp] theorem setWaiting_clu (r : Option Waiting) : (setWaiting r s).clu = s.clu := rfl
@[simp] theorem setWaiting_mru (r : Option Waiting) : (setWaiting r s).mru = s.mru := rfl
@[simp] theorem setWaiting_fcu (r : Option Waiting) : (setWaiting r s).fcu = s.fcu := rfl
@[simp] theorem setWaiting_upsets (r : Option Waiting) : (setWaiting r s).upsets = s.upsets := rfl
@[simp] theorem setWaiting_due (r : Option Waiting) : (setWaiting r s).due = s.due := rfl
@[simp] theorem setWaiting_pending (r : Option Waiting) : (setWaiting r s).pending = s.pending := rfl
@[simp] theorem setWaiting_sli_waiting (r : Option Waiting) : (setWaiting r s).sli.waiting = r := rfl
@[simp] theorem setWaiting_sli_notices (r : Option Waiting) : (setWaiting r s).sli.notices = s.sli.notices := rfl
@[simp] theorem setWaiting_sli_receive (r : Option Waiting) : (setWaiting r s).sli.receive = s.sli.receive := rfl
@[simp] theorem setWaiting_sli_taken (r : Option Waiting) : (setWaiting r s).sli.taken = s.sli.taken := rfl
@[simp] theorem setWaiting_sli_replies (r : Option Waiting) : (setWaiting r s).sli.replies = s.sli.replies := rfl
@[simp] theorem setWaiting_sli_sending (r : Option Waiting) : (setWaiting r s).sli.sending = s.sli.sending := rfl
@[simp] theorem setWaiting_sli_start (r : Option Waiting) : (setWaiting r s).sli.start = s.sli.start := rfl
@[simp] theorem setWaiting_sli_lost (r : Option Waiting) : (setWaiting r s).sli.lost = s.sli.lost := rfl

@[simp] theorem setZone_sli (z : Nat) (r : Zone) : (setZone z r s).sli = s.sli := rfl
@[simp] theorem setZone_rsu (z : Nat) (r : Zone) : (setZone z r s).rsu = s.rsu := rfl
@[simp] theorem setZone_sal (z : Nat) (r : Zone) : (setZone z r s).sal = s.sal := rfl
@[simp] theorem setZone_htb (z : Nat) (r : Zone) : (setZone z r s).htb = s.htb := rfl
@[simp] theorem setZone_ssu (z : Nat) (r : Zone) : (setZone z r s).ssu = s.ssu := rfl
@[simp] theorem setZone_dbc (z : Nat) (r : Zone) : (setZone z r s).dbc = s.dbc := rfl
@[simp] theorem setZone_clu (z : Nat) (r : Zone) : (setZone z r s).clu = s.clu := rfl
@[simp] theorem setZone_mru (z : Nat) (r : Zone) : (setZone z r s).mru = s.mru := rfl
@[simp] theorem setZone_fcu (z : Nat) (r : Zone) : (setZone z r s).fcu = s.fcu := rfl
@[simp] theorem setZone_upsets (z : Nat) (r : Zone) : (setZone z r s).upsets = s.upsets := rfl
@[simp] theorem setZone_due (z : Nat) (r : Zone) : (setZone z r s).due = s.due := rfl
@[simp] theorem setZone_pending (z : Nat) (r : Zone) : (setZone z r s).pending = s.pending := rfl
@[simp] theorem setZone_hmu_zones (z : Nat) (r : Zone) : (setZone z r s).hmu.zones = s.hmu.zones.put z r := rfl
@[simp] theorem setZone_hmu_rows (z : Nat) (r : Zone) : (setZone z r s).hmu.rows = s.hmu.rows := rfl
@[simp] theorem setZone_hmu_seats (z : Nat) (r : Zone) : (setZone z r s).hmu.seats = s.hmu.seats := rfl

@[simp] theorem modPaper_sli (p : Nat) (f : Paper → Paper) : (modPaper p f s).sli = s.sli := rfl
@[simp] theorem modPaper_hmu (p : Nat) (f : Paper → Paper) : (modPaper p f s).hmu = s.hmu := rfl
@[simp] theorem modPaper_rsu (p : Nat) (f : Paper → Paper) : (modPaper p f s).rsu = s.rsu := rfl
@[simp] theorem modPaper_sal (p : Nat) (f : Paper → Paper) : (modPaper p f s).sal = s.sal := rfl
@[simp] theorem modPaper_htb (p : Nat) (f : Paper → Paper) : (modPaper p f s).htb = s.htb := rfl
@[simp] theorem modPaper_dbc (p : Nat) (f : Paper → Paper) : (modPaper p f s).dbc = s.dbc := rfl
@[simp] theorem modPaper_clu (p : Nat) (f : Paper → Paper) : (modPaper p f s).clu = s.clu := rfl
@[simp] theorem modPaper_mru (p : Nat) (f : Paper → Paper) : (modPaper p f s).mru = s.mru := rfl
@[simp] theorem modPaper_fcu (p : Nat) (f : Paper → Paper) : (modPaper p f s).fcu = s.fcu := rfl
@[simp] theorem modPaper_upsets (p : Nat) (f : Paper → Paper) : (modPaper p f s).upsets = s.upsets := rfl
@[simp] theorem modPaper_due (p : Nat) (f : Paper → Paper) : (modPaper p f s).due = s.due := rfl
@[simp] theorem modPaper_pending (p : Nat) (f : Paper → Paper) : (modPaper p f s).pending = s.pending := rfl
@[simp] theorem modPaper_ssu_papers (p : Nat) (f : Paper → Paper) : (modPaper p f s).ssu.papers = s.ssu.papers.modify p f := rfl
@[simp] theorem modPaper_ssu_held (p : Nat) (f : Paper → Paper) : (modPaper p f s).ssu.held = s.ssu.held := rfl
@[simp] theorem modPaper_ssu_signal (p : Nat) (f : Paper → Paper) : (modPaper p f s).ssu.signal = s.ssu.signal := rfl

@[simp] theorem modDesk_sli (a : Nat) (f : Desk → Desk) : (modDesk a f s).sli = s.sli := rfl
@[simp] theorem modDesk_hmu (a : Nat) (f : Desk → Desk) : (modDesk a f s).hmu = s.hmu := rfl
@[simp] theorem modDesk_rsu (a : Nat) (f : Desk → Desk) : (modDesk a f s).rsu = s.rsu := rfl
@[simp] theorem modDesk_sal (a : Nat) (f : Desk → Desk) : (modDesk a f s).sal = s.sal := rfl
@[simp] theorem modDesk_htb (a : Nat) (f : Desk → Desk) : (modDesk a f s).htb = s.htb := rfl
@[simp] theorem modDesk_ssu (a : Nat) (f : Desk → Desk) : (modDesk a f s).ssu = s.ssu := rfl
@[simp] theorem modDesk_clu (a : Nat) (f : Desk → Desk) : (modDesk a f s).clu = s.clu := rfl
@[simp] theorem modDesk_mru (a : Nat) (f : Desk → Desk) : (modDesk a f s).mru = s.mru := rfl
@[simp] theorem modDesk_fcu (a : Nat) (f : Desk → Desk) : (modDesk a f s).fcu = s.fcu := rfl
@[simp] theorem modDesk_upsets (a : Nat) (f : Desk → Desk) : (modDesk a f s).upsets = s.upsets := rfl
@[simp] theorem modDesk_due (a : Nat) (f : Desk → Desk) : (modDesk a f s).due = s.due := rfl
@[simp] theorem modDesk_pending (a : Nat) (f : Desk → Desk) : (modDesk a f s).pending = s.pending := rfl
@[simp] theorem modDesk_dbc_desks (a : Nat) (f : Desk → Desk) : (modDesk a f s).dbc.desks = s.dbc.desks.modify a f := rfl
@[simp] theorem modDesk_dbc_calls (a : Nat) (f : Desk → Desk) : (modDesk a f s).dbc.calls = s.dbc.calls := rfl
@[simp] theorem modDesk_dbc_exchange (a : Nat) (f : Desk → Desk) : (modDesk a f s).dbc.exchange = s.dbc.exchange := rfl
@[simp] theorem modDesk_dbc_inverted (a : Nat) (f : Desk → Desk) : (modDesk a f s).dbc.inverted = s.dbc.inverted := rfl
@[simp] theorem modDesk_dbc_polled (a : Nat) (f : Desk → Desk) : (modDesk a f s).dbc.polled = s.dbc.polled := rfl
@[simp] theorem modDesk_dbc_out (a : Nat) (f : Desk → Desk) : (modDesk a f s).dbc.out = s.dbc.out := rfl

@[simp] theorem setRings_sli (z : Nat) (r : Rings) : (setRings z r s).sli = s.sli := rfl
@[simp] theorem setRings_hmu (z : Nat) (r : Rings) : (setRings z r s).hmu = s.hmu := rfl
@[simp] theorem setRings_rsu (z : Nat) (r : Rings) : (setRings z r s).rsu = s.rsu := rfl
@[simp] theorem setRings_sal (z : Nat) (r : Rings) : (setRings z r s).sal = s.sal := rfl
@[simp] theorem setRings_htb (z : Nat) (r : Rings) : (setRings z r s).htb = s.htb := rfl
@[simp] theorem setRings_ssu (z : Nat) (r : Rings) : (setRings z r s).ssu = s.ssu := rfl
@[simp] theorem setRings_dbc (z : Nat) (r : Rings) : (setRings z r s).dbc = s.dbc := rfl
@[simp] theorem setRings_mru (z : Nat) (r : Rings) : (setRings z r s).mru = s.mru := rfl
@[simp] theorem setRings_fcu (z : Nat) (r : Rings) : (setRings z r s).fcu = s.fcu := rfl
@[simp] theorem setRings_upsets (z : Nat) (r : Rings) : (setRings z r s).upsets = s.upsets := rfl
@[simp] theorem setRings_due (z : Nat) (r : Rings) : (setRings z r s).due = s.due := rfl
@[simp] theorem setRings_pending (z : Nat) (r : Rings) : (setRings z r s).pending = s.pending := rfl
@[simp] theorem setRings_clu_rings (z : Nat) (r : Rings) : (setRings z r s).clu.rings = s.clu.rings.put z r := rfl
@[simp] theorem setRings_clu_collectors (z : Nat) (r : Rings) : (setRings z r s).clu.collectors = s.clu.collectors := rfl

@[simp] theorem setCollector_sli (c : Nat) (r : Collector) : (setCollector c r s).sli = s.sli := rfl
@[simp] theorem setCollector_hmu (c : Nat) (r : Collector) : (setCollector c r s).hmu = s.hmu := rfl
@[simp] theorem setCollector_rsu (c : Nat) (r : Collector) : (setCollector c r s).rsu = s.rsu := rfl
@[simp] theorem setCollector_sal (c : Nat) (r : Collector) : (setCollector c r s).sal = s.sal := rfl
@[simp] theorem setCollector_htb (c : Nat) (r : Collector) : (setCollector c r s).htb = s.htb := rfl
@[simp] theorem setCollector_ssu (c : Nat) (r : Collector) : (setCollector c r s).ssu = s.ssu := rfl
@[simp] theorem setCollector_dbc (c : Nat) (r : Collector) : (setCollector c r s).dbc = s.dbc := rfl
@[simp] theorem setCollector_mru (c : Nat) (r : Collector) : (setCollector c r s).mru = s.mru := rfl
@[simp] theorem setCollector_fcu (c : Nat) (r : Collector) : (setCollector c r s).fcu = s.fcu := rfl
@[simp] theorem setCollector_upsets (c : Nat) (r : Collector) : (setCollector c r s).upsets = s.upsets := rfl
@[simp] theorem setCollector_due (c : Nat) (r : Collector) : (setCollector c r s).due = s.due := rfl
@[simp] theorem setCollector_pending (c : Nat) (r : Collector) : (setCollector c r s).pending = s.pending := rfl
@[simp] theorem setCollector_clu_collectors (c : Nat) (r : Collector) : (setCollector c r s).clu.collectors = s.clu.collectors.put c r := rfl
@[simp] theorem setCollector_clu_rings (c : Nat) (r : Collector) : (setCollector c r s).clu.rings = s.clu.rings := rfl

@[simp] theorem setCursor_sli (p z n : Nat) : (setCursor p z n s).sli = s.sli := rfl
@[simp] theorem setCursor_hmu (p z n : Nat) : (setCursor p z n s).hmu = s.hmu := rfl
@[simp] theorem setCursor_rsu (p z n : Nat) : (setCursor p z n s).rsu = s.rsu := rfl
@[simp] theorem setCursor_htb (p z n : Nat) : (setCursor p z n s).htb = s.htb := rfl
@[simp] theorem setCursor_ssu (p z n : Nat) : (setCursor p z n s).ssu = s.ssu := rfl
@[simp] theorem setCursor_dbc (p z n : Nat) : (setCursor p z n s).dbc = s.dbc := rfl
@[simp] theorem setCursor_clu (p z n : Nat) : (setCursor p z n s).clu = s.clu := rfl
@[simp] theorem setCursor_mru (p z n : Nat) : (setCursor p z n s).mru = s.mru := rfl
@[simp] theorem setCursor_fcu (p z n : Nat) : (setCursor p z n s).fcu = s.fcu := rfl
@[simp] theorem setCursor_upsets (p z n : Nat) : (setCursor p z n s).upsets = s.upsets := rfl
@[simp] theorem setCursor_due (p z n : Nat) : (setCursor p z n s).due = s.due := rfl
@[simp] theorem setCursor_pending (p z n : Nat) : (setCursor p z n s).pending = s.pending := rfl
@[simp] theorem setCursor_sal_cursors (p z n : Nat) : (setCursor p z n s).sal.cursors = s.sal.cursors.put (p * 8 + z) n := rfl
@[simp] theorem setCursor_sal_wait (p z n : Nat) : (setCursor p z n s).sal.wait = s.sal.wait := rfl
@[simp] theorem setCursor_sal_retry (p z n : Nat) : (setCursor p z n s).sal.retry = s.sal.retry := rfl

@[simp] theorem modSlot_sli (k : Nat) (f : Candidate → Candidate) (g : Clock → Clock) : (modSlot k f g s).sli = s.sli := rfl
@[simp] theorem modSlot_hmu (k : Nat) (f : Candidate → Candidate) (g : Clock → Clock) : (modSlot k f g s).hmu = s.hmu := rfl
@[simp] theorem modSlot_sal (k : Nat) (f : Candidate → Candidate) (g : Clock → Clock) : (modSlot k f g s).sal = s.sal := rfl
@[simp] theorem modSlot_htb (k : Nat) (f : Candidate → Candidate) (g : Clock → Clock) : (modSlot k f g s).htb = s.htb := rfl
@[simp] theorem modSlot_ssu (k : Nat) (f : Candidate → Candidate) (g : Clock → Clock) : (modSlot k f g s).ssu = s.ssu := rfl
@[simp] theorem modSlot_dbc (k : Nat) (f : Candidate → Candidate) (g : Clock → Clock) : (modSlot k f g s).dbc = s.dbc := rfl
@[simp] theorem modSlot_clu (k : Nat) (f : Candidate → Candidate) (g : Clock → Clock) : (modSlot k f g s).clu = s.clu := rfl
@[simp] theorem modSlot_mru (k : Nat) (f : Candidate → Candidate) (g : Clock → Clock) : (modSlot k f g s).mru = s.mru := rfl
@[simp] theorem modSlot_fcu (k : Nat) (f : Candidate → Candidate) (g : Clock → Clock) : (modSlot k f g s).fcu = s.fcu := rfl
@[simp] theorem modSlot_upsets (k : Nat) (f : Candidate → Candidate) (g : Clock → Clock) : (modSlot k f g s).upsets = s.upsets := rfl
@[simp] theorem modSlot_due (k : Nat) (f : Candidate → Candidate) (g : Clock → Clock) : (modSlot k f g s).due = s.due := rfl
@[simp] theorem modSlot_pending (k : Nat) (f : Candidate → Candidate) (g : Clock → Clock) : (modSlot k f g s).pending = s.pending := rfl
@[simp] theorem modSlot_rsu_slots (k : Nat) (f : Candidate → Candidate) (g : Clock → Clock) : (modSlot k f g s).rsu.slots = s.rsu.slots.modify k fun x => .write (f x.cand) (g x.clock) x.suspect := rfl
@[simp] theorem modSlot_rsu_door0 (k : Nat) (f : Candidate → Candidate) (g : Clock → Clock) : (modSlot k f g s).rsu.door0 = s.rsu.door0 := rfl
@[simp] theorem modSlot_rsu_door1 (k : Nat) (f : Candidate → Candidate) (g : Clock → Clock) : (modSlot k f g s).rsu.door1 = s.rsu.door1 := rfl

@[simp] theorem leaveWaitList_sli (k : Nat) : (leaveWaitList k s).sli = s.sli := rfl
@[simp] theorem leaveWaitList_hmu (k : Nat) : (leaveWaitList k s).hmu = s.hmu := rfl
@[simp] theorem leaveWaitList_rsu (k : Nat) : (leaveWaitList k s).rsu = s.rsu := rfl
@[simp] theorem leaveWaitList_htb (k : Nat) : (leaveWaitList k s).htb = s.htb := rfl
@[simp] theorem leaveWaitList_ssu (k : Nat) : (leaveWaitList k s).ssu = s.ssu := rfl
@[simp] theorem leaveWaitList_dbc (k : Nat) : (leaveWaitList k s).dbc = s.dbc := rfl
@[simp] theorem leaveWaitList_clu (k : Nat) : (leaveWaitList k s).clu = s.clu := rfl
@[simp] theorem leaveWaitList_mru (k : Nat) : (leaveWaitList k s).mru = s.mru := rfl
@[simp] theorem leaveWaitList_fcu (k : Nat) : (leaveWaitList k s).fcu = s.fcu := rfl
@[simp] theorem leaveWaitList_upsets (k : Nat) : (leaveWaitList k s).upsets = s.upsets := rfl
@[simp] theorem leaveWaitList_due (k : Nat) : (leaveWaitList k s).due = s.due := rfl
@[simp] theorem leaveWaitList_pending (k : Nat) : (leaveWaitList k s).pending = s.pending := rfl
/-- Leaving the wait list takes the slots out of it and out of the span, ends the walk at most, and changes
nothing else of the Seat Allocator. -/
theorem Sal.leave_cases (gone : List Nat) (l : Sal) :
    (l.leave gone).wait = l.wait.filter (!gone.contains ·) ∧ (l.leave gone).cursors = l.cursors ∧
      (l.leave gone).serving = l.serving ∧ (l.leave gone).last = l.last ∧ (l.leave gone).reqDoor0 = l.reqDoor0 ∧
      (l.leave gone).reqDoor1 = l.reqDoor1 ∧ (l.leave gone).reqStation = l.reqStation := by
  unfold Sal.leave
  split
  · rename_i h
    refine ⟨(List.filter_eq_self.2 fun a ha => ?_).symm, rfl, rfl, rfl, rfl, rfl, rfl⟩
    simp only [Bool.not_eq_true', List.any_eq_false] at h
    simpa using h a ha
  · dsimp only
    split <;> simp [Sal.walkEnded]

theorem Sal.left_cases (k : Nat) (l : Sal) :
    (l.left k).wait = l.wait.filter (· != k) ∧ (l.left k).cursors = l.cursors ∧
      (l.left k).serving = l.serving ∧ (l.left k).last = l.last ∧ (l.left k).reqDoor0 = l.reqDoor0 ∧
      (l.left k).reqDoor1 = l.reqDoor1 ∧ (l.left k).reqStation = l.reqStation := by
  refine ⟨(Sal.leave_cases [k] l).1.trans (List.filter_congr fun a _ => ?_), (Sal.leave_cases [k] l).2⟩
  by_cases h : a = k <;> simp [h]

@[simp] theorem leaveTogether_sli (gone : List Nat) : (leaveTogether gone s).sli = s.sli := rfl
@[simp] theorem leaveTogether_hmu (gone : List Nat) : (leaveTogether gone s).hmu = s.hmu := rfl
@[simp] theorem leaveTogether_rsu (gone : List Nat) : (leaveTogether gone s).rsu = s.rsu := rfl
@[simp] theorem leaveTogether_htb (gone : List Nat) : (leaveTogether gone s).htb = s.htb := rfl
@[simp] theorem leaveTogether_ssu (gone : List Nat) : (leaveTogether gone s).ssu = s.ssu := rfl
@[simp] theorem leaveTogether_dbc (gone : List Nat) : (leaveTogether gone s).dbc = s.dbc := rfl
@[simp] theorem leaveTogether_clu (gone : List Nat) : (leaveTogether gone s).clu = s.clu := rfl
@[simp] theorem leaveTogether_mru (gone : List Nat) : (leaveTogether gone s).mru = s.mru := rfl
@[simp] theorem leaveTogether_fcu (gone : List Nat) : (leaveTogether gone s).fcu = s.fcu := rfl
@[simp] theorem leaveTogether_upsets (gone : List Nat) : (leaveTogether gone s).upsets = s.upsets := rfl
@[simp] theorem leaveTogether_due (gone : List Nat) : (leaveTogether gone s).due = s.due := rfl
@[simp] theorem leaveTogether_pending (gone : List Nat) : (leaveTogether gone s).pending = s.pending := rfl
@[simp] theorem leaveTogether_sal_wait (gone : List Nat) :
    (leaveTogether gone s).sal.wait = s.sal.wait.filter (!gone.contains ·) := (Sal.leave_cases gone s.sal).1
@[simp] theorem leaveTogether_sal_serving (gone : List Nat) : (leaveTogether gone s).sal.serving = s.sal.serving :=
  (Sal.leave_cases gone s.sal).2.2.1
@[simp] theorem leaveWaitList_sal_wait (k : Nat) : (leaveWaitList k s).sal.wait = s.sal.wait.filter (· != k) :=
  (Sal.left_cases k s.sal).1
@[simp] theorem leaveWaitList_sal_cursors (k : Nat) : (leaveWaitList k s).sal.cursors = s.sal.cursors :=
  (Sal.left_cases k s.sal).2.1
@[simp] theorem leaveWaitList_sal_serving (k : Nat) : (leaveWaitList k s).sal.serving = s.sal.serving :=
  (Sal.left_cases k s.sal).2.2.1

@[simp] theorem dropCall_sli (n : Nat) : (dropCall n s).sli = s.sli := rfl
@[simp] theorem dropCall_hmu (n : Nat) : (dropCall n s).hmu = s.hmu := rfl
@[simp] theorem dropCall_rsu (n : Nat) : (dropCall n s).rsu = s.rsu := rfl
@[simp] theorem dropCall_sal (n : Nat) : (dropCall n s).sal = s.sal := rfl
@[simp] theorem dropCall_htb (n : Nat) : (dropCall n s).htb = s.htb := rfl
@[simp] theorem dropCall_ssu (n : Nat) : (dropCall n s).ssu = s.ssu := rfl
@[simp] theorem dropCall_clu (n : Nat) : (dropCall n s).clu = s.clu := rfl
@[simp] theorem dropCall_mru (n : Nat) : (dropCall n s).mru = s.mru := rfl
@[simp] theorem dropCall_fcu (n : Nat) : (dropCall n s).fcu = s.fcu := rfl
@[simp] theorem dropCall_upsets (n : Nat) : (dropCall n s).upsets = s.upsets := rfl
@[simp] theorem dropCall_due (n : Nat) : (dropCall n s).due = s.due := rfl
@[simp] theorem dropCall_pending (n : Nat) : (dropCall n s).pending = s.pending := rfl
@[simp] theorem dropCall_dbc_calls (n : Nat) : (dropCall n s).dbc.calls = s.dbc.calls.filter fun c => c.seat != n := rfl
@[simp] theorem dropCall_dbc_desks (n : Nat) : (dropCall n s).dbc.desks = s.dbc.desks := rfl
@[simp] theorem dropCall_dbc_exchange (n : Nat) : (dropCall n s).dbc.exchange = s.dbc.exchange := rfl
@[simp] theorem dropCall_dbc_inverted (n : Nat) : (dropCall n s).dbc.inverted = s.dbc.inverted := rfl

@[simp] theorem queueRetries_sli (p : SheetException → Bool) : (queueRetries p s).sli = s.sli := rfl
@[simp] theorem queueRetries_hmu (p : SheetException → Bool) : (queueRetries p s).hmu = s.hmu := rfl
@[simp] theorem queueRetries_rsu (p : SheetException → Bool) : (queueRetries p s).rsu = s.rsu := rfl
@[simp] theorem queueRetries_sal (p : SheetException → Bool) : (queueRetries p s).sal = s.sal := rfl
@[simp] theorem queueRetries_htb (p : SheetException → Bool) : (queueRetries p s).htb = s.htb := rfl
@[simp] theorem queueRetries_ssu (p : SheetException → Bool) : (queueRetries p s).ssu = s.ssu := rfl
@[simp] theorem queueRetries_dbc (p : SheetException → Bool) : (queueRetries p s).dbc = s.dbc := rfl
@[simp] theorem queueRetries_clu (p : SheetException → Bool) : (queueRetries p s).clu = s.clu := rfl
@[simp] theorem queueRetries_fcu (p : SheetException → Bool) : (queueRetries p s).fcu = s.fcu := rfl
@[simp] theorem queueRetries_upsets (p : SheetException → Bool) : (queueRetries p s).upsets = s.upsets := rfl
@[simp] theorem queueRetries_due (p : SheetException → Bool) : (queueRetries p s).due = s.due := rfl
@[simp] theorem queueRetries_pending (p : SheetException → Bool) : (queueRetries p s).pending = s.pending := rfl
@[simp] theorem queueRetries_mru_results (p : SheetException → Bool) : (queueRetries p s).mru.results = s.mru.results := rfl
@[simp] theorem queueRetries_mru_marker (p : SheetException → Bool) : (queueRetries p s).mru.marker = s.mru.marker := rfl
@[simp] theorem queueRetries_mru_forms (p : SheetException → Bool) : (queueRetries p s).mru.forms = s.mru.forms := rfl
@[simp] theorem queueRetries_mru_keys (p : SheetException → Bool) : (queueRetries p s).mru.keys = s.mru.keys := rfl

@[simp] theorem State.withZone_sli (z : Nat) (r : Zone) : (s.withZone z r).sli = s.sli := rfl
@[simp] theorem State.withZone_rsu (z : Nat) (r : Zone) : (s.withZone z r).rsu = s.rsu := rfl
@[simp] theorem State.withZone_sal (z : Nat) (r : Zone) : (s.withZone z r).sal = s.sal := rfl
@[simp] theorem State.withZone_htb (z : Nat) (r : Zone) : (s.withZone z r).htb = s.htb := rfl
@[simp] theorem State.withZone_ssu (z : Nat) (r : Zone) : (s.withZone z r).ssu = s.ssu := rfl
@[simp] theorem State.withZone_dbc (z : Nat) (r : Zone) : (s.withZone z r).dbc = s.dbc := rfl
@[simp] theorem State.withZone_clu (z : Nat) (r : Zone) : (s.withZone z r).clu = s.clu := rfl
@[simp] theorem State.withZone_mru (z : Nat) (r : Zone) : (s.withZone z r).mru = s.mru := rfl
@[simp] theorem State.withZone_fcu (z : Nat) (r : Zone) : (s.withZone z r).fcu = s.fcu := rfl
@[simp] theorem State.withZone_upsets (z : Nat) (r : Zone) : (s.withZone z r).upsets = s.upsets := rfl
@[simp] theorem State.withZone_due (z : Nat) (r : Zone) : (s.withZone z r).due = s.due := rfl
@[simp] theorem State.withZone_pending (z : Nat) (r : Zone) : (s.withZone z r).pending = s.pending := rfl
@[simp] theorem State.withZone_hmu_zones (z : Nat) (r : Zone) : (s.withZone z r).hmu.zones = s.hmu.zones.put z r := rfl
@[simp] theorem State.withZone_hmu_rows (z : Nat) (r : Zone) : (s.withZone z r).hmu.rows = s.hmu.rows := rfl
@[simp] theorem State.withZone_hmu_seats (z : Nat) (r : Zone) : (s.withZone z r).hmu.seats = s.hmu.seats := rfl

@[simp] theorem State.withSeat_sli (n : Nat) (r : Seat) : (s.withSeat n r).sli = s.sli := rfl
@[simp] theorem State.withSeat_rsu (n : Nat) (r : Seat) : (s.withSeat n r).rsu = s.rsu := rfl
@[simp] theorem State.withSeat_sal (n : Nat) (r : Seat) : (s.withSeat n r).sal = s.sal := rfl
@[simp] theorem State.withSeat_htb (n : Nat) (r : Seat) : (s.withSeat n r).htb = s.htb := rfl
@[simp] theorem State.withSeat_ssu (n : Nat) (r : Seat) : (s.withSeat n r).ssu = s.ssu := rfl
@[simp] theorem State.withSeat_dbc (n : Nat) (r : Seat) : (s.withSeat n r).dbc = s.dbc := rfl
@[simp] theorem State.withSeat_clu (n : Nat) (r : Seat) : (s.withSeat n r).clu = s.clu := rfl
@[simp] theorem State.withSeat_mru (n : Nat) (r : Seat) : (s.withSeat n r).mru = s.mru := rfl
@[simp] theorem State.withSeat_fcu (n : Nat) (r : Seat) : (s.withSeat n r).fcu = s.fcu := rfl
@[simp] theorem State.withSeat_upsets (n : Nat) (r : Seat) : (s.withSeat n r).upsets = s.upsets := rfl
@[simp] theorem State.withSeat_due (n : Nat) (r : Seat) : (s.withSeat n r).due = s.due := rfl
@[simp] theorem State.withSeat_pending (n : Nat) (r : Seat) : (s.withSeat n r).pending = s.pending := rfl
@[simp] theorem State.withSeat_hmu_seats (n : Nat) (r : Seat) : (s.withSeat n r).hmu.seats = s.hmu.seats.put n r := rfl
@[simp] theorem State.withSeat_hmu_rows (n : Nat) (r : Seat) : (s.withSeat n r).hmu.rows = s.hmu.rows := rfl
@[simp] theorem State.withSeat_hmu_zones (n : Nat) (r : Seat) : (s.withSeat n r).hmu.zones = s.hmu.zones := rfl

@[simp] theorem State.withPaperRecord_sli (p : Nat) (r : Paper) : (s.withPaperRecord p r).sli = s.sli := rfl
@[simp] theorem State.withPaperRecord_hmu (p : Nat) (r : Paper) : (s.withPaperRecord p r).hmu = s.hmu := rfl
@[simp] theorem State.withPaperRecord_rsu (p : Nat) (r : Paper) : (s.withPaperRecord p r).rsu = s.rsu := rfl
@[simp] theorem State.withPaperRecord_sal (p : Nat) (r : Paper) : (s.withPaperRecord p r).sal = s.sal := rfl
@[simp] theorem State.withPaperRecord_htb (p : Nat) (r : Paper) : (s.withPaperRecord p r).htb = s.htb := rfl
@[simp] theorem State.withPaperRecord_dbc (p : Nat) (r : Paper) : (s.withPaperRecord p r).dbc = s.dbc := rfl
@[simp] theorem State.withPaperRecord_clu (p : Nat) (r : Paper) : (s.withPaperRecord p r).clu = s.clu := rfl
@[simp] theorem State.withPaperRecord_mru (p : Nat) (r : Paper) : (s.withPaperRecord p r).mru = s.mru := rfl
@[simp] theorem State.withPaperRecord_fcu (p : Nat) (r : Paper) : (s.withPaperRecord p r).fcu = s.fcu := rfl
@[simp] theorem State.withPaperRecord_upsets (p : Nat) (r : Paper) : (s.withPaperRecord p r).upsets = s.upsets := rfl
@[simp] theorem State.withPaperRecord_due (p : Nat) (r : Paper) : (s.withPaperRecord p r).due = s.due := rfl
@[simp] theorem State.withPaperRecord_pending (p : Nat) (r : Paper) : (s.withPaperRecord p r).pending = s.pending := rfl
@[simp] theorem State.withPaperRecord_ssu_papers (p : Nat) (r : Paper) : (s.withPaperRecord p r).ssu.papers = s.ssu.papers.put p r := rfl
@[simp] theorem State.withPaperRecord_ssu_held (p : Nat) (r : Paper) : (s.withPaperRecord p r).ssu.held = s.ssu.held := rfl

@[simp] theorem State.withSlot_sli (k : Nat) (c : Candidate) (g : Clock) : (s.withSlot k c g).sli = s.sli := rfl
@[simp] theorem State.withSlot_hmu (k : Nat) (c : Candidate) (g : Clock) : (s.withSlot k c g).hmu = s.hmu := rfl
@[simp] theorem State.withSlot_sal (k : Nat) (c : Candidate) (g : Clock) : (s.withSlot k c g).sal = s.sal := rfl
@[simp] theorem State.withSlot_htb (k : Nat) (c : Candidate) (g : Clock) : (s.withSlot k c g).htb = s.htb := rfl
@[simp] theorem State.withSlot_ssu (k : Nat) (c : Candidate) (g : Clock) : (s.withSlot k c g).ssu = s.ssu := rfl
@[simp] theorem State.withSlot_dbc (k : Nat) (c : Candidate) (g : Clock) : (s.withSlot k c g).dbc = s.dbc := rfl
@[simp] theorem State.withSlot_clu (k : Nat) (c : Candidate) (g : Clock) : (s.withSlot k c g).clu = s.clu := rfl
@[simp] theorem State.withSlot_mru (k : Nat) (c : Candidate) (g : Clock) : (s.withSlot k c g).mru = s.mru := rfl
@[simp] theorem State.withSlot_fcu (k : Nat) (c : Candidate) (g : Clock) : (s.withSlot k c g).fcu = s.fcu := rfl
@[simp] theorem State.withSlot_upsets (k : Nat) (c : Candidate) (g : Clock) : (s.withSlot k c g).upsets = s.upsets := rfl
@[simp] theorem State.withSlot_due (k : Nat) (c : Candidate) (g : Clock) : (s.withSlot k c g).due = s.due := rfl
@[simp] theorem State.withSlot_pending (k : Nat) (c : Candidate) (g : Clock) : (s.withSlot k c g).pending = s.pending := rfl
@[simp] theorem State.withSlot_rsu_door0 (k : Nat) (c : Candidate) (g : Clock) : (s.withSlot k c g).rsu.door0 = s.rsu.door0 := rfl
@[simp] theorem State.withSlot_rsu_door1 (k : Nat) (c : Candidate) (g : Clock) : (s.withSlot k c g).rsu.door1 = s.rsu.door1 := rfl

@[simp] theorem State.withDesk_sli (a : Nat) (d : Desk) : (s.withDesk a d).sli = s.sli := rfl
@[simp] theorem State.withDesk_hmu (a : Nat) (d : Desk) : (s.withDesk a d).hmu = s.hmu := rfl
@[simp] theorem State.withDesk_rsu (a : Nat) (d : Desk) : (s.withDesk a d).rsu = s.rsu := rfl
@[simp] theorem State.withDesk_sal (a : Nat) (d : Desk) : (s.withDesk a d).sal = s.sal := rfl
@[simp] theorem State.withDesk_htb (a : Nat) (d : Desk) : (s.withDesk a d).htb = s.htb := rfl
@[simp] theorem State.withDesk_ssu (a : Nat) (d : Desk) : (s.withDesk a d).ssu = s.ssu := rfl
@[simp] theorem State.withDesk_clu (a : Nat) (d : Desk) : (s.withDesk a d).clu = s.clu := rfl
@[simp] theorem State.withDesk_mru (a : Nat) (d : Desk) : (s.withDesk a d).mru = s.mru := rfl
@[simp] theorem State.withDesk_fcu (a : Nat) (d : Desk) : (s.withDesk a d).fcu = s.fcu := rfl
@[simp] theorem State.withDesk_upsets (a : Nat) (d : Desk) : (s.withDesk a d).upsets = s.upsets := rfl
@[simp] theorem State.withDesk_due (a : Nat) (d : Desk) : (s.withDesk a d).due = s.due := rfl
@[simp] theorem State.withDesk_pending (a : Nat) (d : Desk) : (s.withDesk a d).pending = s.pending := rfl
@[simp] theorem State.withDesk_dbc_desks (a : Nat) (d : Desk) : (s.withDesk a d).dbc.desks = s.dbc.desks.put a d := rfl
@[simp] theorem State.withDesk_dbc_calls (a : Nat) (d : Desk) : (s.withDesk a d).dbc.calls = s.dbc.calls := rfl

/-! ### Updates that depend on the state -/

@[simp] theorem joinQueue_hmu (n : Notice) : (joinQueue n s).hmu = s.hmu := by unfold joinQueue; split <;> rfl
@[simp] theorem joinQueue_rsu (n : Notice) : (joinQueue n s).rsu = s.rsu := by unfold joinQueue; split <;> rfl
@[simp] theorem joinQueue_sal (n : Notice) : (joinQueue n s).sal = s.sal := by unfold joinQueue; split <;> rfl
@[simp] theorem joinQueue_htb (n : Notice) : (joinQueue n s).htb = s.htb := by unfold joinQueue; split <;> rfl
@[simp] theorem joinQueue_ssu (n : Notice) : (joinQueue n s).ssu = s.ssu := by unfold joinQueue; split <;> rfl
@[simp] theorem joinQueue_dbc (n : Notice) : (joinQueue n s).dbc = s.dbc := by unfold joinQueue; split <;> rfl
@[simp] theorem joinQueue_clu (n : Notice) : (joinQueue n s).clu = s.clu := by unfold joinQueue; split <;> rfl
@[simp] theorem joinQueue_mru (n : Notice) : (joinQueue n s).mru = s.mru := by unfold joinQueue; split <;> rfl
@[simp] theorem joinQueue_fcu (n : Notice) : (joinQueue n s).fcu = s.fcu := by unfold joinQueue; split <;> rfl
@[simp] theorem joinQueue_upsets (n : Notice) : (joinQueue n s).upsets = s.upsets := by unfold joinQueue; split <;> rfl
@[simp] theorem joinQueue_due (n : Notice) : (joinQueue n s).due = s.due := by unfold joinQueue; split <;> rfl
@[simp] theorem joinQueue_pending (n : Notice) : (joinQueue n s).pending = s.pending := by unfold joinQueue; split <;> rfl

@[simp] theorem notify_hmu (k : NoticeKind) (l : List Field) : (notify k l s).hmu = s.hmu := by unfold notify joinQueue; split <;> rfl
@[simp] theorem notify_rsu (k : NoticeKind) (l : List Field) : (notify k l s).rsu = s.rsu := by unfold notify joinQueue; split <;> rfl
@[simp] theorem notify_sal (k : NoticeKind) (l : List Field) : (notify k l s).sal = s.sal := by unfold notify joinQueue; split <;> rfl
@[simp] theorem notify_htb (k : NoticeKind) (l : List Field) : (notify k l s).htb = s.htb := by unfold notify joinQueue; split <;> rfl
@[simp] theorem notify_ssu (k : NoticeKind) (l : List Field) : (notify k l s).ssu = s.ssu := by unfold notify joinQueue; split <;> rfl
@[simp] theorem notify_dbc (k : NoticeKind) (l : List Field) : (notify k l s).dbc = s.dbc := by unfold notify joinQueue; split <;> rfl
@[simp] theorem notify_clu (k : NoticeKind) (l : List Field) : (notify k l s).clu = s.clu := by unfold notify joinQueue; split <;> rfl
@[simp] theorem notify_mru (k : NoticeKind) (l : List Field) : (notify k l s).mru = s.mru := by unfold notify joinQueue; split <;> rfl
@[simp] theorem notify_fcu (k : NoticeKind) (l : List Field) : (notify k l s).fcu = s.fcu := by unfold notify joinQueue; split <;> rfl
@[simp] theorem notify_upsets (k : NoticeKind) (l : List Field) : (notify k l s).upsets = s.upsets := by unfold notify joinQueue; split <;> rfl
@[simp] theorem notify_due (k : NoticeKind) (l : List Field) : (notify k l s).due = s.due := by unfold notify joinQueue; split <;> rfl
@[simp] theorem notify_pending (k : NoticeKind) (l : List Field) : (notify k l s).pending = s.pending := by unfold notify joinQueue; split <;> rfl

@[simp] theorem capture_sli (f : FaultReport) : (capture f s).sli = s.sli := by unfold capture; split <;> rfl
@[simp] theorem capture_hmu (f : FaultReport) : (capture f s).hmu = s.hmu := by unfold capture; split <;> rfl
@[simp] theorem capture_rsu (f : FaultReport) : (capture f s).rsu = s.rsu := by unfold capture; split <;> rfl
@[simp] theorem capture_sal (f : FaultReport) : (capture f s).sal = s.sal := by unfold capture; split <;> rfl
@[simp] theorem capture_htb (f : FaultReport) : (capture f s).htb = s.htb := by unfold capture; split <;> rfl
@[simp] theorem capture_ssu (f : FaultReport) : (capture f s).ssu = s.ssu := by unfold capture; split <;> rfl
@[simp] theorem capture_dbc (f : FaultReport) : (capture f s).dbc = s.dbc := by unfold capture; split <;> rfl
@[simp] theorem capture_clu (f : FaultReport) : (capture f s).clu = s.clu := by unfold capture; split <;> rfl
@[simp] theorem capture_mru (f : FaultReport) : (capture f s).mru = s.mru := by unfold capture; split <;> rfl
@[simp] theorem capture_upsets (f : FaultReport) : (capture f s).upsets = s.upsets := by unfold capture; split <;> rfl
@[simp] theorem capture_due (f : FaultReport) : (capture f s).due = s.due := by unfold capture; split <;> rfl
@[simp] theorem capture_pending (f : FaultReport) : (capture f s).pending = s.pending := by unfold capture; split <;> rfl

@[simp] theorem notifyFault_hmu (f : FaultReport) : (notifyFault f s).hmu = s.hmu := by unfold notifyFault; split <;> (try split) <;> simp
@[simp] theorem notifyFault_rsu (f : FaultReport) : (notifyFault f s).rsu = s.rsu := by unfold notifyFault; split <;> (try split) <;> simp
@[simp] theorem notifyFault_sal (f : FaultReport) : (notifyFault f s).sal = s.sal := by unfold notifyFault; split <;> (try split) <;> simp
@[simp] theorem notifyFault_htb (f : FaultReport) : (notifyFault f s).htb = s.htb := by unfold notifyFault; split <;> (try split) <;> simp
@[simp] theorem notifyFault_ssu (f : FaultReport) : (notifyFault f s).ssu = s.ssu := by unfold notifyFault; split <;> (try split) <;> simp
@[simp] theorem notifyFault_dbc (f : FaultReport) : (notifyFault f s).dbc = s.dbc := by unfold notifyFault; split <;> (try split) <;> simp
@[simp] theorem notifyFault_clu (f : FaultReport) : (notifyFault f s).clu = s.clu := by unfold notifyFault; split <;> (try split) <;> simp
@[simp] theorem notifyFault_mru (f : FaultReport) : (notifyFault f s).mru = s.mru := by unfold notifyFault; split <;> (try split) <;> simp
@[simp] theorem notifyFault_upsets (f : FaultReport) : (notifyFault f s).upsets = s.upsets := by unfold notifyFault; split <;> (try split) <;> simp
@[simp] theorem notifyFault_due (f : FaultReport) : (notifyFault f s).due = s.due := by unfold notifyFault; split <;> (try split) <;> simp
@[simp] theorem notifyFault_pending (f : FaultReport) : (notifyFault f s).pending = s.pending := by unfold notifyFault; split <;> (try split) <;> simp

@[simp] theorem takeFault_hmu (a : FaultSource) (b : FaultRecord) (i : Option Nat) (k : FaultKind) : (takeFault a b i k s).hmu = s.hmu := by unfold takeFault; dsimp only; split <;> split <;> simp
@[simp] theorem takeFault_rsu (a : FaultSource) (b : FaultRecord) (i : Option Nat) (k : FaultKind) : (takeFault a b i k s).rsu = s.rsu := by unfold takeFault; dsimp only; split <;> split <;> simp
@[simp] theorem takeFault_sal (a : FaultSource) (b : FaultRecord) (i : Option Nat) (k : FaultKind) : (takeFault a b i k s).sal = s.sal := by unfold takeFault; dsimp only; split <;> split <;> simp
@[simp] theorem takeFault_htb (a : FaultSource) (b : FaultRecord) (i : Option Nat) (k : FaultKind) : (takeFault a b i k s).htb = s.htb := by unfold takeFault; dsimp only; split <;> split <;> simp
@[simp] theorem takeFault_ssu (a : FaultSource) (b : FaultRecord) (i : Option Nat) (k : FaultKind) : (takeFault a b i k s).ssu = s.ssu := by unfold takeFault; dsimp only; split <;> split <;> simp
@[simp] theorem takeFault_dbc (a : FaultSource) (b : FaultRecord) (i : Option Nat) (k : FaultKind) : (takeFault a b i k s).dbc = s.dbc := by unfold takeFault; dsimp only; split <;> split <;> simp
@[simp] theorem takeFault_clu (a : FaultSource) (b : FaultRecord) (i : Option Nat) (k : FaultKind) : (takeFault a b i k s).clu = s.clu := by unfold takeFault; dsimp only; split <;> split <;> simp
@[simp] theorem takeFault_mru (a : FaultSource) (b : FaultRecord) (i : Option Nat) (k : FaultKind) : (takeFault a b i k s).mru = s.mru := by unfold takeFault; dsimp only; split <;> split <;> simp
@[simp] theorem takeFault_upsets (a : FaultSource) (b : FaultRecord) (i : Option Nat) (k : FaultKind) : (takeFault a b i k s).upsets = s.upsets := by unfold takeFault; dsimp only; split <;> split <;> simp
@[simp] theorem takeFault_due (a : FaultSource) (b : FaultRecord) (i : Option Nat) (k : FaultKind) : (takeFault a b i k s).due = s.due := by unfold takeFault; dsimp only; split <;> split <;> simp
@[simp] theorem takeFault_pending (a : FaultSource) (b : FaultRecord) (i : Option Nat) (k : FaultKind) : (takeFault a b i k s).pending = s.pending := by unfold takeFault; dsimp only; split <;> split <;> simp

@[simp] theorem requestPulse_sli : (requestPulse s).sli = s.sli := by unfold requestPulse; split <;> rfl
@[simp] theorem requestPulse_hmu : (requestPulse s).hmu = s.hmu := by unfold requestPulse; split <;> rfl
@[simp] theorem requestPulse_rsu : (requestPulse s).rsu = s.rsu := by unfold requestPulse; split <;> rfl
@[simp] theorem requestPulse_sal : (requestPulse s).sal = s.sal := by unfold requestPulse; split <;> rfl
@[simp] theorem requestPulse_htb : (requestPulse s).htb = s.htb := by unfold requestPulse; split <;> rfl
@[simp] theorem requestPulse_dbc : (requestPulse s).dbc = s.dbc := by unfold requestPulse; split <;> rfl
@[simp] theorem requestPulse_clu : (requestPulse s).clu = s.clu := by unfold requestPulse; split <;> rfl
@[simp] theorem requestPulse_mru : (requestPulse s).mru = s.mru := by unfold requestPulse; split <;> rfl
@[simp] theorem requestPulse_fcu : (requestPulse s).fcu = s.fcu := by unfold requestPulse; split <;> rfl
@[simp] theorem requestPulse_upsets : (requestPulse s).upsets = s.upsets := by unfold requestPulse; split <;> rfl
@[simp] theorem requestPulse_due : (requestPulse s).due = s.due := by unfold requestPulse; split <;> rfl
@[simp] theorem requestPulse_pending : (requestPulse s).pending = s.pending := by unfold requestPulse; split <;> rfl

@[simp] theorem enterPaperState_hmu (p : Nat) (st : PaperState) : (enterPaperState p st s).hmu = s.hmu := by simp [enterPaperState]
@[simp] theorem enterPaperState_rsu (p : Nat) (st : PaperState) : (enterPaperState p st s).rsu = s.rsu := by simp [enterPaperState]
@[simp] theorem enterPaperState_sal (p : Nat) (st : PaperState) : (enterPaperState p st s).sal = s.sal := by simp [enterPaperState]
@[simp] theorem enterPaperState_htb (p : Nat) (st : PaperState) : (enterPaperState p st s).htb = s.htb := by simp [enterPaperState]
@[simp] theorem enterPaperState_dbc (p : Nat) (st : PaperState) : (enterPaperState p st s).dbc = s.dbc := by simp [enterPaperState]
@[simp] theorem enterPaperState_clu (p : Nat) (st : PaperState) : (enterPaperState p st s).clu = s.clu := by simp [enterPaperState]
@[simp] theorem enterPaperState_mru (p : Nat) (st : PaperState) : (enterPaperState p st s).mru = s.mru := by simp [enterPaperState]
@[simp] theorem enterPaperState_fcu (p : Nat) (st : PaperState) : (enterPaperState p st s).fcu = s.fcu := by simp [enterPaperState]
@[simp] theorem enterPaperState_upsets (p : Nat) (st : PaperState) : (enterPaperState p st s).upsets = s.upsets := by simp [enterPaperState]
@[simp] theorem enterPaperState_due (p : Nat) (st : PaperState) : (enterPaperState p st s).due = s.due := by simp [enterPaperState]
@[simp] theorem enterPaperState_pending (p : Nat) (st : PaperState) : (enterPaperState p st s).pending = s.pending := by simp [enterPaperState]

@[simp] theorem retryTrigger_sli : (retryTrigger s).sli = s.sli := by unfold retryTrigger; split <;> (try split) <;> rfl
@[simp] theorem retryTrigger_hmu : (retryTrigger s).hmu = s.hmu := by unfold retryTrigger; split <;> (try split) <;> rfl
@[simp] theorem retryTrigger_rsu : (retryTrigger s).rsu = s.rsu := by unfold retryTrigger; split <;> (try split) <;> rfl
@[simp] theorem retryTrigger_htb : (retryTrigger s).htb = s.htb := by unfold retryTrigger; split <;> (try split) <;> rfl
@[simp] theorem retryTrigger_ssu : (retryTrigger s).ssu = s.ssu := by unfold retryTrigger; split <;> (try split) <;> rfl
@[simp] theorem retryTrigger_dbc : (retryTrigger s).dbc = s.dbc := by unfold retryTrigger; split <;> (try split) <;> rfl
@[simp] theorem retryTrigger_clu : (retryTrigger s).clu = s.clu := by unfold retryTrigger; split <;> (try split) <;> rfl
@[simp] theorem retryTrigger_mru : (retryTrigger s).mru = s.mru := by unfold retryTrigger; split <;> (try split) <;> rfl
@[simp] theorem retryTrigger_fcu : (retryTrigger s).fcu = s.fcu := by unfold retryTrigger; split <;> (try split) <;> rfl
@[simp] theorem retryTrigger_upsets : (retryTrigger s).upsets = s.upsets := by unfold retryTrigger; split <;> (try split) <;> rfl
@[simp] theorem retryTrigger_due : (retryTrigger s).due = s.due := by unfold retryTrigger; split <;> (try split) <;> rfl
@[simp] theorem retryTrigger_pending : (retryTrigger s).pending = s.pending := by unfold retryTrigger; split <;> (try split) <;> rfl

@[simp] theorem setBuffer_sli (b : Nat) (r : Buffer) : (setBuffer b r s).sli = s.sli := by unfold setBuffer; split <;> rfl
@[simp] theorem setBuffer_hmu (b : Nat) (r : Buffer) : (setBuffer b r s).hmu = s.hmu := by unfold setBuffer; split <;> rfl
@[simp] theorem setBuffer_rsu (b : Nat) (r : Buffer) : (setBuffer b r s).rsu = s.rsu := by unfold setBuffer; split <;> rfl
@[simp] theorem setBuffer_sal (b : Nat) (r : Buffer) : (setBuffer b r s).sal = s.sal := by unfold setBuffer; split <;> rfl
@[simp] theorem setBuffer_htb (b : Nat) (r : Buffer) : (setBuffer b r s).htb = s.htb := by unfold setBuffer; split <;> rfl
@[simp] theorem setBuffer_ssu (b : Nat) (r : Buffer) : (setBuffer b r s).ssu = s.ssu := by unfold setBuffer; split <;> rfl
@[simp] theorem setBuffer_dbc (b : Nat) (r : Buffer) : (setBuffer b r s).dbc = s.dbc := by unfold setBuffer; split <;> rfl
@[simp] theorem setBuffer_clu (b : Nat) (r : Buffer) : (setBuffer b r s).clu = s.clu := by unfold setBuffer; split <;> rfl
@[simp] theorem setBuffer_fcu (b : Nat) (r : Buffer) : (setBuffer b r s).fcu = s.fcu := by unfold setBuffer; split <;> rfl
@[simp] theorem setBuffer_upsets (b : Nat) (r : Buffer) : (setBuffer b r s).upsets = s.upsets := by unfold setBuffer; split <;> rfl
@[simp] theorem setBuffer_due (b : Nat) (r : Buffer) : (setBuffer b r s).due = s.due := by unfold setBuffer; split <;> rfl
@[simp] theorem setBuffer_pending (b : Nat) (r : Buffer) : (setBuffer b r s).pending = s.pending := by unfold setBuffer; split <;> rfl

@[simp] theorem answerTaken_hmu (a : Answer) : (answerTaken a s).hmu = s.hmu := by unfold answerTaken; split <;> rfl
@[simp] theorem answerTaken_rsu (a : Answer) : (answerTaken a s).rsu = s.rsu := by unfold answerTaken; split <;> rfl
@[simp] theorem answerTaken_sal (a : Answer) : (answerTaken a s).sal = s.sal := by unfold answerTaken; split <;> rfl
@[simp] theorem answerTaken_htb (a : Answer) : (answerTaken a s).htb = s.htb := by unfold answerTaken; split <;> rfl
@[simp] theorem answerTaken_ssu (a : Answer) : (answerTaken a s).ssu = s.ssu := by unfold answerTaken; split <;> rfl
@[simp] theorem answerTaken_dbc (a : Answer) : (answerTaken a s).dbc = s.dbc := by unfold answerTaken; split <;> rfl
@[simp] theorem answerTaken_clu (a : Answer) : (answerTaken a s).clu = s.clu := by unfold answerTaken; split <;> rfl
@[simp] theorem answerTaken_mru (a : Answer) : (answerTaken a s).mru = s.mru := by unfold answerTaken; split <;> rfl
@[simp] theorem answerTaken_fcu (a : Answer) : (answerTaken a s).fcu = s.fcu := by unfold answerTaken; split <;> rfl
@[simp] theorem answerTaken_upsets (a : Answer) : (answerTaken a s).upsets = s.upsets := by unfold answerTaken; split <;> rfl
@[simp] theorem answerTaken_due (a : Answer) : (answerTaken a s).due = s.due := by unfold answerTaken; split <;> rfl
@[simp] theorem answerTaken_pending (a : Answer) : (answerTaken a s).pending = s.pending := by unfold answerTaken; split <;> rfl

@[simp] theorem startOutput_hmu : (startOutput s).hmu = s.hmu := by unfold startOutput; cases s.sli.sending <;> cases s.sli.start <;> cases s.sli.replies <;> cases s.sli.notices <;> rfl
@[simp] theorem startOutput_rsu : (startOutput s).rsu = s.rsu := by unfold startOutput; cases s.sli.sending <;> cases s.sli.start <;> cases s.sli.replies <;> cases s.sli.notices <;> rfl
@[simp] theorem startOutput_sal : (startOutput s).sal = s.sal := by unfold startOutput; cases s.sli.sending <;> cases s.sli.start <;> cases s.sli.replies <;> cases s.sli.notices <;> rfl
@[simp] theorem startOutput_htb : (startOutput s).htb = s.htb := by unfold startOutput; cases s.sli.sending <;> cases s.sli.start <;> cases s.sli.replies <;> cases s.sli.notices <;> rfl
@[simp] theorem startOutput_ssu : (startOutput s).ssu = s.ssu := by unfold startOutput; cases s.sli.sending <;> cases s.sli.start <;> cases s.sli.replies <;> cases s.sli.notices <;> rfl
@[simp] theorem startOutput_dbc : (startOutput s).dbc = s.dbc := by unfold startOutput; cases s.sli.sending <;> cases s.sli.start <;> cases s.sli.replies <;> cases s.sli.notices <;> rfl
@[simp] theorem startOutput_clu : (startOutput s).clu = s.clu := by unfold startOutput; cases s.sli.sending <;> cases s.sli.start <;> cases s.sli.replies <;> cases s.sli.notices <;> rfl
@[simp] theorem startOutput_mru : (startOutput s).mru = s.mru := by unfold startOutput; cases s.sli.sending <;> cases s.sli.start <;> cases s.sli.replies <;> cases s.sli.notices <;> rfl
@[simp] theorem startOutput_fcu : (startOutput s).fcu = s.fcu := by unfold startOutput; cases s.sli.sending <;> cases s.sli.start <;> cases s.sli.replies <;> cases s.sli.notices <;> rfl
@[simp] theorem startOutput_upsets : (startOutput s).upsets = s.upsets := by unfold startOutput; cases s.sli.sending <;> cases s.sli.start <;> cases s.sli.replies <;> cases s.sli.notices <;> rfl
@[simp] theorem startOutput_due : (startOutput s).due = s.due := by unfold startOutput; cases s.sli.sending <;> cases s.sli.start <;> cases s.sli.replies <;> cases s.sli.notices <;> rfl
@[simp] theorem startOutput_pending : (startOutput s).pending = s.pending := by unfold startOutput; cases s.sli.sending <;> cases s.sli.start <;> cases s.sli.replies <;> cases s.sli.notices <;> rfl

@[simp] theorem recordLeaves_hmu : (recordLeaves s).hmu = s.hmu := by unfold recordLeaves; split <;> rfl
@[simp] theorem recordLeaves_rsu : (recordLeaves s).rsu = s.rsu := by unfold recordLeaves; split <;> rfl
@[simp] theorem recordLeaves_sal : (recordLeaves s).sal = s.sal := by unfold recordLeaves; split <;> rfl
@[simp] theorem recordLeaves_htb : (recordLeaves s).htb = s.htb := by unfold recordLeaves; split <;> rfl
@[simp] theorem recordLeaves_ssu : (recordLeaves s).ssu = s.ssu := by unfold recordLeaves; split <;> rfl
@[simp] theorem recordLeaves_dbc : (recordLeaves s).dbc = s.dbc := by unfold recordLeaves; split <;> rfl
@[simp] theorem recordLeaves_clu : (recordLeaves s).clu = s.clu := by unfold recordLeaves; split <;> rfl
@[simp] theorem recordLeaves_mru : (recordLeaves s).mru = s.mru := by unfold recordLeaves; split <;> rfl
@[simp] theorem recordLeaves_fcu : (recordLeaves s).fcu = s.fcu := by unfold recordLeaves; split <;> rfl
@[simp] theorem recordLeaves_upsets : (recordLeaves s).upsets = s.upsets := by unfold recordLeaves; split <;> rfl
@[simp] theorem recordLeaves_due : (recordLeaves s).due = s.due := by unfold recordLeaves; split <;> rfl
@[simp] theorem recordLeaves_pending : (recordLeaves s).pending = s.pending := by unfold recordLeaves; split <;> rfl

@[simp] theorem loseCharacters_hmu : (loseCharacters s).hmu = s.hmu := by unfold loseCharacters; split <;> rfl
@[simp] theorem loseCharacters_rsu : (loseCharacters s).rsu = s.rsu := by unfold loseCharacters; split <;> rfl
@[simp] theorem loseCharacters_sal : (loseCharacters s).sal = s.sal := by unfold loseCharacters; split <;> rfl
@[simp] theorem loseCharacters_htb : (loseCharacters s).htb = s.htb := by unfold loseCharacters; split <;> rfl
@[simp] theorem loseCharacters_ssu : (loseCharacters s).ssu = s.ssu := by unfold loseCharacters; split <;> rfl
@[simp] theorem loseCharacters_dbc : (loseCharacters s).dbc = s.dbc := by unfold loseCharacters; split <;> rfl
@[simp] theorem loseCharacters_clu : (loseCharacters s).clu = s.clu := by unfold loseCharacters; split <;> rfl
@[simp] theorem loseCharacters_mru : (loseCharacters s).mru = s.mru := by unfold loseCharacters; split <;> rfl
@[simp] theorem loseCharacters_fcu : (loseCharacters s).fcu = s.fcu := by unfold loseCharacters; split <;> rfl
@[simp] theorem loseCharacters_upsets : (loseCharacters s).upsets = s.upsets := by unfold loseCharacters; split <;> rfl
@[simp] theorem loseCharacters_due : (loseCharacters s).due = s.due := by unfold loseCharacters; split <;> rfl
@[simp] theorem loseCharacters_pending : (loseCharacters s).pending = s.pending := by unfold loseCharacters; split <;> rfl

@[simp] theorem breakRecord_hmu : (breakRecord s).hmu = s.hmu := by unfold breakRecord; split <;> rfl
@[simp] theorem breakRecord_rsu : (breakRecord s).rsu = s.rsu := by unfold breakRecord; split <;> rfl
@[simp] theorem breakRecord_sal : (breakRecord s).sal = s.sal := by unfold breakRecord; split <;> rfl
@[simp] theorem breakRecord_htb : (breakRecord s).htb = s.htb := by unfold breakRecord; split <;> rfl
@[simp] theorem breakRecord_ssu : (breakRecord s).ssu = s.ssu := by unfold breakRecord; split <;> rfl
@[simp] theorem breakRecord_dbc : (breakRecord s).dbc = s.dbc := by unfold breakRecord; split <;> rfl
@[simp] theorem breakRecord_clu : (breakRecord s).clu = s.clu := by unfold breakRecord; split <;> rfl
@[simp] theorem breakRecord_mru : (breakRecord s).mru = s.mru := by unfold breakRecord; split <;> rfl
@[simp] theorem breakRecord_fcu : (breakRecord s).fcu = s.fcu := by unfold breakRecord; split <;> rfl
@[simp] theorem breakRecord_upsets : (breakRecord s).upsets = s.upsets := by unfold breakRecord; split <;> rfl
@[simp] theorem breakRecord_due : (breakRecord s).due = s.due := by unfold breakRecord; split <;> rfl
@[simp] theorem breakRecord_pending : (breakRecord s).pending = s.pending := by unfold breakRecord; split <;> rfl

@[simp] theorem modCand_sli (k : Nat) (f : Candidate → Candidate) : (modCand k f s).sli = s.sli := by rfl
@[simp] theorem modCand_hmu (k : Nat) (f : Candidate → Candidate) : (modCand k f s).hmu = s.hmu := by rfl
@[simp] theorem modCand_sal (k : Nat) (f : Candidate → Candidate) : (modCand k f s).sal = s.sal := by rfl
@[simp] theorem modCand_htb (k : Nat) (f : Candidate → Candidate) : (modCand k f s).htb = s.htb := by rfl
@[simp] theorem modCand_ssu (k : Nat) (f : Candidate → Candidate) : (modCand k f s).ssu = s.ssu := by rfl
@[simp] theorem modCand_dbc (k : Nat) (f : Candidate → Candidate) : (modCand k f s).dbc = s.dbc := by rfl
@[simp] theorem modCand_clu (k : Nat) (f : Candidate → Candidate) : (modCand k f s).clu = s.clu := by rfl
@[simp] theorem modCand_mru (k : Nat) (f : Candidate → Candidate) : (modCand k f s).mru = s.mru := by rfl
@[simp] theorem modCand_fcu (k : Nat) (f : Candidate → Candidate) : (modCand k f s).fcu = s.fcu := by rfl
@[simp] theorem modCand_upsets (k : Nat) (f : Candidate → Candidate) : (modCand k f s).upsets = s.upsets := by rfl
@[simp] theorem modCand_due (k : Nat) (f : Candidate → Candidate) : (modCand k f s).due = s.due := by rfl
@[simp] theorem modCand_pending (k : Nat) (f : Candidate → Candidate) : (modCand k f s).pending = s.pending := by rfl

@[simp] theorem modClock_sli (k : Nat) (g : Clock → Clock) : (modClock k g s).sli = s.sli := by rfl
@[simp] theorem modClock_hmu (k : Nat) (g : Clock → Clock) : (modClock k g s).hmu = s.hmu := by rfl
@[simp] theorem modClock_sal (k : Nat) (g : Clock → Clock) : (modClock k g s).sal = s.sal := by rfl
@[simp] theorem modClock_htb (k : Nat) (g : Clock → Clock) : (modClock k g s).htb = s.htb := by rfl
@[simp] theorem modClock_ssu (k : Nat) (g : Clock → Clock) : (modClock k g s).ssu = s.ssu := by rfl
@[simp] theorem modClock_dbc (k : Nat) (g : Clock → Clock) : (modClock k g s).dbc = s.dbc := by rfl
@[simp] theorem modClock_clu (k : Nat) (g : Clock → Clock) : (modClock k g s).clu = s.clu := by rfl
@[simp] theorem modClock_mru (k : Nat) (g : Clock → Clock) : (modClock k g s).mru = s.mru := by rfl
@[simp] theorem modClock_fcu (k : Nat) (g : Clock → Clock) : (modClock k g s).fcu = s.fcu := by rfl
@[simp] theorem modClock_upsets (k : Nat) (g : Clock → Clock) : (modClock k g s).upsets = s.upsets := by rfl
@[simp] theorem modClock_due (k : Nat) (g : Clock → Clock) : (modClock k g s).due = s.due := by rfl
@[simp] theorem modClock_pending (k : Nat) (g : Clock → Clock) : (modClock k g s).pending = s.pending := by rfl

@[simp] theorem finishTaking_request_hmu (k : Nat) (a : Option Answer) : (finishTaking k (s, a)).hmu = s.hmu := by cases a <;> rfl
@[simp] theorem finishTaking_request_rsu (k : Nat) (a : Option Answer) : (finishTaking k (s, a)).rsu = s.rsu := by cases a <;> rfl
@[simp] theorem finishTaking_request_sal (k : Nat) (a : Option Answer) : (finishTaking k (s, a)).sal = s.sal := by cases a <;> rfl
@[simp] theorem finishTaking_request_htb (k : Nat) (a : Option Answer) : (finishTaking k (s, a)).htb = s.htb := by cases a <;> rfl
@[simp] theorem finishTaking_request_ssu (k : Nat) (a : Option Answer) : (finishTaking k (s, a)).ssu = s.ssu := by cases a <;> rfl
@[simp] theorem finishTaking_request_dbc (k : Nat) (a : Option Answer) : (finishTaking k (s, a)).dbc = s.dbc := by cases a <;> rfl
@[simp] theorem finishTaking_request_clu (k : Nat) (a : Option Answer) : (finishTaking k (s, a)).clu = s.clu := by cases a <;> rfl
@[simp] theorem finishTaking_request_mru (k : Nat) (a : Option Answer) : (finishTaking k (s, a)).mru = s.mru := by cases a <;> rfl
@[simp] theorem finishTaking_request_fcu (k : Nat) (a : Option Answer) : (finishTaking k (s, a)).fcu = s.fcu := by cases a <;> rfl
@[simp] theorem finishTaking_request_upsets (k : Nat) (a : Option Answer) : (finishTaking k (s, a)).upsets = s.upsets := by cases a <;> rfl
@[simp] theorem finishTaking_request_due (k : Nat) (a : Option Answer) : (finishTaking k (s, a)).due = s.due := by cases a <;> rfl
@[simp] theorem finishTaking_request_pending (k : Nat) (a : Option Answer) : (finishTaking k (s, a)).pending = s.pending := by cases a <;> rfl

@[simp] theorem setExpected_sli (k c : Nat) : (setExpected k c s).sli = s.sli := by rfl
@[simp] theorem setExpected_hmu (k c : Nat) : (setExpected k c s).hmu = s.hmu := by rfl
@[simp] theorem setExpected_rsu (k c : Nat) : (setExpected k c s).rsu = s.rsu := by rfl
@[simp] theorem setExpected_sal (k c : Nat) : (setExpected k c s).sal = s.sal := by rfl
@[simp] theorem setExpected_htb (k c : Nat) : (setExpected k c s).htb = s.htb := by rfl
@[simp] theorem setExpected_ssu (k c : Nat) : (setExpected k c s).ssu = s.ssu := by rfl
@[simp] theorem setExpected_dbc (k c : Nat) : (setExpected k c s).dbc = s.dbc := by rfl
@[simp] theorem setExpected_mru (k c : Nat) : (setExpected k c s).mru = s.mru := by rfl
@[simp] theorem setExpected_fcu (k c : Nat) : (setExpected k c s).fcu = s.fcu := by rfl
@[simp] theorem setExpected_upsets (k c : Nat) : (setExpected k c s).upsets = s.upsets := by rfl
@[simp] theorem setExpected_due (k c : Nat) : (setExpected k c s).due = s.due := by rfl
@[simp] theorem setExpected_pending (k c : Nat) : (setExpected k c s).pending = s.pending := by rfl

@[simp] theorem removeEntry_sli (k : Nat) : (removeEntry k s).sli = s.sli := by rfl
@[simp] theorem removeEntry_hmu (k : Nat) : (removeEntry k s).hmu = s.hmu := by rfl
@[simp] theorem removeEntry_rsu (k : Nat) : (removeEntry k s).rsu = s.rsu := by rfl
@[simp] theorem removeEntry_sal (k : Nat) : (removeEntry k s).sal = s.sal := by rfl
@[simp] theorem removeEntry_htb (k : Nat) : (removeEntry k s).htb = s.htb := by rfl
@[simp] theorem removeEntry_ssu (k : Nat) : (removeEntry k s).ssu = s.ssu := by rfl
@[simp] theorem removeEntry_dbc (k : Nat) : (removeEntry k s).dbc = s.dbc := by rfl
@[simp] theorem removeEntry_mru (k : Nat) : (removeEntry k s).mru = s.mru := by rfl
@[simp] theorem removeEntry_fcu (k : Nat) : (removeEntry k s).fcu = s.fcu := by rfl
@[simp] theorem removeEntry_upsets (k : Nat) : (removeEntry k s).upsets = s.upsets := by rfl
@[simp] theorem removeEntry_due (k : Nat) : (removeEntry k s).due = s.due := by rfl
@[simp] theorem removeEntry_pending (k : Nat) : (removeEntry k s).pending = s.pending := by rfl

@[simp] theorem putBack_sli (z : Nat) (l : List Entry) : (putBack z l s).sli = s.sli := by rfl
@[simp] theorem putBack_hmu (z : Nat) (l : List Entry) : (putBack z l s).hmu = s.hmu := by rfl
@[simp] theorem putBack_rsu (z : Nat) (l : List Entry) : (putBack z l s).rsu = s.rsu := by rfl
@[simp] theorem putBack_sal (z : Nat) (l : List Entry) : (putBack z l s).sal = s.sal := by rfl
@[simp] theorem putBack_htb (z : Nat) (l : List Entry) : (putBack z l s).htb = s.htb := by rfl
@[simp] theorem putBack_ssu (z : Nat) (l : List Entry) : (putBack z l s).ssu = s.ssu := by rfl
@[simp] theorem putBack_dbc (z : Nat) (l : List Entry) : (putBack z l s).dbc = s.dbc := by rfl
@[simp] theorem putBack_mru (z : Nat) (l : List Entry) : (putBack z l s).mru = s.mru := by rfl
@[simp] theorem putBack_fcu (z : Nat) (l : List Entry) : (putBack z l s).fcu = s.fcu := by rfl
@[simp] theorem putBack_upsets (z : Nat) (l : List Entry) : (putBack z l s).upsets = s.upsets := by rfl
@[simp] theorem putBack_due (z : Nat) (l : List Entry) : (putBack z l s).due = s.due := by rfl
@[simp] theorem putBack_pending (z : Nat) (l : List Entry) : (putBack z l s).pending = s.pending := by rfl

@[simp] theorem formRound_sli (c z : Nat) : (formRound c z s).sli = s.sli := by rfl
@[simp] theorem formRound_hmu (c z : Nat) : (formRound c z s).hmu = s.hmu := by rfl
@[simp] theorem formRound_rsu (c z : Nat) : (formRound c z s).rsu = s.rsu := by rfl
@[simp] theorem formRound_sal (c z : Nat) : (formRound c z s).sal = s.sal := by rfl
@[simp] theorem formRound_htb (c z : Nat) : (formRound c z s).htb = s.htb := by rfl
@[simp] theorem formRound_ssu (c z : Nat) : (formRound c z s).ssu = s.ssu := by rfl
@[simp] theorem formRound_dbc (c z : Nat) : (formRound c z s).dbc = s.dbc := by rfl
@[simp] theorem formRound_mru (c z : Nat) : (formRound c z s).mru = s.mru := by rfl
@[simp] theorem formRound_fcu (c z : Nat) : (formRound c z s).fcu = s.fcu := by rfl
@[simp] theorem formRound_upsets (c z : Nat) : (formRound c z s).upsets = s.upsets := by rfl
@[simp] theorem formRound_due (c z : Nat) : (formRound c z s).due = s.due := by rfl
@[simp] theorem formRound_pending (c z : Nat) : (formRound c z s).pending = s.pending := by rfl

@[simp] theorem joinRing_sli (e : Entry) : (joinRing e s).sli = s.sli := by rfl
@[simp] theorem joinRing_hmu (e : Entry) : (joinRing e s).hmu = s.hmu := by rfl
@[simp] theorem joinRing_rsu (e : Entry) : (joinRing e s).rsu = s.rsu := by rfl
@[simp] theorem joinRing_sal (e : Entry) : (joinRing e s).sal = s.sal := by rfl
@[simp] theorem joinRing_htb (e : Entry) : (joinRing e s).htb = s.htb := by rfl
@[simp] theorem joinRing_ssu (e : Entry) : (joinRing e s).ssu = s.ssu := by rfl
@[simp] theorem joinRing_dbc (e : Entry) : (joinRing e s).dbc = s.dbc := by rfl
@[simp] theorem joinRing_mru (e : Entry) : (joinRing e s).mru = s.mru := by rfl
@[simp] theorem joinRing_fcu (e : Entry) : (joinRing e s).fcu = s.fcu := by rfl
@[simp] theorem joinRing_upsets (e : Entry) : (joinRing e s).upsets = s.upsets := by rfl
@[simp] theorem joinRing_due (e : Entry) : (joinRing e s).due = s.due := by rfl
@[simp] theorem joinRing_pending (e : Entry) : (joinRing e s).pending = s.pending := by rfl

@[simp] theorem mendRecord_sli (r : RecordRef) : (mendRecord r s).sli = s.sli := by rfl
@[simp] theorem mendRecord_hmu (r : RecordRef) : (mendRecord r s).hmu = s.hmu := by rfl
@[simp] theorem mendRecord_rsu (r : RecordRef) : (mendRecord r s).rsu = s.rsu := by rfl
@[simp] theorem mendRecord_sal (r : RecordRef) : (mendRecord r s).sal = s.sal := by rfl
@[simp] theorem mendRecord_htb (r : RecordRef) : (mendRecord r s).htb = s.htb := by rfl
@[simp] theorem mendRecord_ssu (r : RecordRef) : (mendRecord r s).ssu = s.ssu := by rfl
@[simp] theorem mendRecord_dbc (r : RecordRef) : (mendRecord r s).dbc = s.dbc := by rfl
@[simp] theorem mendRecord_clu (r : RecordRef) : (mendRecord r s).clu = s.clu := by rfl
@[simp] theorem mendRecord_mru (r : RecordRef) : (mendRecord r s).mru = s.mru := by rfl
@[simp] theorem mendRecord_fcu (r : RecordRef) : (mendRecord r s).fcu = s.fcu := by rfl
@[simp] theorem mendRecord_due (r : RecordRef) : (mendRecord r s).due = s.due := by rfl
@[simp] theorem mendRecord_pending (r : RecordRef) : (mendRecord r s).pending = s.pending := by rfl

@[simp] theorem syncDesks_sli : (syncDesks s).sli = s.sli := by rfl
@[simp] theorem syncDesks_hmu : (syncDesks s).hmu = s.hmu := by rfl
@[simp] theorem syncDesks_rsu : (syncDesks s).rsu = s.rsu := by rfl
@[simp] theorem syncDesks_sal : (syncDesks s).sal = s.sal := by rfl
@[simp] theorem syncDesks_htb : (syncDesks s).htb = s.htb := by rfl
@[simp] theorem syncDesks_ssu : (syncDesks s).ssu = s.ssu := by rfl
@[simp] theorem syncDesks_clu : (syncDesks s).clu = s.clu := by rfl
@[simp] theorem syncDesks_mru : (syncDesks s).mru = s.mru := by rfl
@[simp] theorem syncDesks_fcu : (syncDesks s).fcu = s.fcu := by rfl
@[simp] theorem syncDesks_upsets : (syncDesks s).upsets = s.upsets := by rfl
@[simp] theorem syncDesks_due : (syncDesks s).due = s.due := by rfl
@[simp] theorem syncDesks_pending : (syncDesks s).pending = s.pending := by rfl

end Sys2Proof.Machine
end

