-- ==== Sys2Proof/Laws/Calm.lean ====
section
/-! SUPPORT. A calm part takes no step of its own before a command acts, and a ready station link takes a
request at once: what exec answers for a command in those states (log entry 3). -/

namespace Sys2Proof.Machine

theorem takeAllDue_nil {s : State} (h : s.due = []) : takeAllDue s = s := by
  simp only [takeAllDue, h, List.foldl_nil]
  obtain ⟨⟩ := s; simp_all

theorem startOutput_busy {s : State} (h : s.sli.outputBusy = true) : startOutput s = s := by
  unfold startOutput
  unfold Sli.outputBusy at h
  cases hs : s.sli.sending with
  | some x => rfl
  | none =>
    simp only [hs] at h
    simp at h
    obtain ⟨⟨h1, h2⟩, h3⟩ := h
    simp [h1, h2, h3]

theorem State.calm_iff (s : State) : s.calm = true ↔
    s.due = [] ∧ s.secondReached = false ∧ s.referenceLost = false ∧ s.sli.outputBusy = true ∧
      (s.sli.taken.isSome = true ∨ (s.sli.waiting = none ∧ s.sli.batchArriving = false)) := by
  simp [State.calm, and_assoc, List.isEmpty_iff]

theorem takeWaitingRequest_calm {s : State} (h : s.sli.taken.isSome = true ∨ s.sli.waiting = none) :
    takeWaitingRequest s = s := by
  unfold takeWaitingRequest
  rcases h with h | h
  · obtain ⟨t, ht⟩ := Option.isSome_iff_exists.mp h; simp [ht]
  · rw [h]; cases s.sli.taken <;> rfl

theorem takeArriving_calm {s : State} (h : s.sli.taken.isSome = true ∨ s.sli.batchArriving = false) :
    takeArriving s = s := by
  unfold takeArriving
  split
  · rename_i b hb
    rcases h with h | h
    · obtain ⟨t, ht⟩ := Option.isSome_iff_exists.mp h
      simp [ht]
    · simp only [Sli.batchArriving, hb] at h
      simp [h]
  · rfl

/-- Nothing of the part's own is taken in a calm state. -/
theorem settle_calm {s : State} (h : s.calm = true) : settle s = s := by
  obtain ⟨hd, hs, hr, ho, ht⟩ := (State.calm_iff s).mp h
  have h1 : loseReference s = s := by simp [loseReference, hr]
  have h2 : settleSecond s = s := by simp [settleSecond, hs]
  have h3 : takeWaitingRequest s = s := takeWaitingRequest_calm (ht.imp_right (·.1))
  have h4 : takeArriving s = s := takeArriving_calm (ht.imp_right (·.2))
  simp only [settle, h1, takeAllDue_nil hd, h2, h3, h4, startOutput_busy ho]

/-- A command from outside acts at once on a calm part. -/
theorem settled_calm {s : State} (h : s.calm = true) (f : State → State) : settled f s = f s := by
  simp [settled, settle_calm h]

theorem State.ready_iff (s : State) : s.ready = true ↔
    s.calm = true ∧ s.sli.taken = none ∧ s.sli.waiting = none ∧ s.sli.receive = .idle ∧ s.deaf = false := by
  simp [State.ready, and_assoc]

theorem State.calm_of_ready {s : State} (h : s.ready = true) : s.calm = true := ((State.ready_iff s).mp h).1

theorem breakRecord_idle {s : State} (h : s.sli.receive = .idle) : breakRecord s = s := by
  obtain ⟨⟨⟩⟩ := s
  simp only at h; subst h
  simp [breakRecord, setReceive]

/-- A ready link hands a request to its owner at once (R168, R169). -/
theorem receiveRequest_ready {s : State} (h : s.ready = true) (i : Instr) :
    settled (receiveRequest i) s = takeRequest i s := by
  obtain ⟨hc, ht, hw, hr, hd⟩ := (State.ready_iff s).mp h
  simp [settled, settle_calm hc, receiveRequest, arrive, hd, breakRecord_idle hr, placeRequest, ht]

end Sys2Proof.Machine
end

