-- ==== Sys2Proof/Laws/PerInstr.lean ====
section
/-! SUPPORT. A fact of every command as syntax, one lemma per constructor: a command that is written as one
request record has one of the catalogue's record kinds (section 12.2). -/

namespace Sys2Proof.Laws

open Sys2Proof.Machine

/-- A command with the fields of a request record has a request kind, 16 to 132. -/
def RecordShape.Statement (i : Instr) : Prop :=
  ∀ fs, requestFields i = some fs → ∃ k, requestKind i = some k ∧ 16 ≤ k ∧ k ≤ 132

theorem RecordShape.fullReset : ∀ x0 x1, RecordShape.Statement (.fullReset x0 x1) :=
  fun _ _ => nofun
theorem RecordShape.linkReset : RecordShape.Statement .linkReset :=
  nofun
theorem RecordShape.recordGap : RecordShape.Statement .recordGap :=
  nofun
theorem RecordShape.framingFault : RecordShape.Statement .framingFault :=
  nofun
theorem RecordShape.badRecord : ∀ x0, RecordShape.Statement (.badRecord x0) :=
  fun _ => nofun
theorem RecordShape.waitingRequestTaken : RecordShape.Statement .waitingRequestTaken :=
  nofun
theorem RecordShape.recordSent : RecordShape.Statement .recordSent :=
  nofun
theorem RecordShape.defineZone : ∀ x0 x1 x2 x3, RecordShape.Statement (.defineZone x0 x1 x2 x3) :=
  fun _ _ _ _ => fun _ _ => ⟨16, rfl, by decide, by decide⟩
theorem RecordShape.openZone : ∀ x0, RecordShape.Statement (.openZone x0) :=
  fun _ => fun _ _ => ⟨19, rfl, by decide, by decide⟩
theorem RecordShape.closeZone : ∀ x0, RecordShape.Statement (.closeZone x0) :=
  fun _ => fun _ _ => ⟨20, rfl, by decide, by decide⟩
theorem RecordShape.setAdmission : ∀ x0 x1 x2, RecordShape.Statement (.setAdmission x0 x1 x2) :=
  fun _ _ _ => fun _ _ => ⟨21, rfl, by decide, by decide⟩
theorem RecordShape.defineRow : ∀ x0 x1, RecordShape.Statement (.defineRow x0 x1) :=
  fun _ _ => fun _ _ => ⟨17, rfl, by decide, by decide⟩
theorem RecordShape.setSeat : ∀ x0 x1 x2 x3, RecordShape.Statement (.setSeat x0 x1 x2 x3) :=
  fun _ _ _ _ => fun _ _ => ⟨18, rfl, by decide, by decide⟩
theorem RecordShape.clearSeat : ∀ x0, RecordShape.Statement (.clearSeat x0) :=
  fun _ => fun _ _ => ⟨22, rfl, by decide, by decide⟩
theorem RecordShape.resetMap : RecordShape.Statement .resetMap :=
  fun _ _ => ⟨23, rfl, by decide, by decide⟩
theorem RecordShape.querySeat : ∀ x0, RecordShape.Statement (.querySeat x0) :=
  fun _ => fun _ _ => ⟨24, rfl, by decide, by decide⟩
theorem RecordShape.queryZone : ∀ x0, RecordShape.Statement (.queryZone x0) :=
  fun _ => fun _ _ => ⟨25, rfl, by decide, by decide⟩
theorem RecordShape.loadCandidates : ∀ x0 x1 x2, RecordShape.Statement (.loadCandidates x0 x1 x2) :=
  fun _ _ _ => nofun
theorem RecordShape.loadCandidatesEntry : ∀ x0 x1 x2 x3 x4 x5 x6 x7 x8, RecordShape.Statement (.loadCandidatesEntry x0 x1 x2 x3 x4 x5 x6 x7 x8) :=
  fun _ _ _ _ _ _ _ _ _ => nofun
theorem RecordShape.setAllowance : ∀ x0 x1, RecordShape.Statement (.setAllowance x0 x1) :=
  fun _ _ => fun _ _ => ⟨33, rfl, by decide, by decide⟩
theorem RecordShape.admitCandidate : ∀ x0, RecordShape.Statement (.admitCandidate x0) :=
  fun _ => fun _ _ => ⟨34, rfl, by decide, by decide⟩
theorem RecordShape.place : ∀ x0 x1 x2, RecordShape.Statement (.place x0 x1 x2) :=
  fun _ _ _ => fun _ _ => ⟨35, rfl, by decide, by decide⟩
theorem RecordShape.withdraw : ∀ x0, RecordShape.Statement (.withdraw x0) :=
  fun _ => fun _ _ => ⟨36, rfl, by decide, by decide⟩
theorem RecordShape.queryCandidate : ∀ x0, RecordShape.Statement (.queryCandidate x0) :=
  fun _ => fun _ _ => ⟨37, rfl, by decide, by decide⟩
theorem RecordShape.setBooklets : ∀ x0 x1, RecordShape.Statement (.setBooklets x0 x1) :=
  fun _ _ => fun _ _ => ⟨38, rfl, by decide, by decide⟩
theorem RecordShape.definePaper : ∀ x0 x1, RecordShape.Statement (.definePaper x0 x1) :=
  fun _ _ => fun _ _ => ⟨48, rfl, by decide, by decide⟩
theorem RecordShape.setZoneOrder : ∀ x0 x1, RecordShape.Statement (.setZoneOrder x0 x1) :=
  fun _ _ => fun _ _ => ⟨49, rfl, by decide, by decide⟩
theorem RecordShape.setWarnings : ∀ x0 x1, RecordShape.Statement (.setWarnings x0 x1) :=
  fun _ _ => fun _ _ => ⟨50, rfl, by decide, by decide⟩
theorem RecordShape.openPaper : ∀ x0, RecordShape.Statement (.openPaper x0) :=
  fun _ => fun _ _ => ⟨51, rfl, by decide, by decide⟩
theorem RecordShape.startPaper : ∀ x0, RecordShape.Statement (.startPaper x0) :=
  fun _ => fun _ _ => ⟨52, rfl, by decide, by decide⟩
theorem RecordShape.endPaper : ∀ x0, RecordShape.Statement (.endPaper x0) :=
  fun _ => fun _ _ => ⟨53, rfl, by decide, by decide⟩
theorem RecordShape.hold : RecordShape.Statement .hold :=
  fun _ _ => ⟨54, rfl, by decide, by decide⟩
theorem RecordShape.release : RecordShape.Statement .release :=
  fun _ _ => ⟨55, rfl, by decide, by decide⟩
theorem RecordShape.setContactSense : ∀ x0, RecordShape.Statement (.setContactSense x0) :=
  fun _ => fun _ _ => ⟨56, rfl, by decide, by decide⟩
theorem RecordShape.breakGrant : ∀ x0, RecordShape.Statement (.breakGrant x0) :=
  fun _ => fun _ _ => ⟨57, rfl, by decide, by decide⟩
theorem RecordShape.finishCandidate : ∀ x0, RecordShape.Statement (.finishCandidate x0) :=
  fun _ => fun _ _ => ⟨58, rfl, by decide, by decide⟩
theorem RecordShape.grantTime : ∀ x0 x1, RecordShape.Statement (.grantTime x0 x1) :=
  fun _ _ => fun _ _ => ⟨59, rfl, by decide, by decide⟩
theorem RecordShape.setTime : ∀ x0, RecordShape.Statement (.setTime x0) :=
  fun _ => fun _ _ => ⟨60, rfl, by decide, by decide⟩
theorem RecordShape.calibrate : ∀ x0, RecordShape.Statement (.calibrate x0) :=
  fun _ => fun _ _ => ⟨61, rfl, by decide, by decide⟩
theorem RecordShape.setTrim : ∀ x0, RecordShape.Statement (.setTrim x0) :=
  fun _ => fun _ _ => ⟨62, rfl, by decide, by decide⟩
theorem RecordShape.clearSitting : RecordShape.Statement .clearSitting :=
  fun _ _ => ⟨63, rfl, by decide, by decide⟩
theorem RecordShape.queryPaper : ∀ x0, RecordShape.Statement (.queryPaper x0) :=
  fun _ => fun _ _ => ⟨64, rfl, by decide, by decide⟩
theorem RecordShape.setButtonSense : ∀ x0 x1, RecordShape.Statement (.setButtonSense x0 x1) :=
  fun _ _ => fun _ _ => ⟨80, rfl, by decide, by decide⟩
theorem RecordShape.answerCall : ∀ x0, RecordShape.Statement (.answerCall x0) :=
  fun _ => fun _ _ => ⟨81, rfl, by decide, by decide⟩
theorem RecordShape.setLamp : ∀ x0 x1 x2 x3, RecordShape.Statement (.setLamp x0 x1 x2 x3) :=
  fun _ _ _ _ => fun _ _ => ⟨82, rfl, by decide, by decide⟩
theorem RecordShape.queryCalls : RecordShape.Statement .queryCalls :=
  fun _ _ => ⟨83, rfl, by decide, by decide⟩
theorem RecordShape.collectorOn : ∀ x0 x1 x2 x3, RecordShape.Statement (.collectorOn x0 x1 x2 x3) :=
  fun _ _ _ _ => fun _ _ => ⟨96, rfl, by decide, by decide⟩
theorem RecordShape.collectorOff : ∀ x0, RecordShape.Statement (.collectorOff x0) :=
  fun _ => fun _ _ => ⟨97, rfl, by decide, by decide⟩
theorem RecordShape.takeRound : ∀ x0 x1, RecordShape.Statement (.takeRound x0 x1) :=
  fun _ _ => fun _ _ => ⟨98, rfl, by decide, by decide⟩
theorem RecordShape.confirm : ∀ x0 x1 x2 x3, RecordShape.Statement (.confirm x0 x1 x2 x3) :=
  fun _ _ _ _ => nofun
theorem RecordShape.confirmEntry : ∀ x0 x1 x2, RecordShape.Statement (.confirmEntry x0 x1 x2) :=
  fun _ _ _ => nofun
theorem RecordShape.defer : ∀ x0 x1, RecordShape.Statement (.defer x0 x1) :=
  fun _ _ => fun _ _ => ⟨100, rfl, by decide, by decide⟩
theorem RecordShape.collectDirect : ∀ x0 x1, RecordShape.Statement (.collectDirect x0 x1) :=
  fun _ _ => fun _ _ => ⟨101, rfl, by decide, by decide⟩
theorem RecordShape.queryReconcile : ∀ x0, RecordShape.Statement (.queryReconcile x0) :=
  fun _ => fun _ _ => ⟨102, rfl, by decide, by decide⟩
theorem RecordShape.queryQueue : ∀ x0, RecordShape.Statement (.queryQueue x0) :=
  fun _ => fun _ _ => ⟨103, rfl, by decide, by decide⟩
theorem RecordShape.defineForm : ∀ x0 x1, RecordShape.Statement (.defineForm x0 x1) :=
  fun _ _ => fun _ _ => ⟨112, rfl, by decide, by decide⟩
theorem RecordShape.loadKey : ∀ x0 x1 x2 x3 x4 x5, RecordShape.Statement (.loadKey x0 x1 x2 x3 x4 x5) :=
  fun _ _ _ _ _ _ => nofun
theorem RecordShape.loadKeyEntry : ∀ x0 x1 x2 x3, RecordShape.Statement (.loadKeyEntry x0 x1 x2 x3) :=
  fun _ _ _ _ => nofun
theorem RecordShape.batchRecordEnd : ∀ x0, RecordShape.Statement (.batchRecordEnd x0) :=
  fun _ => nofun
theorem RecordShape.setMarking : ∀ x0 x1 x2, RecordShape.Statement (.setMarking x0 x1 x2) :=
  fun _ _ _ => fun _ _ => ⟨114, rfl, by decide, by decide⟩
theorem RecordShape.assignSheet : ∀ x0 x1 x2, RecordShape.Statement (.assignSheet x0 x1 x2) :=
  fun _ _ _ => fun _ _ => ⟨115, rfl, by decide, by decide⟩
theorem RecordShape.discardSheet : ∀ x0, RecordShape.Statement (.discardSheet x0) :=
  fun _ => fun _ _ => ⟨116, rfl, by decide, by decide⟩
theorem RecordShape.readException : ∀ x0, RecordShape.Statement (.readException x0) :=
  fun _ => fun _ _ => ⟨117, rfl, by decide, by decide⟩
theorem RecordShape.readResult : ∀ x0, RecordShape.Statement (.readResult x0) :=
  fun _ => fun _ _ => ⟨118, rfl, by decide, by decide⟩
theorem RecordShape.setReporting : ∀ x0, RecordShape.Statement (.setReporting x0) :=
  fun _ => fun _ _ => ⟨128, rfl, by decide, by decide⟩
theorem RecordShape.readFault : RecordShape.Statement .readFault :=
  fun _ _ => ⟨129, rfl, by decide, by decide⟩
theorem RecordShape.repairSeat : ∀ x0 x1, RecordShape.Statement (.repairSeat x0 x1) :=
  fun _ _ => fun _ _ => ⟨130, rfl, by decide, by decide⟩
theorem RecordShape.repairCandidate : ∀ x0 x1 x2, RecordShape.Statement (.repairCandidate x0 x1 x2) :=
  fun _ _ _ => fun _ _ => ⟨131, rfl, by decide, by decide⟩
theorem RecordShape.status : RecordShape.Statement .status :=
  fun _ _ => ⟨132, rfl, by decide, by decide⟩
theorem RecordShape.cardRecord : ∀ x0 x1 x2 x3 x4 x5, RecordShape.Statement (.cardRecord x0 x1 x2 x3 x4 x5) :=
  fun _ _ _ _ _ _ => nofun
theorem RecordShape.arbiterChoice : RecordShape.Statement .arbiterChoice :=
  nofun
theorem RecordShape.searchSeat : RecordShape.Statement .searchSeat :=
  nofun
theorem RecordShape.allocationOutcome : RecordShape.Statement .allocationOutcome :=
  nofun
theorem RecordShape.hallSecond : RecordShape.Statement .hallSecond :=
  nofun
theorem RecordShape.referencePulse : RecordShape.Statement .referencePulse :=
  nofun
theorem RecordShape.calibrationLost : RecordShape.Statement .calibrationLost :=
  nofun
theorem RecordShape.contactGoesActive : RecordShape.Statement .contactGoesActive :=
  nofun
theorem RecordShape.contactClear : RecordShape.Statement .contactClear :=
  nofun
theorem RecordShape.contactLevel : ∀ x0, RecordShape.Statement (.contactLevel x0) :=
  fun _ => nofun
theorem RecordShape.clockExpiry : RecordShape.Statement .clockExpiry :=
  nofun
theorem RecordShape.breakOverrun : ∀ x0, RecordShape.Statement (.breakOverrun x0) :=
  fun _ => nofun
theorem RecordShape.notSeated : ∀ x0, RecordShape.Statement (.notSeated x0) :=
  fun _ => nofun
theorem RecordShape.readingEnd : ∀ x0, RecordShape.Statement (.readingEnd x0) :=
  fun _ => nofun
theorem RecordShape.admissionCloses : ∀ x0, RecordShape.Statement (.admissionCloses x0) :=
  fun _ => nofun
theorem RecordShape.writingEnd : ∀ x0, RecordShape.Statement (.writingEnd x0) :=
  fun _ => nofun
theorem RecordShape.scheduledStart : ∀ x0, RecordShape.Statement (.scheduledStart x0) :=
  fun _ => nofun
theorem RecordShape.clockWarning : ∀ x0, RecordShape.Statement (.clockWarning x0) :=
  fun _ => nofun
theorem RecordShape.warning : ∀ x0, RecordShape.Statement (.warning x0) :=
  fun _ => nofun
theorem RecordShape.pulseEnd : RecordShape.Statement .pulseEnd :=
  nofun
theorem RecordShape.deskPoll : RecordShape.Statement .deskPoll :=
  nofun
theorem RecordShape.deskReply : ∀ x0 x1 x2 x3 x4, RecordShape.Statement (.deskReply x0 x1 x2 x3 x4) :=
  fun _ _ _ _ _ => nofun
theorem RecordShape.replyTimeout : RecordShape.Statement .replyTimeout :=
  nofun
theorem RecordShape.finishWindowExpiry : ∀ x0, RecordShape.Statement (.finishWindowExpiry x0) :=
  fun _ => nofun
theorem RecordShape.lampItemExpiry : ∀ x0, RecordShape.Statement (.lampItemExpiry x0) :=
  fun _ => nofun
theorem RecordShape.roundTimeout : ∀ x0, RecordShape.Statement (.roundTimeout x0) :=
  fun _ => nofun
theorem RecordShape.frameOpen : ∀ x0 x1, RecordShape.Statement (.frameOpen x0 x1) :=
  fun _ _ => nofun
theorem RecordShape.row : ∀ x0 x1, RecordShape.Statement (.row x0 x1) :=
  fun _ _ => nofun
theorem RecordShape.frameClose : ∀ x0, RecordShape.Statement (.frameClose x0) :=
  fun _ => nofun
theorem RecordShape.scanRecordBroken : ∀ x0 x1 x2, RecordShape.Statement (.scanRecordBroken x0 x1 x2) :=
  fun _ _ _ => nofun
theorem RecordShape.scanGap : ∀ x0, RecordShape.Statement (.scanGap x0) :=
  fun _ => nofun
theorem RecordShape.markerTakesWork : ∀ x0, RecordShape.Statement (.markerTakesWork x0) :=
  fun _ => nofun
theorem RecordShape.sheetOperationEnd : RecordShape.Statement .sheetOperationEnd :=
  nofun
theorem RecordShape.retryEnd : RecordShape.Statement .retryEnd :=
  nofun
theorem RecordShape.rescoreStepEnd : RecordShape.Statement .rescoreStepEnd :=
  nofun
theorem RecordShape.crystalTick : ∀ x0, RecordShape.Statement (.crystalTick x0) :=
  fun _ => nofun
theorem RecordShape.recordBrokenByLead : ∀ x0, RecordShape.Statement (.recordBrokenByLead x0) :=
  fun _ => nofun

end Sys2Proof.Laws
end

