-- ==== Sys2Proof/Laws/Tables.lean ====
section
/-! SUPPORT. What the operations on record tables do: a read after a write, a write leaves every other index
alone, and every operation keeps the canonical form. -/

namespace Sys2Proof.Table

variable {α : Type}

@[simp] theorem find_put_self (t : Table α) (k : Nat) (a : α) : find (put t k a) k = some a := by
  induction t with
  | nil => simp [put, find]
  | cons e t ih =>
    obtain ⟨i, b⟩ := e
    simp only [put]
    split
    · simp [find]
    · split
      · simp [find]
      · rename_i h1 h2
        simp [find, Ne.symm h2, ih]

@[simp] theorem find_put_of_ne (t : Table α) {j k : Nat} (a : α) (h : j ≠ k) : find (put t k a) j = find t j := by
  induction t with
  | nil => simp [put, find, Ne.symm h]
  | cons e t ih =>
    obtain ⟨i, b⟩ := e
    simp only [put]
    split
    · simp [find, Ne.symm h]
    · split
      · rename_i h2
        subst h2
        simp [find, Ne.symm h]
      · simp [find, ih]

theorem find_put (t : Table α) (j k : Nat) (a : α) :
    find (put t k a) j = if j = k then some a else find t j := by
  split
  · rename_i h; subst h; simp
  · rename_i h; simp [h]

theorem find_modify (t : Table α) (j k : Nat) (f : α → α) :
    find (modify t k f) j = if j = k then (find t k).map f else find t j := by
  unfold modify
  cases h : find t k with
  | none => split <;> simp_all
  | some a => simp [find_put]

@[simp] theorem find_modify_self (t : Table α) (k : Nat) (f : α → α) :
    find (modify t k f) k = (find t k).map f := by simp [find_modify]

@[simp] theorem find_modify_of_ne (t : Table α) {j k : Nat} (f : α → α) (h : j ≠ k) :
    find (modify t k f) j = find t j := by simp [find_modify, h]

@[simp] theorem find_mapAll (t : Table α) (k : Nat) (f : Nat → α → α) :
    find (mapAll f t) k = (find t k).map (f k) := by
  induction t with
  | nil => rfl
  | cons e t ih =>
    obtain ⟨i, b⟩ := e
    simp only [mapAll, List.map_cons, find]
    split
    · rename_i h; subst h; simp
    · exact ih

theorem find_drop (t : Table α) (j k : Nat) : find (drop t k) j = if j = k then none else find t j := by
  induction t with
  | nil => simp [drop, find]
  | cons e t ih =>
    obtain ⟨i, b⟩ := e
    simp only [drop] at ih
    by_cases hi : i = k
    · subst hi
      simp only [drop, List.filter_cons, bne_self_eq_false, Bool.false_eq_true, if_false, ih, find]
      split
      · rfl
      · rename_i h; simp [Ne.symm h]
    · simp only [drop, List.filter_cons, find]
      simp only [bne_iff_ne, ne_eq, hi, not_false_eq_true, if_true, find, ih]
      split
      · rename_i h; subst h; simp [hi]
      · rfl

/-! ### The canonical form -/

theorem sorted_cons (i : Nat) (a : α) (t : Table α) :
    sorted ((i, a) :: t) = true ↔ (∀ e ∈ t, i < e.1) ∧ sorted t = true := by
  induction t generalizing i a with
  | nil => simp [sorted]
  | cons e t ih =>
    obtain ⟨j, b⟩ := e
    simp only [sorted, Bool.and_eq_true, decide_eq_true_eq, List.mem_cons, forall_eq_or_imp]
    constructor
    · rintro ⟨h, hs⟩
      exact ⟨⟨h, fun e he => Nat.lt_trans h (((ih j b).mp hs).1 e he)⟩, hs⟩
    · rintro ⟨⟨h, -⟩, hs⟩
      exact ⟨h, hs⟩

theorem mem_put {t : Table α} {k : Nat} {a : α} {e : Nat × α} (h : e ∈ put t k a) : e = (k, a) ∨ e ∈ t := by
  induction t with
  | nil => simp [put] at h; exact .inl h
  | cons f t ih =>
    obtain ⟨i, b⟩ := f
    simp only [put] at h
    split at h
    · simpa using h
    · split at h
      · rcases List.mem_cons.mp h with h | h
        · exact .inl h
        · exact .inr (List.mem_cons_of_mem _ h)
      · rcases List.mem_cons.mp h with h | h
        · exact .inr (h ▸ List.mem_cons_self ..)
        · exact (ih h).imp_right (List.mem_cons_of_mem _)

theorem put_sorted {t : Table α} (h : sorted t = true) (k : Nat) (a : α) : sorted (put t k a) = true := by
  induction t with
  | nil => rfl
  | cons e t ih =>
    obtain ⟨i, b⟩ := e
    obtain ⟨h1, h2⟩ := (sorted_cons i b t).mp h
    simp only [put]
    split
    · rename_i hk
      exact (sorted_cons ..).mpr ⟨fun e he => by
        rcases List.mem_cons.mp he with he | he
        · subst he; exact hk
        · exact Nat.lt_trans hk (h1 e he), h⟩
    · split
      · rename_i hk
        subst hk
        exact (sorted_cons ..).mpr ⟨h1, h2⟩
      · rename_i hk hi
        refine (sorted_cons ..).mpr ⟨fun e he => ?_, ih h2⟩
        rcases mem_put he with he | he
        · subst he; omega
        · exact h1 e he

theorem modify_sorted {t : Table α} (h : sorted t = true) (k : Nat) (f : α → α) :
    sorted (modify t k f) = true := by
  unfold modify
  split
  · exact h
  · exact put_sorted h _ _

theorem filter_sorted {t : Table α} (h : sorted t = true) (p : Nat × α → Bool) : sorted (t.filter p) = true := by
  induction t with
  | nil => rfl
  | cons e t ih =>
    obtain ⟨i, b⟩ := e
    obtain ⟨h1, h2⟩ := (sorted_cons i b t).mp h
    simp only [List.filter_cons]
    split
    · exact (sorted_cons ..).mpr ⟨fun e he => h1 e (List.mem_filter.mp he).1, ih h2⟩
    · exact ih h2

theorem drop_sorted {t : Table α} (h : sorted t = true) (k : Nat) : sorted (drop t k) = true :=
  filter_sorted h _

theorem mapAll_sorted {t : Table α} (h : sorted t = true) (f : Nat → α → α) : sorted (mapAll f t) = true := by
  induction t with
  | nil => rfl
  | cons e t ih =>
    obtain ⟨i, b⟩ := e
    obtain ⟨h1, h2⟩ := (sorted_cons i b t).mp h
    refine (sorted_cons i (f i b) (mapAll f t)).mpr ⟨fun e he => ?_, ih h2⟩
    obtain ⟨x, hx, rfl⟩ := List.mem_map.mp he
    exact h1 x hx

/-- In a table of the canonical form an entry is what reading its index gives. -/
theorem mem_iff_find {t : Table α} (h : sorted t = true) (k : Nat) (a : α) : (k, a) ∈ t ↔ find t k = some a := by
  induction t with
  | nil => simp [find]
  | cons e t ih =>
    obtain ⟨i, b⟩ := e
    obtain ⟨h1, h2⟩ := (sorted_cons i b t).mp h
    simp only [List.mem_cons, Prod.mk.injEq, find]
    split
    · rename_i hi
      subst hi
      constructor
      · rintro (⟨-, h⟩ | h)
        · rw [h]
        · exact absurd (h1 _ h) (Nat.lt_irrefl _)
      · intro h; exact .inl ⟨rfl, (Option.some.inj h).symm⟩
    · rename_i hi
      rw [ih h2]
      constructor
      · rintro (⟨h, -⟩ | h)
        · exact absurd h.symm hi
        · exact h
      · exact .inr

end Sys2Proof.Table
end

