-- ==== Sys2Proof/Laws/Reads.lean ====
section
/-! SUPPORT. Checked reads of table memory that holds no wrong bit (R177), notices that join a queue with room
(R172), and the record a shared write leaves (R1, R5, R21, R73, R101). -/

namespace Sys2Proof.Machine

/-! ### Clean table memory -/

theorem State.clean_iff (s : State) : s.clean = true ↔ s.upsets = [] := by simp [State.clean, List.isEmpty_iff]

theorem wrongWords_clean {s : State} (h : s.clean = true) (r : RecordRef) : s.wrongWords r = [] := by
  simp [State.wrongWords, (State.clean_iff s).mp h, dedup, sortBy]

theorem readRecord_clean {s : State} (h : s.clean = true) (r : RecordRef) : readRecord r s = s := by
  simp [readRecord, wrongWords_clean h, readWords]

theorem readSeat_clean {s : State} (h : s.clean = true) (n : Nat) : readSeat n s = s := readRecord_clean h _

theorem readSlot_clean {s : State} (h : s.clean = true) (k : Nat) : readSlot k s = s := readRecord_clean h _

theorem readResult_clean {s : State} (h : s.clean = true) (k : Nat) : readResult k s = s := readRecord_clean h _

theorem foldl_readSlot_clean {s : State} (h : s.clean = true) (l : List Nat) :
    l.foldl (fun s k => readSlot k s) s = s := by
  induction l with
  | nil => rfl
  | cons k l ih => simpa [readSlot_clean h] using ih

theorem readSeats_clean {s : State} (h : s.clean = true) (l : List Nat) : readSeats l s = s := by
  unfold readSeats
  induction l with
  | nil => rfl
  | cons k l ih => simpa [readSeat_clean h] using ih

theorem readSlots_clean {s : State} (h : s.clean = true) : readSlots s = s := foldl_readSlot_clean h _

theorem readPaper_clean {s : State} (h : s.clean = true) (p : Nat) : readPaper p s = s := foldl_readSlot_clean h _

theorem readAllSeats_clean {s : State} (h : s.clean = true) : readAllSeats s = s := readSeats_clean h _

theorem readSeatsNamed_clean {s : State} (h : s.clean = true) (seat : Option Nat) : readSeatsNamed seat s = s := by
  cases seat with
  | none => exact readAllSeats_clean h
  | some n => exact readSeat_clean h n

theorem readAround_clean {s : State} (h : s.clean = true) (n : Nat) : readAround n s = s := readSeats_clean h _

theorem mendRecord_clean {s : State} (h : s.clean = true) (r : RecordRef) : mendRecord r s = s := by
  have hu := (State.clean_iff s).mp h
  obtain ⟨⟩ := s
  simp_all [mendRecord]

/-! ### Requests that name a candidate or a paper -/

theorem withCandidate_out {s : State} {n : Nat} (h : 99999999 < n) (f : Nat → Slot → State → Response) :
    withCandidate n s f = refuse s .badValue := by simp [withCandidate, Config.maxNumber, h]

theorem withCandidate_inside {s : State} {n : Nat} (h : n ≤ 99999999) (f : Nat → Slot → State → Response) :
    withCandidate n s f = withHolder n s f := by simp [withCandidate, Config.maxNumber, Nat.not_lt.mpr h]

theorem withHolder_unknown {s : State} {n : Nat} (hn : s.slotOf n = none) (f : Nat → Slot → State → Response) :
    withHolder n s f = refuse s .notFound := by simp [withHolder, hn]

theorem withHolder_suspect {s : State} {n k : Nat} {x : Slot} (hc : s.clean = true) (hn : s.slotOf n = some k)
    (hk : s.slot? k = some x) (hx : x.suspect = true) (f : Nat → Slot → State → Response) :
    withHolder n s f = refuse s .suspect := by
  simp [withHolder, hn, readSlot_clean hc, hk, hx]

theorem withHolder_finds {s : State} {n k : Nat} {x : Slot} (hc : s.clean = true) (h : s.finds n k x)
    (f : Nat → Slot → State → Response) : withHolder n s f = f k x s := by
  obtain ⟨-, h2, h3, h4⟩ := h
  simp [withHolder, h2, readSlot_clean hc, h3, h4]

theorem withCandidate_unknown {s : State} {n : Nat} (h : n ≤ 99999999) (hn : s.slotOf n = none)
    (f : Nat → Slot → State → Response) : withCandidate n s f = refuse s .notFound := by
  rw [withCandidate_inside h, withHolder_unknown hn]

theorem withCandidate_suspect {s : State} {n k : Nat} {x : Slot} (hc : s.clean = true) (h : n ≤ 99999999)
    (hn : s.slotOf n = some k) (hk : s.slot? k = some x) (hx : x.suspect = true)
    (f : Nat → Slot → State → Response) : withCandidate n s f = refuse s .suspect := by
  rw [withCandidate_inside h, withHolder_suspect hc hn hk hx]

theorem withCandidate_finds {s : State} {n k : Nat} {x : Slot} (hc : s.clean = true) (h : s.finds n k x)
    (f : Nat → Slot → State → Response) : withCandidate n s f = f k x s := by
  rw [withCandidate_inside h.1, withHolder_finds hc h]

/-! ### Notices -/

theorem notify_room {s : State} (h : s.sli.notices.length < 64) (k : NoticeKind) (l : List Field) :
    notify k l s = { s with sli := { s.sli with notices := s.sli.notices ++ [⟨k, s.htb.time, l⟩] } } := by
  simp [notify, joinQueue, Config.noticeLimit, h]

/-- The notice queue never grows past its capacity by a join. -/
theorem joinQueue_length {s : State} (h : s.sli.notices.length ≤ 64) (n : Notice) :
    (joinQueue n s).sli.notices.length ≤ 64 := by
  unfold joinQueue
  split
  · rename_i hl; simp [Config.noticeLimit] at hl ⊢; omega
  · simpa using h

/-! ### Records -/

@[simp] theorem zone?_setZone (s : State) (y z : Nat) (r : Zone) :
    (setZone z r s).zone? y = if y = z then some r else s.zone? y := Table.find_put ..

@[simp] theorem seat?_withSeat (s : State) (m n : Nat) (r : Seat) :
    (s.withSeat n r).seat? m = if m = n then some r else s.seat? m := Table.find_put ..

@[simp] theorem slot?_modSlot (s : State) (j k : Nat) (f : Candidate → Candidate) (g : Clock → Clock) :
    (modSlot k f g s).slot? j =
      if j = k then (s.slot? k).map fun x => .write (f x.cand) (g x.clock) x.suspect else s.slot? j :=
  Table.find_modify ..

@[simp] theorem slot?_withSlot (s : State) (j k : Nat) (c : Candidate) (g : Clock) :
    (s.withSlot k c g).slot? j = if j = k then some (.write c g false) else s.slot? j := Table.find_put ..

@[simp] theorem paper?_modPaper (s : State) (q p : Nat) (f : Paper → Paper) :
    (modPaper p f s).paper? q = if q = p then (s.paper? p).map f else s.paper? q := Table.find_modify ..

@[simp] theorem desk?_modDesk (s : State) (b a : Nat) (f : Desk → Desk) :
    (modDesk a f s).desk? b = if b = a then (s.desk? a).map f else s.desk? b := Table.find_modify ..

@[simp] theorem ringsOf_setRings (s : State) (y z : Nat) (r : Rings) :
    (setRings z r s).ringsOf y = if y = z then r else s.ringsOf y := by
  simp only [State.ringsOf, setRings, Table.find_put]
  split <;> rfl

@[simp] theorem collectorOf_setCollector (s : State) (d c : Nat) (r : Collector) :
    (setCollector c r s).collectorOf d = if d = c then r else s.collectorOf d := by
  simp only [State.collectorOf, setCollector, Table.find_put]
  split <;> rfl

/-- A write of a record that exists is a change of it. -/
theorem modSlot_eq_withSlot {s : State} {k : Nat} {x : Slot} (h : s.slot? k = some x) (hx : x.suspect = false)
    (f : Candidate → Candidate) (g : Clock → Clock) : modSlot k f g s = s.withSlot k (f x.cand) (g x.clock) := by
  unfold State.slot? at h
  simp [modSlot, State.withSlot, Table.modify, h, Slot.write, shadowOf, hx]

theorem modPaper_eq_withPaperRecord {s : State} {p : Nat} {r : Paper} (h : s.paper? p = some r)
    (f : Paper → Paper) : modPaper p f s = s.withPaperRecord p (f r) := by
  unfold State.paper? at h
  simp [modPaper, State.withPaperRecord, Table.modify, h]

theorem modDesk_eq_withDesk {s : State} {a : Nat} {d : Desk} (h : s.desk? a = some d) (f : Desk → Desk) :
    modDesk a f s = s.withDesk a (f d) := by
  unfold State.desk? at h
  simp [modDesk, State.withDesk, Table.modify, h]

end Sys2Proof.Machine
end

