-- ==== Sys2Proof/Laws/Requests.lean ====
section
/-! SUPPORT. What exec answers for each request command on a ready station link: the owner's answer, put into
the reply list (R168, R169), or the reply that is still to come (R169). -/

namespace Sys2Proof.Machine

@[simp] theorem finishTaking_some (k : Nat) (s : State) (a : Answer) : finishTaking k (s, some a) = addReply k a s := rfl

@[simp] theorem finishTaking_none (k : Nat) (s : State) :
    finishTaking k (s, none) = { s with sli := { s.sli with taken := some (.deferred k false) } } := rfl

@[simp] theorem finishTaking_refuse (k : Nat) (s : State) (r : Reason) :
    finishTaking k (refuse s r) = s.refused k r := rfl

@[simp] theorem finishTaking_done (k : Nat) (s : State) (l : List Field) :
    finishTaking k (done s l) = s.replied k l := rfl

@[simp] theorem finishTaking_doneOr (k : Nat) (b : Bool) (s : State) (l : List Field) :
    finishTaking k (doneOr b s l) = s.repliedClamped k b l := rfl

theorem takeRequest_other {i : Instr} {k : Nat} (h : requestKind i = some k) (hk : k ≠ 132) (s : State) :
    takeRequest i s = finishTaking k (runRequest s i) := by
  simp [takeRequest, h, hk]

variable {s : State}

theorem exec_defineZone_ready (h : s.ready = true) zone spacing standard arranged :
    exec (.defineZone zone spacing standard arranged) s = .next (finishTaking 16 (takeDefineZone zone spacing standard arranged s)) :=
  congrArg Host.Outcome.next (receiveRequest_ready h _)

theorem exec_openZone_ready (h : s.ready = true) zone :
    exec (.openZone zone) s = .next (finishTaking 19 (takeOpenZone zone s)) :=
  congrArg Host.Outcome.next (receiveRequest_ready h _)

theorem exec_closeZone_ready (h : s.ready = true) zone :
    exec (.closeZone zone) s = .next (finishTaking 20 (takeCloseZone zone s)) :=
  congrArg Host.Outcome.next (receiveRequest_ready h _)

theorem exec_setAdmission_ready (h : s.ready = true) zone cls code :
    exec (.setAdmission zone cls code) s = .next (finishTaking 21 (takeSetAdmission zone cls code s)) :=
  congrArg Host.Outcome.next (receiveRequest_ready h _)

theorem exec_defineRow_ready (h : s.ready = true) zone count :
    exec (.defineRow zone count) s = .next (finishTaking 17 (takeDefineRow zone count s)) :=
  congrArg Host.Outcome.next (receiveRequest_ready h _)

theorem exec_setSeat_ready (h : s.ready = true) seat cls desk availability :
    exec (.setSeat seat cls desk availability) s = .next (finishTaking 18 (takeSetSeat seat cls desk availability s)) :=
  congrArg Host.Outcome.next (receiveRequest_ready h _)

theorem exec_clearSeat_ready (h : s.ready = true) seat :
    exec (.clearSeat seat) s = .next (finishTaking 22 (takeClearSeat seat s)) :=
  congrArg Host.Outcome.next (receiveRequest_ready h _)

theorem exec_resetMap_ready (h : s.ready = true) :
    exec .resetMap s = .next (finishTaking 23 (takeResetMap s)) :=
  congrArg Host.Outcome.next (receiveRequest_ready h _)

theorem exec_querySeat_ready (h : s.ready = true) seat :
    exec (.querySeat seat) s = .next (finishTaking 24 (takeQuerySeat seat s)) :=
  congrArg Host.Outcome.next (receiveRequest_ready h _)

theorem exec_queryZone_ready (h : s.ready = true) zone :
    exec (.queryZone zone) s = .next (finishTaking 25 (takeQueryZone zone s)) :=
  congrArg Host.Outcome.next (receiveRequest_ready h _)

theorem exec_setAllowance_ready (h : s.ready = true) number allowance :
    exec (.setAllowance number allowance) s = .next (finishTaking 33 (takeSetAllowance number allowance s)) :=
  congrArg Host.Outcome.next (receiveRequest_ready h _)

theorem exec_admitCandidate_ready (h : s.ready = true) number :
    exec (.admitCandidate number) s = .next (finishTaking 34 (takeAdmit number s)) :=
  congrArg Host.Outcome.next (receiveRequest_ready h _)

theorem exec_place_ready (h : s.ready = true) number seat code :
    exec (.place number seat code) s = .next (finishTaking 35 (takePlace number seat code s)) :=
  congrArg Host.Outcome.next (receiveRequest_ready h _)

theorem exec_withdraw_ready (h : s.ready = true) number :
    exec (.withdraw number) s = .next (finishTaking 36 (takeWithdraw number s)) :=
  congrArg Host.Outcome.next (receiveRequest_ready h _)

theorem exec_queryCandidate_ready (h : s.ready = true) number :
    exec (.queryCandidate number) s = .next (finishTaking 37 (takeQueryCandidate number s)) :=
  congrArg Host.Outcome.next (receiveRequest_ready h _)

theorem exec_setBooklets_ready (h : s.ready = true) number count :
    exec (.setBooklets number count) s = .next (finishTaking 38 (takeSetBooklets number count s)) :=
  congrArg Host.Outcome.next (receiveRequest_ready h _)

theorem exec_definePaper_ready (h : s.ready = true) paper fields :
    exec (.definePaper paper fields) s = .next (finishTaking 48 (takeDefinePaper paper fields s)) :=
  congrArg Host.Outcome.next (receiveRequest_ready h _)

theorem exec_setZoneOrder_ready (h : s.ready = true) paper order :
    exec (.setZoneOrder paper order) s = .next (finishTaking 49 (takeSetZoneOrder paper order s)) :=
  congrArg Host.Outcome.next (receiveRequest_ready h _)

theorem exec_setWarnings_ready (h : s.ready = true) paper {thresholds : List Nat} (hl : thresholds.length ≤ 4) :
    exec (.setWarnings paper thresholds) s = .next (finishTaking 50 (takeSetWarnings paper thresholds s)) := by
  have hw : receiveWarnings paper thresholds = receiveRequest (.setWarnings paper thresholds) := by
    funext t; simp [receiveWarnings, hl]
  exact congrArg Host.Outcome.next ((congrFun (congrArg settled hw) s).trans (receiveRequest_ready h _))

theorem exec_openPaper_ready (h : s.ready = true) paper :
    exec (.openPaper paper) s = .next (finishTaking 51 (takeOpenPaper paper s)) :=
  congrArg Host.Outcome.next (receiveRequest_ready h _)

theorem exec_startPaper_ready (h : s.ready = true) paper :
    exec (.startPaper paper) s = .next (finishTaking 52 (takeStartPaper paper s)) :=
  congrArg Host.Outcome.next (receiveRequest_ready h _)

theorem exec_endPaper_ready (h : s.ready = true) paper :
    exec (.endPaper paper) s = .next (finishTaking 53 (takeEndPaper paper s)) :=
  congrArg Host.Outcome.next (receiveRequest_ready h _)

theorem exec_hold_ready (h : s.ready = true) :
    exec .hold s = .next (finishTaking 54 (takeHold s)) :=
  congrArg Host.Outcome.next (receiveRequest_ready h _)

theorem exec_release_ready (h : s.ready = true) :
    exec .release s = .next (finishTaking 55 (takeRelease s)) :=
  congrArg Host.Outcome.next (receiveRequest_ready h _)

theorem exec_setContactSense_ready (h : s.ready = true) sense :
    exec (.setContactSense sense) s = .next (finishTaking 56 (takeSetContactSense sense s)) :=
  congrArg Host.Outcome.next (receiveRequest_ready h _)

theorem exec_breakGrant_ready (h : s.ready = true) number :
    exec (.breakGrant number) s = .next (finishTaking 57 (takeBreakGrant number s)) :=
  congrArg Host.Outcome.next (receiveRequest_ready h _)

theorem exec_finishCandidate_ready (h : s.ready = true) number :
    exec (.finishCandidate number) s = .next (finishTaking 58 (takeFinishCandidate number s)) :=
  congrArg Host.Outcome.next (receiveRequest_ready h _)

theorem exec_grantTime_ready (h : s.ready = true) number minutes :
    exec (.grantTime number minutes) s = .next (finishTaking 59 (takeGrantTime number minutes s)) :=
  congrArg Host.Outcome.next (receiveRequest_ready h _)

theorem exec_setTime_ready (h : s.ready = true) time :
    exec (.setTime time) s = .next (finishTaking 60 (takeSetTime time s)) :=
  congrArg Host.Outcome.next (receiveRequest_ready h _)

theorem exec_calibrate_ready (h : s.ready = true) length :
    exec (.calibrate length) s = .next (finishTaking 61 (takeCalibrate length s)) :=
  congrArg Host.Outcome.next (receiveRequest_ready h _)

theorem exec_setTrim_ready (h : s.ready = true) trim :
    exec (.setTrim trim) s = .next (finishTaking 62 (takeSetTrim trim s)) :=
  congrArg Host.Outcome.next (receiveRequest_ready h _)

theorem exec_clearSitting_ready (h : s.ready = true) :
    exec .clearSitting s = .next (finishTaking 63 (takeClearSitting s)) :=
  congrArg Host.Outcome.next (receiveRequest_ready h _)

theorem exec_queryPaper_ready (h : s.ready = true) paper :
    exec (.queryPaper paper) s = .next (finishTaking 64 (takeQueryPaper paper s)) :=
  congrArg Host.Outcome.next (receiveRequest_ready h _)

theorem exec_setButtonSense_ready (h : s.ready = true) button sense :
    exec (.setButtonSense button sense) s = .next (finishTaking 80 (takeSetButtonSense button sense s)) :=
  congrArg Host.Outcome.next (receiveRequest_ready h _)

theorem exec_answerCall_ready (h : s.ready = true) seat :
    exec (.answerCall seat) s = .next (finishTaking 81 (takeAnswerCall seat s)) :=
  congrArg Host.Outcome.next (receiveRequest_ready h _)

theorem exec_setLamp_ready (h : s.ready = true) seat colour cadence duration :
    exec (.setLamp seat colour cadence duration) s = .next (finishTaking 82 (takeSetLamp seat colour cadence duration s)) :=
  congrArg Host.Outcome.next (receiveRequest_ready h _)

theorem exec_queryCalls_ready (h : s.ready = true) :
    exec .queryCalls s = .next (finishTaking 83 (takeQueryCalls s)) :=
  congrArg Host.Outcome.next (receiveRequest_ready h _)

theorem exec_collectorOn_ready (h : s.ready = true) collector zones size timeout :
    exec (.collectorOn collector zones size timeout) s = .next (finishTaking 96 (takeCollectorOn collector zones size timeout s)) :=
  congrArg Host.Outcome.next (receiveRequest_ready h _)

theorem exec_collectorOff_ready (h : s.ready = true) collector :
    exec (.collectorOff collector) s = .next (finishTaking 97 (takeCollectorOff collector s)) :=
  congrArg Host.Outcome.next (receiveRequest_ready h _)

theorem exec_takeRound_ready (h : s.ready = true) collector zone :
    exec (.takeRound collector zone) s = .next (finishTaking 98 (takeTakeRound collector zone s)) :=
  congrArg Host.Outcome.next (receiveRequest_ready h _)

theorem exec_defer_ready (h : s.ready = true) collector seat :
    exec (.defer collector seat) s = .next (finishTaking 100 (takeDefer collector seat s)) :=
  congrArg Host.Outcome.next (receiveRequest_ready h _)

theorem exec_collectDirect_ready (h : s.ready = true) slot returned :
    exec (.collectDirect slot returned) s = .next (finishTaking 101 (takeCollectDirect slot returned s)) :=
  congrArg Host.Outcome.next (receiveRequest_ready h _)

theorem exec_queryReconcile_ready (h : s.ready = true) paper :
    exec (.queryReconcile paper) s = .next (finishTaking 102 (takeQueryReconcile paper s)) :=
  congrArg Host.Outcome.next (receiveRequest_ready h _)

theorem exec_queryQueue_ready (h : s.ready = true) zone :
    exec (.queryQueue zone) s = .next (finishTaking 103 (takeQueryQueue zone s)) :=
  congrArg Host.Outcome.next (receiveRequest_ready h _)

theorem exec_defineForm_ready (h : s.ready = true) form questions :
    exec (.defineForm form questions) s = .next (finishTaking 112 (takeDefineForm form questions s)) :=
  congrArg Host.Outcome.next (receiveRequest_ready h _)

theorem exec_setMarking_ready (h : s.ready = true) mark separation light :
    exec (.setMarking mark separation light) s = .next (finishTaking 114 (takeSetMarking mark separation light s)) :=
  congrArg Host.Outcome.next (receiveRequest_ready h _)

theorem exec_assignSheet_ready (h : s.ready = true) entry number version :
    exec (.assignSheet entry number version) s = .next (finishTaking 115 (takeAssignSheet entry number version s)) :=
  congrArg Host.Outcome.next (receiveRequest_ready h _)

theorem exec_discardSheet_ready (h : s.ready = true) entry :
    exec (.discardSheet entry) s = .next (finishTaking 116 (takeDiscardSheet entry s)) :=
  congrArg Host.Outcome.next (receiveRequest_ready h _)

theorem exec_readException_ready (h : s.ready = true) entry :
    exec (.readException entry) s = .next (finishTaking 117 (takeReadException entry s)) :=
  congrArg Host.Outcome.next (receiveRequest_ready h _)

theorem exec_readResult_ready (h : s.ready = true) number :
    exec (.readResult number) s = .next (finishTaking 118 (takeReadResult number s)) :=
  congrArg Host.Outcome.next (receiveRequest_ready h _)

theorem exec_setReporting_ready (h : s.ready = true) level :
    exec (.setReporting level) s = .next (finishTaking 128 (takeSetReporting level s)) :=
  congrArg Host.Outcome.next (receiveRequest_ready h _)

theorem exec_readFault_ready (h : s.ready = true) :
    exec .readFault s = .next (finishTaking 129 (takeReadFault s)) :=
  congrArg Host.Outcome.next (receiveRequest_ready h _)

theorem exec_repairSeat_ready (h : s.ready = true) seat fields :
    exec (.repairSeat seat fields) s = .next (finishTaking 130 (takeRepairSeat seat fields s)) :=
  congrArg Host.Outcome.next (receiveRequest_ready h _)

theorem exec_repairCandidate_ready (h : s.ready = true) slot use fields :
    exec (.repairCandidate slot use fields) s = .next (finishTaking 131 (takeRepairCandidate slot use fields s)) :=
  congrArg Host.Outcome.next (receiveRequest_ready h _)

theorem exec_status_ready (h : s.ready = true) : exec .status s = .next (takeStatus s) :=
  congrArg Host.Outcome.next (receiveRequest_ready h _)

end Sys2Proof.Machine
end

