-- ==== Sys2Proof/Tests/Slice0.lean ====
section
/-! SUPPORT. The model's own tests: the well-formedness check refuses what cannot arrive, the worked examples of
spec/ come out as the spec says, and for every obligation with hypotheses a state and operands that meet them,
clause by clause. -/

namespace Sys2Proof.Tests

open Sys2Proof.Machine

set_option maxRecDepth 4000

/-! ### What cannot arrive -/

/-- The fields of a paper that DEFINE PAPER accepts. -/
def paperFields : PaperFields :=
  { code := [77, 65, 84, 72, 32, 49], form := 0, versions := 1, reading := 10, duration := 60, late := 30,
    blackFirst := 0, blackLast := 0, breakDefault := 10, bookletDefault := 1, walk := none, scheduled := none,
    penalty := 0, multipleWrong := false, zoneOrder := [0, 1], sections := [1] }

/-- The fields of a repaired EXPECTED candidate. -/
def candidateFields (number paper : Nat) : CandidateFields :=
  { number := number, paper := paper, cls := 0, allowance := 100, breakBudget := 3600, preplaced := none,
    state := 0, seat := none, lastSeat := none, admTime := none, walk := none, reason := none, issued := 8,
    returned := none, discrepancy := 0, clockState := 0, remaining := 0, extended := none, before := none,
    budget := 0, warnIndex := 0 }

theorem test_wellFormed_accepts :
    (Instr.setSeat 511 3 (some 511) 1).wellFormed = true ∧ (Instr.definePaper 15 paperFields).wellFormed = true
    ∧ (Instr.repairCandidate 575 0 (some (candidateFields 99999999 15))).wellFormed = true
    ∧ (Instr.loadKeyEntry 1 2 [(1, 4), (0, 0)] true).wellFormed = true := by decide

/-- Fields of 1, 2, 3 and 4 bytes. -/
theorem test_wellFormed_field_width :
    (Instr.openZone 256).wellFormed = false ∧ (Instr.clearSeat 65536).wellFormed = false
    ∧ (Instr.setTime 16777216).wellFormed = false ∧ (Instr.withdraw 4294967296).wellFormed = false := by decide

/-- All ones stands for absence, so it is no value of an optional field (R184). -/
theorem test_wellFormed_absence :
    (Instr.setSeat 0 0 (some 65535) 0).wellFormed = false ∧ (Instr.collectorOn 0 [0] (some 255) none).wellFormed = false
    ∧ (Instr.definePaper 0 { paperFields with scheduled := some 16777215 }).wellFormed = false := by decide

/-- Lists that no record of 240 body characters holds, and a code that is not of 6 characters. -/
theorem test_wellFormed_lists :
    (Instr.setZoneOrder 0 (List.replicate 239 0)).wellFormed = false
    ∧ (Instr.definePaper 0 { paperFields with code := [65] }).wellFormed = false
    ∧ (Instr.definePaper 0 { paperFields with zoneOrder := List.replicate 215 0 }).wellFormed = false := by decide

/-- Fields of the repairs. -/
theorem test_wellFormed_repairs :
    (Instr.repairSeat 0 ⟨256, none, 0, none, none, 0, 0⟩).wellFormed = false
    ∧ (Instr.repairCandidate 0 0 (some { candidateFields 1 0 with remaining := 65536 })).wellFormed = false := by decide

/-- Batch parts: lengths of the header record, a run that its pairs do not have. -/
theorem test_wellFormed_batches :
    (Instr.loadCandidates 241 1 true).wellFormed = false ∧ (Instr.confirm 2 0 1 true).wellFormed = false
    ∧ (Instr.loadKey 5 0 0 1 0 true).wellFormed = false ∧ (Instr.loadKeyEntry 1 2 [(1, 4)] true).wellFormed = false := by
  decide

/-- A whole record has the length it says. -/
theorem test_wellFormed_records :
    (Instr.badRecord [16, 1, 0]).wellFormed = false ∧ (Instr.badRecord [16]).wellFormed = false
    ∧ (Instr.badRecord (16 :: 241 :: List.replicate 241 0)).wellFormed = false
    ∧ (Instr.badRecord (16 :: 241 :: List.replicate 242 0)).wellFormed = true := by decide

/-- Doors, scan record kinds, marker stages, and indices of slots, papers, desks and collectors. -/
theorem test_wellFormed_indices :
    (Instr.cardRecord 2 0 0 0 0 0).wellFormed = false ∧ (Instr.scanRecordBroken 3 0 true).wellFormed = false
    ∧ (Instr.markerTakesWork 3).wellFormed = false ∧ (Instr.breakOverrun 576).wellFormed = false
    ∧ (Instr.readingEnd 16).wellFormed = false ∧ (Instr.finishWindowExpiry 0).wellFormed = false
    ∧ (Instr.lampItemExpiry 512).wellFormed = false ∧ (Instr.roundTimeout 8).wellFormed = false
    ∧ (Instr.row 0 (List.replicate 256 0)).wellFormed = false
    ∧ (Instr.crystalTick [⟨.seat 512, 0, false⟩]).wellFormed = false := by decide

/-! ### Worked examples of the spec -/

/-- The part with nothing to send: every other test starts from here. -/
def base : State := { State.reset with sli := { State.reset.sli with start := none } }

/-- The next state a command answers. -/
def next? (o : Host.Outcome State Fault Refusal) : Option State :=
  match o with
  | .next t => some t
  | .fault _ => none
  | .refused _ => none

def smallSeat (z row pos : Nat) : Seat := ⟨z, row, pos, .standard, none, .free, none, none, false, false, false⟩

/-- Chapter 1's worked example: zone A CROSS, zone B SIDE, three rows; seats 0 and 2 are in use by paper 2. -/
def smallMap : State :=
  { base with hmu :=
      { zones := [(0, ⟨.opened, .cross, .admits, .none⟩), (1, ⟨.opened, .side, .reserve, .none⟩)]
        rows := [⟨0, 1, 5, 0⟩, ⟨1, 1, 3, 5⟩, ⟨0, 2, 4, 8⟩]
        seats := [(0, { smallSeat 0 1 1 with state := .held, occupant := some 20, lastPaper := some 2 }),
          (1, smallSeat 0 1 2),
          (2, { smallSeat 0 1 3 with state := .occupied, occupant := some 22, lastPaper := some 2 }),
          (3, smallSeat 0 1 4), (4, smallSeat 0 1 5), (5, smallSeat 1 1 1), (6, smallSeat 1 1 2),
          (7, smallSeat 1 1 3), (8, smallSeat 0 2 1), (9, smallSeat 0 2 2), (10, smallSeat 0 2 3),
          (11, smallSeat 0 2 4)] } }

theorem test_small_map_neighbours :
    smallMap.neighbours 0 = [1, 8] ∧ smallMap.neighbours 4 = [3]
    ∧ (smallMap.neighbours 9).length = 3 ∧ smallMap.neighbours 6 = [5, 7] := by decide

theorem test_small_map_spacing :
    smallMap.spacingHolds 2 1 = false ∧ smallMap.spacingHolds 5 1 = true ∧ smallMap.spacingHolds 2 4 = true := by decide

/-- Chapter 3's fill order of zone A. -/
theorem test_small_zone_fill_order : smallMap.fillOrder 0 = [0, 2, 4, 1, 3, 8, 10, 9, 11] := by decide

/-- Chapter 5: M = 97 and an allowance of 17 give an extended time of 6,810 (R82). -/
theorem test_extended_time : extendedTime 97 17 = 6810 := by decide

/-- Chapter 4: D 524,296, tick 32,769 of the second leaves 8 in the phase accumulator. -/
theorem test_second_of_fractional_length :
    next? (exec .hallSecond { base with htb := { base.htb with trim := 524296, phase := 524304 } })
      = some { base with htb := { base.htb with trim := 524296, phase := 8, time := 1 } } := by decide

/-- Chapter 4: the 64th pulse after 2,097,280 ticks writes 524,320 as the pending trim. -/
theorem test_calibration :
    (next? (exec .referencePulse { base with htb :=
        { base.htb with cal := .counting, calLength := 64, pulses := 63, ticks := 2097280 } })).map
      (fun t => (t.htb.pendingTrim, t.htb.cal)) = some (some 524320, .idle) := by decide

/-- Chapter 4: a result below the range is clamped to 522,240. -/
theorem test_calibration_limit :
    (next? (exec .referencePulse { base with htb :=
        { base.htb with cal := .counting, calLength := 16, pulses := 15, ticks := 262144 } })).map
      (fun t => t.htb.pendingTrim) = some (some 522240) := by decide

/-- Chapter 9: the levels of the raw values on the sheet, with w 30 and b 210 (R154). -/
theorem test_levels :
    [200, 170, 150, 120, 95, 30].map (levelOf 30 210) = [241, 198, 170, 128, 92, 0] := by decide

/-- Chapter 9: the decisions for the sheet's six question rows (R155). -/
theorem test_row_decisions :
    [[0, 241, 0, 0, 0], [198, 0, 170, 0, 0], [92, 0, 0, 241, 0], [0, 0, 0, 0, 128], [0, 0, 241, 0, 0],
      [0, 0, 0, 0, 241]].map (decideRow Settings.reset)
    = [.single 1, .multiple, .single 3, .light, .single 2, .single 4] := by decide

/-- A paper record in a state, over form 0 and zone 0. -/
def aPaper (st : PaperState) : Paper :=
  { code := [77, 65, 84, 72, 32, 49], form := 0, versions := 1, reading := 10, duration := 60, late := 30,
    blackFirst := 0, blackLast := 0, breakDefault := 10, bookletDefault := 1, walk := 240, zoneOrder := [0],
    warnings := [10, 5], scheduled := none, penalty := 0, multipleWrong := false, sections := [1], state := st,
    startPending := false, readingLeft := 0, elapsed := 0, admClosed := false }

/-- Chapter 9: the sheet's score, 6 of 28, 21.43 % (R160). -/
theorem test_score :
    (fun s : Score => (s.sections, s.total, s.maximum, s.percent, s.blanks, s.lights, s.multiples))
      (scoreOf { aPaper .closed with penalty := 1, multipleWrong := true, sections := [1, 4, 6] }
        [.correct 2 4, .correct 1 4, .correct 4 4, .correct 2 8, .correct 5 4, .correct 1 4]
        (List.replicate 9 (.single 0) ++ [.single 1, .multiple, .single 3, .light, .single 2, .single 4]))
    = ([2, 4, 0], 6, 28, some 2143, 0, 1, 1) := by decide

/-- Section 12.1: a STATUS request is kind 132, L 0, check 124. -/
theorem test_status_record : requestRecord .status = some [132, 0, 124] ∧ decodeRecord [132, 0, 124] = some .status := by
  decide

/-- Section 12.5: the checks of a CONFIRM from collector 2, seat 146, 1 booklet. -/
theorem test_confirm_record :
    checkCharacter [2, 1] = 253 ∧ checkCharacter [0, 146, 1] = 109
    ∧ checkCharacter [99, 7, 2, 1, 253, 0, 146, 1, 109] = 150 := by decide

/-- Requests as the fields of section 12.3 spell them: numbers of 2 to 4 bytes with the highest first, all ones
for absence, lists after their count. -/
theorem test_request_records :
    decodeBody 18 [1, 2, 3, 255, 255, 1] = some (.setSeat 258 3 none 1)
    ∧ decodeBody 60 [1, 0, 2] = some (.setTime 65538)
    ∧ decodeBody 34 [5, 245, 224, 255] = some (.admitCandidate 99999999)
    ∧ decodeBody 49 [3, 2, 4, 5] = some (.setZoneOrder 3 [4, 5])
    ∧ decodeBody 49 [3, 3, 4, 5] = none ∧ decodeBody 200 [] = none := by decide

/-! ### A hall with something in every state -/

def aSeat (pos : Nat) (desk : Option Nat) (st : SeatState) (occ last : Option Nat) : Seat :=
  ⟨0, 1, pos, .standard, desk, st, occ, last, false, false, false⟩

def aCand (number paper : Nat) (st : CandidateState) (seat : Option Nat) : Candidate :=
  { number := number, paper := paper, cls := .standard, allowance := 0, breakBudget := 600, preplaced := none,
    state := st, seat := seat, lastSeat := seat, source := none, admTime := none, walk := none, reason := none,
    issued := 2, returned := none, discrepancy := false }

def aClock (st : ClockState) : Clock := ⟨st, 3600, some 3600, none, 600, 0⟩

def aSlot (c : Candidate) (g : Clock) : Slot := ⟨c, g, ⟨some c.number, some c.paper, g.state == .none⟩, false⟩

def aDesk (st : DeskState) : Desk :=
  { state := st, cause := none, announced := false, misses := 0, resample := false, ack := false, expected := false, levels := .none,
    presses := [], longPress := none, window := none, override := none, feedback := none, warning := none,
    lamp := .dark }

def anEntry (n k : Nat) : Entry := ⟨n, k, .early, 2⟩

/-- A collector over zone 0 in a state. -/
def aCollector (st : CollectorState) : Collector := ⟨st, [0], 8, 300, none, [], none, []⟩

def notSeatedYet : Slot := aSlot { aCand 0 1 .admitted (some 1) with walk := some 240 } .zero
def writing : Slot := aSlot (aCand 99999999 3 .seated (some 2)) (aClock .running)
def expected : Slot := aSlot (aCand 1002 1 .expected none) .zero
def waiting : Slot := aSlot (aCand 1003 1 .waiting none) .zero
def finished : Slot := aSlot (aCand 1004 3 .finished none) (aClock .stopped)
def collected : Slot := aSlot (aCand 1005 3 .collected none) (aClock .stopped)
def damaged : Slot := { aSlot (aCand 1006 1 .expected none) .zero with suspect := true }
def absent : Slot := aSlot (aCand 1007 1 .absent none) .zero
def lateWaiting : Slot := aSlot (aCand 1008 3 .waiting none) (aClock .running)
def readingNow : Slot := aSlot (aCand 1010 2 .waiting none) (aClock .reading)
def atADoor : Slot := aSlot { aCand 1011 1 .expected none with source := some .door1 } .zero
def last : Slot := aSlot (aCand 1575 1 .expected none) .zero

/-- Papers 0 to 5 stand in the six states of R76 in their order; zones 0 and 1 are open and closed. -/
def hall : State :=
  { base with
    hmu :=
      { zones := [(0, ⟨.opened, .none, .admits, .none⟩), (7, ⟨.closed, .side, .reserve, .admits⟩)]
        rows := [⟨0, 1, 6, 0⟩]
        seats := [(0, aSeat 1 (some 1) .free none none), (1, aSeat 2 (some 2) .held (some 0) (some 1)),
          (2, aSeat 3 (some 3) .occupied (some 1) (some 3)), (3, aSeat 4 none .vacated none (some 3)),
          (4, aSeat 5 none .unavailable none none),
          (5, { aSeat 6 none .free none none with suspect := true }), (511, aSeat 7 none .free none none)] }
    rsu := { base.rsu with slots := [(0, notSeatedYet), (1, writing), (2, expected), (3, waiting), (4, finished),
      (5, collected), (6, damaged), (7, absent), (8, lateWaiting), (10, readingNow), (11, atADoor), (575, last)] }
    sal := { base.sal with wait := [3, 8] }
    ssu := { base.ssu with papers := [(0, aPaper .defined), (1, aPaper .admitting), (2, aPaper .reading),
      (3, aPaper .writing), (4, aPaper .overtime), (15, aPaper .closed)] }
    dbc := { base.dbc with desks := [(1, aDesk .online), (2, aDesk .online), (3, aDesk .online)]
                           calls := [⟨2, .breakRequest, 5⟩, ⟨5, .call, 6⟩] }
    mru := { base.mru with forms := [(0, 1)] } }

/-- The hall with no paper beyond ADMITTING. -/
def quietHall : State :=
  { hall with ssu := { hall.ssu with papers := [(0, aPaper .defined), (1, aPaper .admitting), (15, aPaper .closed)] } }

/-- A map of one free and one unavailable seat, no seat in use. -/
def idleMap : State :=
  { base with hmu := { hall.hmu with seats := [(0, aSeat 1 none .free none none), (1, aSeat 2 none .unavailable none none)] } }

theorem test_hall_ready :
    hall.ready = true ∧ hall.calm = true ∧ hall.clean = true ∧ hall.tablesSorted = true
    ∧ quietHall.ready = true ∧ quietHall.clean = true ∧ idleMap.ready = true ∧ idleMap.clean = true := by decide

/-! ### Witnesses: what each obligation's hypotheses ask for, met clause by clause -/

theorem test_witness_StepRunsFrontCommand : State.reset.pending = [] := by decide

theorem test_witness_ZoneStateRequests :
    hall.ready = true ∧ 8 ≤ 8 ∧ (2 ≤ 2 ∨ 3 ≤ 0) ∧ (2 ≤ 0 ∨ 3 ≤ 3) ∧ 6 < 8 ∧ hall.zone? 6 = none ∧ 1 < 2 ∧ 2 < 3
    ∧ 7 < 8 ∧ hall.zone? 7 = some ⟨.closed, .side, .reserve, .admits⟩
    ∧ [AdmissionCode.none, .reserve, .admits][2]? = some .admits := by decide

theorem test_witness_DefineZoneRequest :
    hall.ready = true ∧ hall.clean = true ∧ (8 ≤ 8 ∨ 3 ≤ 0 ∨ 3 ≤ 0 ∨ 3 ≤ 0) ∧ (8 ≤ 7 ∨ 3 ≤ 3 ∨ 3 ≤ 0 ∨ 3 ≤ 0)
    ∧ [Spacing.none, .side, .cross][2]? = some .cross ∧ [AdmissionCode.none, .reserve, .admits][2]? = some .admits
    ∧ hall.zone? 6 = none ∧ (hall.zone? 0).isSome = true
    ∧ (∃ e ∈ hall.hmu.seats, e.2.zone = 0 ∧ (e.2.state = .held ∨ e.2.state = .occupied ∨ e.2.state = .vacated))
    ∧ (hall.zone? 7).isSome = true
    ∧ (∀ e ∈ hall.hmu.seats, e.2.zone = 7 → e.2.state = .free ∨ e.2.state = .unavailable) := by decide

theorem test_witness_MapIsBuiltAndEmptied :
    hall.ready = true ∧ hall.clean = true ∧ (8 ≤ 8 ∨ 1 = 0 ∨ 32 < 1) ∧ (8 ≤ 0 ∨ 33 = 0 ∨ 32 < 33)
    ∧ (6 < 8 ∧ 1 ≤ 32 ∧ 32 ≤ 32 ∧ hall.zone? 6 = none)
    ∧ ((hall.zone? 0).isSome = true ∧ ∃ e ∈ hall.hmu.seats, e.2.suspect = true)
    ∧ ((smallMap.zone? 0).isSome = true ∧ (∀ e ∈ smallMap.hmu.seats, e.2.suspect = false)
        ∧ ∃ e ∈ smallMap.hmu.seats, e.2.state.inUse = true)
    ∧ ((idleMap.zone? 0).isSome = true ∧ (∀ e ∈ idleMap.hmu.seats, e.2.suspect = false ∧ e.2.state.inUse = false)
        ∧ (idleMap.rowsOf 0).length < 16 ∧ idleMap.hmu.rows.length < 64 ∧ idleMap.hmu.seats.length + 32 ≤ 512)
    ∧ 64 ≤ ({ idleMap with hmu := { idleMap.hmu with rows := List.replicate 64 ⟨7, 1, 1, 0⟩ } }).hmu.rows.length := by
  decide

theorem test_witness_SetSeatRequest :
    hall.ready = true ∧ hall.clean = true ∧ 4 ≤ 4 ∧ 1 < 2 ∧ 511 < 512
    ∧ [SeatClass.standard, .nearExit, .wide, .isolated][3]? = some .isolated ∧ hall.seat? 6 = none
    ∧ (hall.seat? 5).map (·.suspect) = some true
    ∧ (hall.seat? 0).map (·.suspect) = some false ∧ hall.addressTaken 0 (some 2) = true
    ∧ hall.addressTaken 1 (some 511) = false ∧ (hall.seat? 1).map (·.state) = some .held
    ∧ hall.addressTaken 4 none = false ∧ (hall.seat? 4).map (·.state) = some .unavailable
    ∧ hall.addressTaken 0 (some 511) = false ∧ (hall.seat? 0).map (·.state) = some .free := by decide

theorem test_witness_ClearSeatRequest :
    hall.ready = true ∧ hall.clean = true ∧ hall.seat? 6 = none ∧ (hall.seat? 5).map (·.suspect) = some true
    ∧ (hall.seat? 0).map (fun r => (r.suspect, r.state)) = some (false, .free)
    ∧ (hall.seat? 3).map (fun r => (r.suspect, r.state, r.occupant)) = some (false, .vacated, none) := by decide

theorem test_witness_SeatAndZoneQueries :
    hall.ready = true ∧ hall.clean = true ∧ hall.seat? 6 = none ∧ (hall.seat? 5).map (·.suspect) = some true
    ∧ (hall.seat? 511).map (·.suspect) = some false ∧ 8 ≤ 8 ∧ hall.zone? 6 = none ∧ 7 < 8
    ∧ (hall.zone? 7).isSome = true := by decide

theorem test_witness_AllowanceAndBookletRequests :
    hall.ready = true ∧ hall.clean = true ∧ 99999999 < 100000000
    ∧ (1 ≤ 99999999 ∧ hall.slotOf 1 = none)
    ∧ (hall.slotOf 1006 = some 6 ∧ (hall.slot? 6).map (·.suspect) = some true)
    ∧ hall.finds 99999999 1 writing ∧ writing.clock.state ≠ .none ∧ writing.clock.state ≠ .reading
    ∧ hall.finds 1575 575 last ∧ last.cand.state = .expected ∧ last.clock.state = .none
    ∧ hall.finds 1010 10 readingNow ∧ readingNow.clock.state = .reading ∧ readingNow.cand.state = .waiting
    ∧ hall.finds 1005 5 collected ∧ collected.cand.state = .collected
    ∧ hall.finds 1004 4 finished ∧ finished.cand.state = .finished := by unfold State.finds; decide

theorem test_witness_QueryCandidateRequest :
    hall.ready = true ∧ hall.clean = true ∧ 99999999 < 100000000 ∧ hall.slotOf 1 = none
    ∧ (hall.slotOf 1006 = some 6 ∧ (hall.slot? 6).map (·.suspect) = some true)
    ∧ hall.finds 0 0 notSeatedYet ∧ hall.finds 99999999 1 writing := by unfold State.finds; decide

/-- The hall with paper 1 in another state. -/
def hallWith (r : Paper) : State := hall.withPaperRecord 1 r

theorem test_witness_AdmitRequest :
    hall.ready = true ∧ hall.clean = true ∧ 99999999 < 100000000 ∧ hall.slotOf 1 = none
    ∧ (hall.slotOf 1006 = some 6 ∧ (hall.slot? 6).map (·.suspect) = some true)
    ∧ hall.finds 0 0 notSeatedYet ∧ notSeatedYet.cand.state ≠ .expected
    ∧ hall.finds 1011 11 atADoor ∧ atADoor.cand.source.isSome = true
    ∧ (expected.cand.state = .expected ∧ expected.cand.source = none ∧ expected.cand.paper = 1)
    ∧ ({ hall with ssu := { hall.ssu with held := true } }).ready = true
    ∧ ({ hall with ssu := { hall.ssu with held := true } }).finds 1002 2 expected
    ∧ hall.finds 1002 2 expected ∧ hall.ssu.held = false ∧ (hall.paper? 1).map (·.state) = some .admitting
    ∧ (hallWith (aPaper .defined)).ready = true ∧ (hallWith (aPaper .defined)).finds 1002 2 expected
    ∧ (hallWith { aPaper .writing with elapsed := 1800 }).finds 1002 2 expected ∧ 60 * (aPaper .writing).late ≤ 1800
    ∧ (hallWith { aPaper .writing with elapsed := 1799 }).finds 1002 2 expected
    ∧ 1799 < 60 * (aPaper .writing).late := by unfold State.finds; decide

/-- The hall with a card outstanding at both doors. -/
def busyDoors : State := { hall with rsu := { hall.rsu with door0 := ⟨some 5, none⟩, door1 := ⟨some 6, none⟩ } }

/-- Card 1002 is 0, 0, 3, 234 with check 19; card 1 has check 255. -/
theorem test_witness_DoorCardIsTaken :
    hall.calm = true ∧ hall.clean = true ∧ hall.rsu.door0.card = none ∧ hall.rsu.door1.card = none
    ∧ (0 + 0 + 3 + 234 + 18 : Byte) ≠ 0 ∧ busyDoors.calm = true ∧ busyDoors.rsu.door0.card = some 5
    ∧ busyDoors.rsu.door1.card = some 6
    ∧ (0 + 0 + 0 + 1 + 255 : Byte) = 0 ∧ hall.slotOf 1 = none
    ∧ (0 + 0 + 3 + 234 + 19 : Byte) = 0 ∧ ((0 * 256 + 0) * 256 + 3) * 256 + 234 = 1002 ∧ hall.slotOf 1002 = some 2
    ∧ hall.slot? 2 = some expected ∧ expected.suspect = false ∧ expected.cand.state = .expected
    ∧ expected.cand.source = none ∧ hall.ssu.held = false
    ∧ (hall.paper? expected.cand.paper).map (·.state) = some .admitting := by decide

theorem test_witness_WithdrawRequest :
    hall.ready = true ∧ hall.clean = true ∧ 99999999 < 100000000 ∧ hall.slotOf 1 = none
    ∧ (hall.slotOf 1006 = some 6 ∧ (hall.slot? 6).map (·.suspect) = some true)
    ∧ hall.finds 1011 11 atADoor ∧ atADoor.cand.source.isSome = true
    ∧ hall.finds 1007 7 absent ∧ absent.cand.source = none ∧ absent.cand.state = .absent
    ∧ hall.finds 1002 2 expected ∧ expected.cand.source = none ∧ expected.cand.state = .expected ∧ expected.cand.seat = none
    ∧ hall.finds 1003 3 waiting ∧ waiting.cand.state = .waiting ∧ waiting.clock.state = .none ∧ waiting.cand.seat = none
    ∧ hall.finds 0 0 notSeatedYet ∧ notSeatedYet.cand.state = .admitted ∧ notSeatedYet.clock.state = .none
    ∧ notSeatedYet.cand.seat = some 1 ∧ (hall.seat? 1).map (fun r => (r.suspect, r.state)) = some (false, .held)
    ∧ hall.finds 1008 8 lateWaiting ∧ lateWaiting.cand.state = .waiting ∧ lateWaiting.clock.state ≠ .none := by
  unfold State.finds; decide

/-- A batch of one part, being taken. -/
def inBatch (s : State) (h : BatchHeader) (left : Nat) (answers : List Answer) (stopped : Bool) (refusal : Option Reason) :
    State :=
  { s with sli := { s.sli with
    receive := .inBatch ⟨h, true, [], left, true⟩ false, taken := some (.batch ⟨h, refusal, answers, stopped, false⟩) } }

theorem test_witness_RosterEntryIsTaken :
    (let s := inBatch hall .loadCandidates 14 [] false none
     s.calm = true ∧ s.clean = true ∧ s.deaf = false ∧ s.sli.receive = .inBatch ⟨.loadCandidates, true, [], 14, true⟩ false
     ∧ s.sli.taken = some (.batch ⟨.loadCandidates, none, [], false, false⟩) ∧ 14 ≤ 14)
    ∧ 2 ≤ 2 ∧ 576 ≤ 576 ∧ 99999999 < 100000000 ∧ 16 ≤ 16 ∧ 511 < 512
    ∧ [CandidateClass.standard, .arranged][1]? = some .arranged ∧ 575 < 576 ∧ 15 < 16
    ∧ hall.paper? 14 = none ∧ (hall.paper? 1).map (·.state) = some .admitting
    ∧ hall.slot? 575 = some last ∧ last.suspect = false ∧ last.cand.state = .expected ∧ last.cand.source = none
    ∧ hall.slot? 574 = none
    ∧ (∀ e ∈ hall.rsu.slots, e.1 ≠ 575 → e.2.shadow.number ≠ some 1575) := by decide

/-- The hall with an allocation being served at a stage. -/
def serving (s : State) (k paper : Nat) (g : Stage) : State :=
  { s with sal := { s.sal with serving := some ⟨.door0, k, paper, .standard, [0], g⟩ } }

theorem test_witness_SearchConsidersOneSeat :
    (serving hall 2 1 (.searching ⟨[], false, false, 0, 0, false⟩)).calm = true
    ∧ (serving hall 2 1 (.searching ⟨[0], true, false, 0, 0, false⟩)).calm = true ∧ hall.clean = true
    ∧ 0 < hall.seatCount 0 ∧ (hall.fillOrder 0)[0]? = some 0
    ∧ (hall.seat? 0).map (fun r => (r.state, r.desk, r.suspect, r.used, r.cls))
        = some (.free, some 1, false, false, .standard)
    ∧ hall.online 1 = true ∧ hall.spacingHolds 1 0 = true
    ∧ 5 < hall.seatCount 0 ∧ (hall.fillOrder 0)[5]? = some 5 ∧ (hall.seat? 5).map (·.suspect) = some true
    ∧ (hall.fillOrder 0)[1]? = some 2 ∧ (hall.seat? 2).map (·.state) = some .occupied := by decide

/-- The hall with requests at the arbiter. -/
def requesting (d0 d1 : Option Nat) (st : Option StationRequest) (retry : Bool) (l : Requester) : State :=
  { hall with sal := { hall.sal with
    reqDoor0 := d0, reqDoor1 := d1, reqStation := st, reqRetry := retry, last := l, wait := [3]
    retry := if retry then .pending else .idle } }

theorem test_witness_ArbiterServesRoundRobin :
    (serving hall 2 1 .noSeat).calm = true ∧ (serving hall 2 1 .noSeat).sal.serving.isSome = true
    ∧ hall.calm = true ∧ hall.clean = true ∧ hall.sal.serving = none ∧ hall.sal.reqRetry = false
    ∧ hall.slot? 2 = some expected ∧ expected.suspect = false ∧ expected.cand.preplaced = none
    ∧ (hall.paper? expected.cand.paper).isSome = true ∧ hall.slot? 3 = some waiting ∧ waiting.cand.preplaced = none
    ∧ [Requester.door0, .door1, .station, .retry].all (fun l =>
        (requesting (some 2) none none false l).calm && (requesting none (some 2) none false l).calm
        && (requesting none none (some (.allocation 2)) false l).calm && (requesting none none none true l).calm) = true
    ∧ (requesting none none none true .station).ssu.held = false
    ∧ (requesting none none none true .station).sal.retry = .pending
    ∧ (requesting none none none true .station).sal.wait = [3]
    ∧ (let s : State := { requesting none none (some (.place 1002 (some 511) 1)) false .door0 with
         sli := { hall.sli with taken := some (.deferred 35 false) } }
       s.calm = true ∧ s.clean = true ∧ s.sal.serving = none ∧ s.sal.reqDoor0 = none ∧ s.sal.reqDoor1 = none
       ∧ s.sal.reqRetry = false ∧ s.sli.taken = some (.deferred 35 false)
       ∧ s.sal.reqStation = some (.place 1002 (some 511) 1) ∧ s.finds 1002 2 expected)
    ∧ expected.cand.source = none ∧ expected.cand.state = .expected ∧ 1 < 2 ∧ 511 ≤ 511
    ∧ 2 ≤ 2 ∧ 99999999 < 100000000 ∧ 511 < 512 := by unfold State.finds; decide

/-- The hall with card 1002 outstanding at door 0. -/
def atDoor0 : State := { hall with rsu := { hall.rsu with door0 := ⟨some 1002, none⟩ } }

theorem test_witness_DoorAllocationOutcome :
    (serving atDoor0 2 1 (.found 0 0 0 ⟨[0], true, false, 0, 1, false⟩)).calm = true ∧ atDoor0.clean = true
    ∧ atDoor0.slot? 2 = some expected ∧ expected.suspect = false ∧ expected.cand.state = .expected
    ∧ expected.cand.paper = 1 ∧ atDoor0.paper? 1 = some (aPaper .admitting) ∧ (aPaper .admitting).admClosed = false
    ∧ atDoor0.rsu.door0.card = some 1002 ∧ atDoor0.sli.notices.length < 64
    ∧ (atDoor0.seat? 0).map (fun r => (r.suspect, r.state)) = some (false, .free) ∧ atDoor0.spacingHolds 1 0 = true
    ∧ (serving atDoor0 2 1 .noSeat).calm = true ∧ atDoor0.sal.wait.length < 32
    ∧ (let s := serving { atDoor0 with sal := { atDoor0.sal with wait := List.range 32 } } 2 1 .noSeat
       s.calm = true ∧ 32 ≤ s.sal.wait.length) := by decide

theorem test_witness_RetryTriggerActs :
    base.sal.retry = .idle ∧ base.sal.wait = [] ∧ hall.sal.retry = .idle ∧ hall.sal.wait ≠ []
    ∧ ({ hall with sal := { hall.sal with retry := .pending } }).sal.retry = .pending
    ∧ ({ hall with sal := { hall.sal with retry := .walking } }).sal.retry = .walking
    ∧ hall.calm = true ∧ quietHall.ready = true ∧ quietHall.ssu.held = false
    ∧ (∀ e ∈ quietHall.ssu.papers, e.2.state = .defined ∨ e.2.state = .admitting ∨ e.2.state = .closed)
    ∧ (hall.seat? 3).map (·.state) = some .vacated ∧ (aSeat 4 none .free none none).state = .free
    ∧ hall.ready = true ∧ (hall.zone? 7).map (fun r => (r.state, r.standard)) = some (.closed, .reserve)
    ∧ (hallWith { aPaper .admitting with zoneOrder := [7] }).ready = true
    ∧ ((hallWith { aPaper .admitting with zoneOrder := [7] }).paper? 1).map (·.zoneOrder) = some [7] := by decide

theorem test_witness_TimeBaseLawsAreKept :
    ({ base with pending := [.hallSecond] }).htb.lawful = true
    ∧ (next? (step { base with pending := [.hallSecond] })).isSome = true := by decide

theorem test_witness_NoticeQueueNeverExceeds64 :
    (let s : State := { base with
       sli := { base.sli with notices := List.replicate 64 ⟨.contactClear, 0, []⟩, sending := some (.notice ⟨.contactClear, 0, []⟩ false) }
       fcu := { base.fcu with held := List.replicate 8 ⟨.table, .seat, some 0, .corrected, 0⟩ }
       ssu := { base.ssu with contact := true }, pending := [.contactClear] }
     s.sli.notices.length ≤ 64 ∧ s.fcu.held.length ≤ 8 ∧ (next? (step s)).isSome = true) := by decide

theorem test_witness_TickAndHallSecond :
    hall.calm = true ∧ hall.htb.cal = .idle
    ∧ ({ hall with htb := { hall.htb with cal := .armed } }).calm = true
    ∧ ({ hall with htb := { hall.htb with cal := .counting } }).calm = true
    ∧ hall.htb.phase < hall.htb.trim
    ∧ (let s : State := { hall with htb := { hall.htb with phase := 524288, time := 86399 } }
       s.htb.trim ≤ s.htb.phase ∧ s.htb.time < 86400 ∧ s.clean = true ∧ s.ssu.held = false
       ∧ (next? (exec .hallSecond s)).isSome = true)
    ∧ (hall.slot? 1 = some writing ∧ writing.suspect = false) ∧ (hall.slot? 6 = some damaged ∧ damaged.suspect = true)
    ∧ (hall.paper? 2).isSome = true ∧ ({ hall with ssu := { hall.ssu with held := true } }).ssu.held = true := by decide

theorem test_witness_SetTimeRequest :
    hall.ready = true ∧ 86400 ≤ 86400 ∧ 86399 < 86400 ∧ hall.htb.timeSet = false
    ∧ (let s : State := { hall with htb := { hall.htb with timeSet := true, time := 100 } }
       s.ready = true ∧ s.htb.timeSet = true ∧ 100 ≤ s.htb.time ∧ s.htb.time < 101) := by decide

theorem test_witness_CalibrationAndTrim :
    hall.ready = true ∧ hall.htb.cal = .idle ∧ hall.sli.notices.length < 64 ∧ 15 ≠ 16 ∧ 15 ≠ 64 ∧ 15 ≠ 256
    ∧ ({ hall with htb := { hall.htb with cal := .armed, calLength := 16 } }).ready = true
    ∧ hall.calm = true ∧ ({ hall with htb := { hall.htb with cal := .armed } }).calm = true
    ∧ (let s : State := { hall with htb := { hall.htb with cal := .counting, calLength := 16, pulses := 14 } }
       s.calm = true ∧ s.htb.pulses + 1 ≠ s.htb.calLength)
    ∧ (let s : State := { hall with htb := { hall.htb with cal := .counting, calLength := 16, pulses := 15 } }
       s.calm = true ∧ s.htb.pulses + 1 = s.htb.calLength ∧ s.sli.notices.length < 64)
    ∧ (let s : State := { hall with htb := { hall.htb with cal := .counting, window := 49152 } }
       s.htb.cal ≠ .idle ∧ 49152 ≤ s.htb.window ∧ s.sli.notices.length < 64) := by decide

theorem test_witness_DefinePaperRequest :
    hall.ready = true ∧ paperFieldsOk paperFields = true ∧ paperFieldsOk { paperFields with duration := 9 } = false
    ∧ 16 ≤ 16 ∧ 15 < 16 ∧ paperFieldsOk { paperFields with form := 3 } = true ∧ hall.mru.forms.find 3 = none
    ∧ hall.mru.forms.find 0 = some 1 ∧ paperFieldsOk { paperFields with sections := [1, 2] } = true ∧ 1 < 2
    ∧ 1 ≤ 1 ∧ hall.paper? 14 = none ∧ (hall.paper? 15).map (·.state) = some .closed
    ∧ (hall.paper? 0).map (fun r => (r.state, r.form, r.versions)) = some (.defined, 0, 1) := by decide

theorem test_witness_ZoneOrderAndWarningRequests :
    hall.ready = true ∧ 16 ≤ 16 ∧ ¬ ([0, 0] : List Nat).Nodup ∧ hall.paper? 14 = none
    ∧ ([7, 0] : List Nat) ≠ [] ∧ [7, 0].length ≤ 8 ∧ (∀ z ∈ [7, 0], z < 8) ∧ [7, 0].Nodup
    ∧ [1, 2, 59, 60].length ≤ 4 ∧ (∀ t ∈ [1, 2, 59, 60], 1 ≤ t ∧ t ≤ 60) ∧ [1, 2, 59, 60].Nodup ∧ ¬ (1 ≤ 0)
    ∧ (hall.paper? 1).isSome = true ∧ (hall.paper? 3).map (·.state) = some .writing
    ∧ (hall.paper? 1).map (·.state) = some .admitting := by decide

theorem test_witness_OpenAndStartPaper :
    hall.ready = true ∧ hall.clean = true ∧ hall.tablesSorted = true ∧ 16 ≤ 16 ∧ hall.paper? 14 = none
    ∧ (hall.paper? 0).map (·.state) = some .defined ∧ (hall.paper? 15).map (·.state) = some .closed
    ∧ ({ hall with ssu := { hall.ssu with held := true } }).ready = true
    ∧ (hall.paper? 1).map (·.state) = some .admitting ∧ hall.ssu.held = false ∧ 0 < (aPaper .admitting).reading
    ∧ hall.sli.notices.length < 64
    ∧ hall.slot? 3 = some waiting ∧ waiting.suspect = false ∧ waiting.shadow.paper = some 1
    ∧ waiting.clock.state = .none ∧ waiting.cand.state = .waiting
    ∧ hall.slot? 1 = some writing ∧ writing.shadow.paper ≠ some 1 := by decide

theorem test_witness_EndPaperFinishesItsCandidates :
    hall.ready = true ∧ hall.clean = true ∧ hall.tablesSorted = true ∧ 16 ≤ 16 ∧ hall.paper? 14 = none
    ∧ (hall.paper? 15).map (·.state) = some .closed ∧ (hall.paper? 1).map (·.state) = some .admitting
    ∧ (∃ e ∈ hall.rsu.slots, e.2.suspect = true ∧ e.2.shadow.paper = some 1)
    ∧ (∀ e ∈ hall.rsu.slots, e.2.suspect = true → e.2.shadow.paper ≠ some 3)
    ∧ (hall.paper? 3).map (·.state) = some .writing ∧ hall.slot? 1 = some writing ∧ writing.shadow.paper = some 3
    ∧ writing.clock.state = .running
    ∧ (let s := hall.withSlot 6 expected.cand .zero
       s.ready = true ∧ (∀ e ∈ s.rsu.slots, e.2.suspect = true → e.2.shadow.paper ≠ some 1)
       ∧ s.slot? 3 = some waiting ∧ waiting.cand.state = .waiting ∧ waiting.clock.state = .none
       ∧ s.slot? 2 = some expected ∧ expected.cand.state = .expected ∧ expected.cand.source = none) := by decide

/-- The hall held, with the clock of slot 1 HELD from RUNNING. -/
def heldHall : State :=
  { hall.withSlot 1 writing.cand { aClock .held with before := some .running } with
    ssu := { hall.ssu with held := true, srcStation := true, holdLength := 7, signal := .hold true } }

theorem test_witness_HoldAndRelease :
    hall.ready = true ∧ hall.clean = true ∧ hall.sli.notices.length < 64 ∧ hall.ssu.held = false
    ∧ hall.slot? 1 = some writing ∧ writing.suspect = false ∧ writing.clock.state = .running
    ∧ hall.slot? 6 = some damaged ∧ damaged.suspect = true
    ∧ heldHall.ready = true ∧ heldHall.clean = true ∧ heldHall.sli.notices.length < 64 ∧ heldHall.ssu.held = true
    ∧ heldHall.ssu.contact = false ∧ (∀ e ∈ heldHall.ssu.papers, e.2.startPending = false)
    ∧ (heldHall.slot? 1).map (fun x => (x.suspect, x.clock.state, x.clock.before)) = some (false, .held, some .running)
    ∧ (let s : State := { heldHall with ssu := { heldHall.ssu with contact := true } }
       s.ready = true ∧ s.ssu.held = true ∧ s.ssu.contact = true) := by decide

theorem test_witness_HoldContactSamples :
    hall.ready = true ∧ 2 ≤ 2 ∧ hall.calm = true ∧ hall.clean = true ∧ hall.ssu.quiet = false ∧ hall.ssu.contact = false
    ∧ hall.ssu.held = false ∧ hall.ssu.sense = .normal ∧ heldHall.calm = true ∧ heldHall.ssu.contact = false
    ∧ heldHall.ssu.held = true
    ∧ ({ hall with ssu := { hall.ssu with quiet := true } }).calm = true
    ∧ ({ hall with ssu := { hall.ssu with contact := true } }).calm = true
    ∧ ({ hall with ssu := { hall.ssu with sense := .inverted } }).calm = true := by decide

theorem test_witness_BreaksAndAddedTime :
    hall.ready = true ∧ hall.clean = true ∧ 99999999 < 100000000 ∧ (0 = 0 ∨ 30 < 0) ∧ 30 < 31 ∧ hall.slotOf 1 = none
    ∧ hall.finds 1008 8 lateWaiting ∧ lateWaiting.cand.state ≠ .seated
    ∧ hall.finds 99999999 1 writing ∧ writing.cand.state = .seated ∧ writing.clock.state = .running
    ∧ 0 < writing.clock.budget ∧ writing.cand.seat = some 2
    ∧ (let s := hall.withSlot 1 writing.cand { writing.clock with budget := 0 }
       s.ready = true ∧ (s.slot? 1).map (·.clock.budget) = some 0)
    ∧ (hall.paper? 3).map (·.state) = some .writing ∧ 1 ≤ 1 ∧ 30 ≤ 30
    ∧ hall.finds 1004 4 finished ∧ finished.clock.state = .stopped ∧ (hall.paper? finished.cand.paper).isSome = true
    ∧ hall.finds 1002 2 expected ∧ expected.clock.state = .none
    ∧ (hall.paper? expected.cand.paper).map (·.state) = some .admitting := by unfold State.finds; decide

theorem test_witness_FinishingACandidate :
    hall.ready = true ∧ hall.clean = true ∧ 99999999 < 100000000 ∧ hall.slotOf 1 = none
    ∧ hall.finds 1004 4 finished ∧ finished.clock.state = .stopped ∧ hall.finds 1010 10 readingNow
    ∧ readingNow.clock.state = .reading ∧ hall.finds 99999999 1 writing ∧ writing.clock.state = .running
    ∧ hall.finds 1008 8 lateWaiting ∧ lateWaiting.clock.state = .running ∧ lateWaiting.cand.seat = none
    ∧ hall.paper? lateWaiting.cand.paper = some (aPaper .writing) ∧ (aPaper .writing).state ≠ .overtime
    ∧ hall.sli.notices.length + 1 < 64
    ∧ hall.slot? 1 = some writing ∧ writing.cand.seat = some 2 ∧ (hall.seat? 2).map (·.zone) = some 0
    ∧ (hall.ringsOf 0).waiters = [] := by unfold State.finds; decide

/-- One candidate alone, of no defined paper, with steps due. -/
def alone (x : Slot) (d : List Due) : State := { base with rsu := { base.rsu with slots := [(8, x)] }, due := d }

/-- A clock at 0, alone of its kind. -/
def ranOut : Slot := aSlot (aCand 1008 3 .waiting none) { aClock .running with remaining := 0 }

theorem test_witness_ClockStepsOfTheSecond :
    Due.clockExpiry ∉ hall.due ∧ (alone ranOut [.clockExpiry]).due = .clockExpiry :: []
    ∧ (alone ranOut [.clockExpiry]).tablesSorted = true ∧ (alone ranOut [.clockExpiry]).slot? 8 = some ranOut
    ∧ ranOut.suspect = false ∧ ranOut.clock.state = .running ∧ ranOut.clock.remaining = 0 ∧ ranOut.cand.seat = none
    ∧ (alone ranOut [.clockExpiry]).paper? 3 = none ∧ (alone ranOut []).sli.notices.length + 1 < 64
    ∧ (let x := aSlot (aCand 1008 3 .seated (some 2)) { aClock .paused with budget := 0 }
       (alone x [.breakOverrun 8]).slot? 8 = some x ∧ x.suspect = false ∧ x.clock.state = .paused ∧ x.clock.budget = 0)
    ∧ (let x := aSlot { aCand 1008 3 .admitted (some 2) with walk := some 0 } .zero
       (alone x [.notSeated 8]).slot? 8 = some x ∧ x.suspect = false ∧ x.cand.state = .admitted ∧ x.cand.walk = some 0) := by
  decide

/-- The same state's clock is alone of its kind. -/
theorem test_witness_ClockStepsOfTheSecond_alone :
    ∀ j y, j ≠ 8 → (alone ranOut [.clockExpiry]).slot? j = some y →
      y.suspect = true ∨ y.clock.state ≠ .running ∨ y.clock.remaining ≠ 0 := by
  intro j y hj h
  simp [alone, State.slot?, Table.find, Ne.symm hj] at h

/-- The hall with paper 3 in another record and a step due. -/
def paperStep (r : Paper) (d : Due) : State := { hall.withPaperRecord 3 r with due := [d] }

theorem test_witness_PaperStepsOfTheSecond :
    hall.due = [] ∧ (paperStep (aPaper .reading) (.readingEnd 3)).due = .readingEnd 3 :: []
    ∧ (paperStep (aPaper .reading) (.readingEnd 3)).paper? 3 = some (aPaper .reading)
    ∧ (aPaper .reading).state = .reading ∧ (aPaper .reading).readingLeft = 0 ∧ 0 < (aPaper .reading).late
    ∧ (let r := { aPaper .writing with elapsed := 1800 }
       let s := paperStep r (.admissionCloses 3)
       s.paper? 3 = some r ∧ s.tablesSorted = true ∧ r.state = .writing ∧ r.elapsed = 60 * r.late ∧ r.admClosed = false
       ∧ s.sli.notices.length < 64)
    ∧ (let r := { aPaper .writing with elapsed := 3600 }
       let s := paperStep r (.writingEnd 3)
       s.paper? 3 = some r ∧ r.state = .writing ∧ r.elapsed = 60 * r.duration ∧ s.clocksOpen 3 = true
       ∧ ({ s with rsu := base.rsu }).clocksOpen 3 = false ∧ s.ssu.held = false)
    ∧ (let s := paperStep (aPaper .admitting) (.scheduledStart 3)
       s.paper? 3 = some (aPaper .admitting) ∧ s.ssu.held = false ∧ 0 < (aPaper .admitting).reading
       ∧ ({ s with ssu := { s.ssu with held := true } }).paper? 3 = some (aPaper .admitting))
    ∧ (paperStep (aPaper .closed) (.scheduledStart 3)).paper? 3 = some (aPaper .closed) := by decide

theorem test_witness_WarningsAndTimers :
    hall.due = []
    ∧ (let x := aSlot writing.cand { aClock .running with remaining := 600 }
       let s : State := { hall.withSlot 1 x.cand x.clock with due := [.clockWarning 1] }
       s.slot? 1 = some x ∧ (s.paper? x.cand.paper).map (·.warnings[x.clock.warnIndex]?) = some (some 10)
       ∧ x.suspect = false ∧ x.clock.state = .running ∧ x.clock.remaining = 60 * 10 ∧ x.cand.seat = some 2
       ∧ (s.seat? 2).map (·.desk) = some (some 3) ∧ (s.desk? 3).isSome = true)
    ∧ (let x := aSlot lateWaiting.cand { aClock .running with remaining := 300, warnIndex := 1 }
       let s : State := { hall.withSlot 8 x.cand x.clock with due := [.clockWarning 8] }
       s.slot? 8 = some x ∧ (s.paper? x.cand.paper).map (·.warnings[x.clock.warnIndex]?) = some (some 5)
       ∧ x.clock.remaining = 60 * 5 ∧ x.cand.seat = none)
    ∧ (let r := { aPaper .writing with elapsed := 3000 }
       (paperStep r (.warning 3)).paper? 3 = some r ∧ r.state = .writing
       ∧ r.warnings.filter (fun w => r.elapsed + 60 * w == 60 * r.duration) = [10])
    ∧ ({ hall with due := [.pulseEnd], ssu := { hall.ssu with signal := .pulse 0 } }).ssu.signal = .pulse 0
    ∧ (let d := { aDesk .online with window := some 0 }
       ({ hall.withDesk 1 d with due := [.finishWindowExpiry 1] } : State).desk? 1 = some d ∧ d.window = some 0)
    ∧ (let d := { aDesk .online with warning := some 0, feedback := some ⟨.dark, 1⟩ }
       ({ hall.withDesk 1 d with due := [.lampItemExpiry 1] } : State).desk? 1 = some d) := by decide

theorem test_witness_ClearSittingKeepsTheConfiguration :
    hall.ready = true ∧ hall.ssu.held = false
    ∧ (∃ e ∈ hall.ssu.papers, e.2.state = .reading ∨ e.2.state = .writing ∨ e.2.state = .overtime)
    ∧ quietHall.ready = true ∧ quietHall.clean = true ∧ quietHall.ssu.held = false
    ∧ (∀ e ∈ quietHall.ssu.papers, e.2.state = .defined ∨ e.2.state = .admitting ∨ e.2.state = .closed) := by decide

/-- A result record for form 0. -/
def aResult : ResultRecord := ⟨7, 0, 0, 1, [], ⟨[0], 0, 4, some 0, 0, 0, 0⟩, false, false⟩

theorem test_witness_StatusAndReportQueries :
    hall.ready = true ∧ hall.clean = true ∧ 16 ≤ 16 ∧ 14 < 16 ∧ hall.paper? 14 = none ∧ 15 < 16
    ∧ (hall.paper? 15).isSome = true ∧ 8 ≤ 8 ∧ 7 < 8 ∧ 99999999 < 100000000 ∧ hall.slotOf 1 = none
    ∧ hall.finds 1005 5 collected ∧ hall.mru.results.find 5 = none
    ∧ (let s : State := { hall with mru := { hall.mru with results := [(5, aResult)] } }
       s.ready = true ∧ s.finds 1005 5 collected ∧ s.mru.results.find 5 = some aResult ∧ aResult.suspect = false)
    ∧ (let s : State := { hall with mru := { hall.mru with results := [(5, { aResult with suspect := true })] } }
       s.ready = true ∧ s.finds 1005 5 collected ∧ (s.mru.results.find 5).map (·.suspect) = some true) := by
  unfold State.finds; decide

theorem test_witness_DeskRequests :
    hall.ready = true ∧ hall.clean = true ∧ 4 ≤ 4 ∧ 2 ≤ 2 ∧ 1 < 2 ∧ 3 ≤ 3 ∧ 511 < 512 ∧ 600 < 601
    ∧ [Colour.off, .green, .amber, .red][3]? = some .red ∧ [Cadence.steady, .slow, .fast][2]? = some .fast
    ∧ 511 ≤ 511 ∧ 1 ≤ 1 ∧ 600 ≤ 600 ∧ hall.seat? 6 = none ∧ (hall.seat? 5).map (·.suspect) = some true
    ∧ (hall.seat? 511).map (fun r => (r.suspect, r.desk)) = some (false, none)
    ∧ (hall.seat? 0).map (fun r => (r.suspect, r.desk)) = some (false, some 1) ∧ (hall.desk? 1).isSome = true
    ∧ (∀ c ∈ hall.dbc.calls, c.seat ≠ 511)
    ∧ hall.dbc.calls.find? (fun e => e.seat == 2) = some ⟨2, .breakRequest, 5⟩
    ∧ (hall.seat? 2).map (·.suspect) = some false
    ∧ hall.dbc.calls.find? (fun e => e.seat == 5) = some ⟨5, .call, 6⟩ := by decide

/-- The hall with an exchange on the desk bus. -/
def exchanging (x : Exchange) : State := { hall with dbc := { hall.dbc with exchange := some x } }

theorem test_witness_DeskPollAndTimeout :
    (exchanging ⟨1, false, false⟩).calm = true ∧ (exchanging ⟨1, false, false⟩).dbc.exchange.isSome = true
    ∧ base.calm = true ∧ base.dbc.desks = [] ∧ hall.calm = true ∧ hall.dbc.exchange = none
    ∧ (hall.desk? 1).isSome = true
    ∧ ((∀ b ∈ hall.dbc.desks.keys, hall.dbc.polled.getD 0 < b → 1 ≤ b) ∧ hall.dbc.polled.getD 0 < 1
        ∧ hall.tablesSorted = true)
    ∧ (let s : State := { hall with dbc := { hall.dbc with polled := some 3 } }
       s.calm = true ∧ (∀ b ∈ s.dbc.desks.keys, b ≤ s.dbc.polled.getD 0) ∧ s.dbc.desks.keys.head? = some 1)
    ∧ (exchanging ⟨1, true, true⟩).calm = true ∧ (exchanging ⟨1, true, false⟩).calm = true
    ∧ ((exchanging ⟨1, true, false⟩).withDesk 1 (aDesk .offline)).desk? 1 = some (aDesk .offline)
    ∧ (let d := { aDesk .online with misses := 2 }
       ((exchanging ⟨1, true, false⟩).withDesk 1 d).calm = true
       ∧ ((exchanging ⟨1, true, false⟩).withDesk 1 d).desk? 1 = some d ∧ d.state ≠ .offline ∧ d.misses = 2) := by decide

theorem test_witness_DeskReplyIsTaken :
    (exchanging ⟨2, false, false⟩).calm = true ∧ (exchanging ⟨2, false, false⟩).desk? 2 = some (aDesk .online)
    ∧ (0 + 2 + 0 + 0 + 253 : Byte) ≠ 0 ∧ (0 : Byte).toNat * 256 + (1 : Byte).toNat ≠ 2
    ∧ (0 + 2 + 16 + 0 + 238 : Byte) = 0 ∧ (0 : Byte).toNat * 256 + (2 : Byte).toNat = 2
    ∧ ((exchanging ⟨2, false, false⟩).withDesk 2 (aDesk .offline)).calm = true
    ∧ ((exchanging ⟨2, false, false⟩).withDesk 2 (aDesk .quiet)).calm = true ∧ (1 : Byte).getLsbD 0 ≠ (aDesk .quiet).expected
    ∧ (0 : Byte).getLsbD 0 = (aDesk .online).expected ∧ (aDesk .online).longPress = none
    ∧ pressesOf hall.dbc.inverted .none (aDesk .online).levels .none = [] ∧ hall.dbc.inverted = .none
    ∧ hall.clean = true ∧ hall.seatOfDesk 2 = some 1
    ∧ (hall.seat? 1).map (fun r => (r.suspect, r.state, r.occupant, r.desk)) = some (false, .held, some 0, some 2)
    ∧ hall.slot? 0 = some notSeatedYet ∧ notSeatedYet.suspect = false ∧ notSeatedYet.cand.state = .admitted := by decide

theorem test_witness_LampTable :
    hall.desk? 2 = some (aDesk .online) ∧ hall.seatOfDesk 2 = some 1 ∧ (hall.seat? 1).map (·.suspect) = some false
    ∧ (aDesk .online).override = none ∧ (aDesk .online).feedback = none ∧ (aDesk .online).window = none
    ∧ (aDesk .online).warning = none
    ∧ (hall.seat? 1).map (fun r => (r.occupant, r.state)) = some (some 0, .held) ∧ hall.slot? 0 = some notSeatedYet
    ∧ notSeatedYet.clock.state ≠ .paused ∧ notSeatedYet.clock.state ≠ .held ∧ notSeatedYet.cand.state ≠ .finished
    ∧ hall.seatOfDesk 3 = some 2 ∧ (hall.seat? 2).map (fun r => (r.occupant, r.state)) = some (some 1, .occupied)
    ∧ ((hall.withSlot 1 writing.cand (aClock .paused)).slot? 1).map (·.clock.state) = some .paused
    ∧ ((hall.withSlot 1 (aCand 99999999 3 .finished (some 2)) (aClock .stopped)).slot? 1).map (·.cand.state)
        = some .finished
    ∧ hall.seatOfDesk 1 = some 0 ∧ (hall.seat? 0).map (fun r => (r.occupant, r.state)) = some (none, .free)
    ∧ (hall.withSeat 0 { aSeat 1 (some 1) .free none none with suspect := true }).seatOfDesk 1 = some 0 := by decide

/-- The hall with collector 7 in a state, and rings for zone 0. -/
def collecting (c : Collector) (r : Rings) : State :=
  { hall with clu := { rings := [(0, r)], collectors := [(7, c)] } }

theorem test_witness_CollectorRequests :
    hall.ready = true ∧ 8 ≤ 8 ∧ 7 < 8 ∧ ([0, 7] : List Nat) ≠ [] ∧ (∀ z ∈ [0, 7], z < 8) ∧ [0, 7].Nodup ∧ ¬ [0, 0].Nodup
    ∧ (collecting (aCollector .waiting) .empty).ready = true
    ∧ ((collecting (aCollector .waiting) .empty).collectorOf 7).state = .waiting
    ∧ (hall.collectorOf 7).state = .off ∧ hall.zone? 6 = none ∧ (hall.zone? 0).isSome = true
    ∧ (let s := collecting (aCollector .idle) .empty
       s.ready = true ∧ (s.collectorOf 7).state = .idle ∧ (s.zone? 7).isSome = true ∧ 7 ∉ (s.collectorOf 7).zones
       ∧ 0 ∈ (s.collectorOf 7).zones ∧ (s.ringsOf 0).urgent = [] ∧ (s.ringsOf 0).main = [])
    ∧ (let s := collecting (aCollector .idle) ⟨[], [anEntry 2 1], []⟩
       s.ready = true ∧ (s.collectorOf 7).state = .idle ∧ 0 ∈ (s.collectorOf 7).zones ∧ (s.ringsOf 0).main ≠ []) := by
  decide

/-- Collector 7 in a round over zone 0 with the entry of seat 2; the candidate there is FINISHED. -/
def inARound : State :=
  { collecting { aCollector .round with zone := some 0, round := [anEntry 2 1], timer := some 0, expired := [3] } .empty with
    rsu := (hall.withSlot 1 (aCand 99999999 3 .finished (some 2)) (aClock .stopped)).rsu }

theorem test_witness_DeferAndDirectCollection :
    inARound.ready = true ∧ 8 ≤ 8 ∧ 511 < 512 ∧ 7 < 8 ∧ 511 ≤ 511 ∧ (inARound.collectorOf 0).state = .off
    ∧ (inARound.collectorOf 7).state = .round ∧ (∀ e ∈ (inARound.collectorOf 7).round, e.seat ≠ 511)
    ∧ 3 ∈ (inARound.collectorOf 7).expired ∧ (inARound.collectorOf 7).zone = some 0
    ∧ (inARound.collectorOf 7).round.find? (fun e => e.seat == 2) = some (anEntry 2 1)
    ∧ (inARound.ringsOf 0).waiters = []
    ∧ hall.ready = true ∧ hall.clean = true ∧ 576 ≤ 576 ∧ 574 < 576 ∧ hall.slot? 574 = none
    ∧ hall.slot? 6 = some damaged ∧ damaged.suspect = true ∧ hall.slot? 575 = some last ∧ last.suspect = false
    ∧ last.cand.state ≠ .finished
    ∧ hall.slot? 4 = some finished ∧ finished.suspect = false ∧ finished.cand.state = .finished ∧ finished.cand.seat = none
    ∧ min 9 8 ≠ finished.cand.issued ∧ hall.sli.notices.length < 64 := by decide

theorem test_witness_ConfirmationCollectsAScript :
    (let s := inBatch inARound (.confirm 7) 4 [] false none
     s.calm = true ∧ s.clean = true ∧ s.deaf = false ∧ 7 < 8 ∧ 511 < 512 ∧ 2 ≤ 511
     ∧ (s.collectorOf 7).state = .round ∧ (∀ e ∈ (s.collectorOf 7).round, e.seat ≠ 511)
     ∧ (s.collectorOf 7).round.find? (fun e => e.seat == 2) = some (anEntry 2 1)
     ∧ (s.seat? 2).map (fun r => (r.suspect, r.state)) = some (false, .occupied)
     ∧ (s.slot? 1).map (fun x => (x.suspect, x.cand.state)) = some (false, .finished))
    ∧ (inBatch hall (.confirm 0) 4 [] false none).calm = true ∧ (hall.collectorOf 0).state = .off
    ∧ (inBatch { inARound with rsu := hall.rsu } (.confirm 7) 4 [] false none).calm = true
    ∧ (hall.slot? 1).map (·.cand.state) = some .seated := by decide

theorem test_witness_RoundTimesOut :
    hall.due = [] ∧ (hall.collectorOf 7).state ≠ .round
    ∧ (let s : State := { inARound with due := [.roundTimeout 7] }
       s.due = .roundTimeout 7 :: [] ∧ (s.collectorOf 7).state = .round ∧ (s.collectorOf 7).timer = some 0
       ∧ (s.collectorOf 7).zone = some 0 ∧ (s.ringsOf 0).waiters = [] ∧ s.sli.notices.length < 64) := by decide

theorem test_witness_FormAndMarkingRequests :
    hall.ready = true ∧ hall.clean = true ∧ 4 ≤ 4 ∧ 120 < 121 ∧ 3 < 4 ∧ 1 ≤ 120 ∧ 120 ≤ 120
    ∧ hall.formInUse 0 = true ∧ hall.formInUse 3 = false ∧ (∀ e ∈ hall.mru.results, e.2.suspect = false)
    ∧ (∀ e ∈ hall.ssu.papers, e.2.form = 3 → e.2.sections.getLast?.getD 1 ≤ 1) ∧ hall.mru.forms.find 3 = none
    ∧ (let s : State := { hall with mru := { hall.mru with results := [(5, { aResult with suspect := true })] } }
       s.ready = true ∧ s.formInUse 3 = false ∧ ∃ e ∈ s.mru.results, e.2.suspect = true)
    ∧ (let s : State := { base with ssu := { base.ssu with papers := [(0, { aPaper .defined with sections := [1, 2] })] } }
       s.ready = true ∧ s.formInUse 0 = false ∧ (∀ e ∈ s.mru.results, e.2.suspect = false)
       ∧ ∃ e ∈ s.ssu.papers, e.2.form = 0 ∧ 1 < e.2.sections.getLast?.getD 1) := by decide

/-- Eleven rows: references 30 and 210, eight digit rows of 10, a version row of 4 and one question row of 5. -/
def sheetRows : List (List Byte) :=
  [[30, 210]] ++ List.replicate 8 (210 :: List.replicate 9 30) ++ [[210, 30, 30, 30], [210, 30, 30, 30, 30]]

/-- The hall with a buffer 0. -/
def withBuffer (b : Buffer) : State := { hall with mru := { hall.mru with buffer0 := b } }

theorem test_witness_ScanLinkFrames :
    hall.calm = true ∧ hall.mru.discarding = false ∧ hall.mru.resendWait = [] ∧ hall.filling = none
    ∧ hall.mru.forms.find 3 = none ∧ (hall.mru.forms.find 0).isSome = true ∧ hall.mru.buffer0.state = .free
    ∧ (let s := withBuffer ⟨.full, some 0, some 1, [], false⟩
       s.calm = true ∧ s.filling = none ∧ s.mru.buffer0.state ≠ .free ∧ s.mru.buffer1.state = .free)
    ∧ (let s : State := { withBuffer ⟨.full, some 0, some 1, [], false⟩ with mru :=
         { (withBuffer ⟨.full, some 0, some 1, [], false⟩).mru with buffer1 := ⟨.marking, some 0, some 2, [], false⟩ } }
       s.calm = true ∧ s.filling = none ∧ s.mru.buffer0.state ≠ .free ∧ s.mru.buffer1.state ≠ .free)
    ∧ (withBuffer ⟨.filling, some 0, some 1, [], false⟩).calm = true
    ∧ (withBuffer ⟨.filling, some 0, some 1, sheetRows, false⟩).calm = true ∧ hall.mru.forms.find 0 = some 1
    ∧ sheetRows.length = 10 + 1 ∧ sheetRows.head? = some [30, 210] ∧ (30 : Byte).toNat + 64 ≤ (210 : Byte).toNat
    ∧ (93 : Byte).toNat < (30 : Byte).toNat + 64
    ∧ ({ hall with mru := { hall.mru with discarding := true } }).calm = true
    ∧ [ScanKind.frameOpen, .row, .frameClose][2]? = some .frameClose := by decide

/-- A sheet being marked. -/
def marking (p : Progress) : State :=
  { hall with mru := { hall.mru with
    marker := some ⟨.sheet 0 p, .reset⟩, buffer0 := ⟨.marking, some 0, some 1, [[30, 210]], false⟩ } }

theorem test_witness_MarkerTakesAndEndsASheet :
    (let s : State := { hall with mru := { hall.mru with
       buffer0 := ⟨.full, some 0, some 1, sheetRows, false⟩, fullOrder := [0] } }
     s.calm = true ∧ s.mru.marker = none ∧ s.mru.fullOrder = [0] ∧ s.mru.buffer0.held = false)
    ∧ (marking .taken).calm = true ∧ (marking .taken).clean = true ∧ (marking .taken).mru.marker.isSome = true
    ∧ decodedNumber (outcomesOf .reset ([[30, 210]] ++ List.replicate 10 [30])) = none ∧ 1 ≤ 1
    ∧ (marking .taken).mru.exceptions.length < 32 ∧ (marking .taken).fcu.held = []
    ∧ (∀ e ∈ (marking .taken).mru.exceptions, e.number ≠ (marking .taken).mru.counter)
    ∧ (marking .taken).sli.notices.length < 64
    ∧ (let s := marking (.snapshot ⟨⟨3, 0, 1004⟩, [.correct 1 4], 0⟩)
       s.calm = true ∧ s.slotOf 1004 = some 4 ∧ s.slot? 4 = some finished ∧ finished.suspect = false
       ∧ finished.cand.state = .finished ∧ s.mru.results.find 4 = none ∧ (s.paper? 3).isSome = true
       ∧ (s.keyOf 3 0).generation = 0 ∧ s.fcu.held = []) := by decide

/-- An exception entry for the FINISHED candidate. -/
def anException : SheetException := ⟨9, 1, 0, .noKey, some 1004, some 0, [], true⟩

theorem test_witness_RetryAndRescoreStepsEnd :
    hall.calm = true ∧ hall.mru.marker = none
    ∧ (let s : State := { hall with mru := { hall.mru with
         exceptions := [anException]
         marker := some ⟨.retry 9 (.snapshot ⟨⟨3, 0, 1004⟩, [.correct 1 4], 0⟩), .reset⟩ } }
       s.calm = true ∧ s.clean = true ∧ s.mru.exceptions.find? (fun y => y.number == 9) = some anException
       ∧ s.slotOf 1004 = some 4 ∧ s.slot? 4 = some finished ∧ s.mru.results.find 4 = none ∧ (s.paper? 3).isSome = true
       ∧ (s.keyOf 3 0).generation = 0 ∧ s.fcu.held = [] ∧ s.sli.notices.length < 64)
    ∧ (let s : State := { hall with mru := { hall.mru with
         results := [(5, { aResult with stale := true })]
         marker := some ⟨.rescore 5 { aResult with stale := true } (some [.correct 1 4]) 0, .reset⟩
         pass := some ⟨3, some 5, false, 0, 0⟩ } }
       s.calm = true ∧ s.clean = true ∧ s.mru.results = [(5, { aResult with stale := true })] ∧ aResult.suspect = false
       ∧ (s.paper? 3).isSome = true ∧ (s.keyOf 3 aResult.version).generation = 0 ∧ s.fcu.held = []) := by decide

theorem test_witness_ExceptionSheetRequests :
    hall.ready = true ∧ hall.exception? 9 = none ∧ 99999999 < 100000000 ∧ 4 ≤ 4 ∧ 3 < 4
    ∧ (let s : State := { hall with mru := { hall.mru with exceptions := [anException], keys := [(12, ⟨some [.correct 1 4], 1⟩)] } }
       s.ready = true ∧ s.exception? 9 = some anException ∧ s.retrying 9 = false ∧ s.clean = true
       ∧ s.finds 1003 3 waiting ∧ waiting.cand.state ≠ .finished ∧ waiting.cand.state ≠ .collected
       ∧ s.finds 1004 4 finished ∧ finished.cand.state = .finished
       ∧ (s.paper? finished.cand.paper).map (fun r => (r.form, r.versions)) = some (anException.form, 1)
       ∧ 1 ≤ 1 ∧ 0 < 1 ∧ (s.keyOf finished.cand.paper 0).key = some [.correct 1 4])
    ∧ (hall.keyOf finished.cand.paper 0).key = none ∧ 0 ≠ { anException with form := 1 }.form
    ∧ (let s : State := { hall with mru := { hall.mru with
         exceptions := [anException]
         marker := some ⟨.retry 9 .taken, .reset⟩ } }
       s.ready = true ∧ s.retrying 9 = true) := by unfold State.finds; decide

/-- A LOAD KEY record being taken, for a form of some questions. -/
def loadingKey (questions : Nat) : State :=
  { inBatch hall (.loadKey 3 0 questions 0) 19 [] false none with
    mru := { hall.mru with staging := some ⟨3, 0, questions, []⟩ } }

theorem test_witness_KeyEntryIsStaged :
    (loadingKey 2).calm = true ∧ (loadingKey 2).deaf = false ∧ 5 ≤ 19 ∧ (loadingKey 2).mru.staging = some ⟨3, 0, 2, []⟩
    ∧ 3 + 2 * 0 ≤ 19 ∧ 8 < 9 ∧ 3 + 2 * 8 ≤ 19 ∧ 2 < 3 ∧ 32 ≤ 32 ∧ 32 < 33 ∧ 1 ≤ 2 ∧ 2 ≤ 2
    ∧ List.length (Table.put ([] : Table KeyEntry) 2 (.correct 31 32)) ≠ 2
    ∧ (loadingKey 1).calm = true ∧ List.length (Table.put ([] : Table KeyEntry) 1 .void) = 1
    ∧ (loadingKey 1).mru.results = [] ∧ (loadingKey 1).mru.exceptions = [] := by decide

theorem test_witness_LevelsAndPercentagesStayInRange :
    30 < 210 ∧ 30 ≤ 30 ∧ 210 ≤ 210 ∧ ([0, 255] : List Nat) ≠ [] ∧ decideRow Settings.reset [0, 255] = .single 1
    ∧ (aPaper .closed).sections.head? = some 1 ∧ (aPaper .closed).sections.Pairwise (· < ·)
    ∧ (scoreOf (aPaper .closed) [.correct 1 4] (List.replicate 10 (.single 0))).percent = some 10000 := by decide

theorem test_witness_FullResetValues : hall.pending = [] := by decide

theorem test_witness_BrokenAndBadRecords :
    hall.calm = true ∧ hall.sli.receive = .idle ∧ hall.deaf = false
    ∧ ({ hall with sli := { hall.sli with receive := .inRecord 16 } }).calm = true
    ∧ (inBatch hall .loadCandidates 14 [.ok [u8 0]] false none).calm = true
    ∧ (let s : State := { hall with sli := { hall.sli with
         replies := List.replicate 8 ⟨19, .ok [], false⟩, sending := some (.reply ⟨19, .ok [], false⟩) } }
       s.calm = true ∧ s.deaf = true ∧ s.sli.receive = .idle)
    ∧ hall.ready = true ∧ (List.replicate 240 (0 : Byte)).length ≤ 240 ∧ byteSum [19, 1, 0, 0] ≠ 0
    ∧ byteSum [19, 2, 0, 0, 235] = 0 ∧ decodeBody 19 [0, 0] = none := by decide

theorem test_witness_RequestsWaitTheirTurn :
    requestKind .hold = some 54
    ∧ (let s : State := { hall with sli := { hall.sli with taken := some (.deferred 35 false) } }
       s.calm = true ∧ s.sli.receive = .idle ∧ s.sli.taken.isSome = true ∧ s.deaf = false ∧ s.sli.waiting = none)
    ∧ (let s : State := { hall with sli := { hall.sli with
         taken := some (.deferred 35 false), waiting := some (.request .release) } }
       s.calm = true ∧ s.deaf = false ∧ s.sli.waiting = some (.request .release))
    ∧ (let s : State := { hall with sli := { hall.sli with
         taken := some (.deferred 35 false)
         replies := List.replicate 8 ⟨19, .ok [], false⟩, sending := some (.reply ⟨19, .ok [], false⟩) } }
       s.calm = true ∧ s.deaf = true)
    ∧ hall.ready = true := by decide

theorem test_witness_BatchRecordsBeginAndEnd :
    hall.ready = true ∧ 1 ≤ 8 ∧ 8 ≤ 8 ∧ 8 < 9 ∧ 1 ≤ 12 ∧ 11 ≤ 234 ∧ 16 ≤ 16 ∧ 3 < 4 ∧ 15 < 16
    ∧ (hall.paper? 3).map (fun r => (r.versions, r.form)) = some (1, 0) ∧ 0 < 1 ∧ hall.mru.forms.find 0 = some 1
    ∧ hall.mru.forms.find 0 ≠ some 2
    ∧ (inBatch hall .loadCandidates 0 [.ok []] false none).calm = true
    ∧ (inBatch hall .loadCandidates 0 [.ok []] false none).deaf = false
    ∧ (inBatch hall .loadCandidates 0 [.ok []] true none).calm = true
    ∧ (inBatch hall .loadCandidates 0 [] false (some .badValue)).calm = true
    ∧ List.find? (fun a : Answer => a.result == .refused) [.ok [], .no .badValue] = some (.no .badValue)
    ∧ (∃ a ∈ [(⟨.clamped, .none, []⟩ : Answer)], a.result = .clamped) ∧ (Answer.ok []).result = .done := by decide

theorem test_witness_OutputAndLinkReset :
    hall.calm = true ∧ hall.sli.sending = none ∧ hall.sli.start = none ∧ hall.sli.taken = none ∧ hall.sli.lost = false
    ∧ (let r : Reply := ⟨19, .ok [], false⟩
       let n : Notice := ⟨.contactClear, 0, []⟩
       ({ hall with sli := { hall.sli with sending := some (.reply r), replies := [r], notices := [n] } } : State).calm = true
       ∧ ({ hall with sli := { hall.sli with sending := some (.reply r), replies := [r, r] } } : State).calm = true
       ∧ ({ hall with sli := { hall.sli with sending := some (.notice n true), notices := [n], lost := true } } : State).calm
          = true)
    ∧ ({ hall with sli := { hall.sli with start := some (.started 57600 0), sending := some (.start (.started 57600 0) true) } } : State).calm
        = true
    ∧ (inBatch hall .loadCandidates 14 [] false none).calm = true
    ∧ ({ hall with sli := { hall.sli with taken := some (.deferred 35 false) } }).calm = true := by decide

theorem test_witness_TableReadsFindWrongBits :
    (hall.seat? 0).map (·.suspect) = some false
    ∧ (let s : State := { hall with fcu := { hall.fcu with level := .record }, upsets := [⟨.seat 0, 1, false⟩] }
       s.ready = true ∧ s.fcu.level = .record ∧ s.fcu.capture = none ∧ s.mru.marker = none ∧ s.sli.notices.length < 64
       ∧ s.upsets = [⟨.seat 0, 1, false⟩])
    ∧ ({ hall with fcu := { hall.fcu with level := .record }, upsets := [⟨.seat 0, 1, true⟩] }).ready = true := by decide

theorem test_witness_FaultAndRepairRequests :
    hall.ready = true ∧ 3 ≤ 3 ∧ [Reporting.quiet, .standard, .record][2]? = some .record ∧ hall.fcu.capture = none
    ∧ ({ hall with fcu := { hall.fcu with capture := some ⟨.table, .seat, some 0, .corrected, 0⟩ } }).ready = true
    ∧ hall.clean = true ∧ 511 ≤ 511 ∧ hall.seat? 6 = none ∧ (hall.seat? 511).map (·.suspect) = some false
    ∧ (hall.seat? 5).map (fun r => (r.suspect, r.desk)) = some (true, none)
    ∧ (∀ e ∈ hall.rsu.slots, e.2.suspect = true ∨ e.2.cand.seat ≠ some 5)
    ∧ 2 ≤ 2 ∧ hall.slot? 574 = none ∧ hall.slot? 575 = some last ∧ last.suspect = false
    ∧ hall.slot? 6 = some damaged ∧ damaged.suspect = true ∧ hall.allocating 6 = false ∧ hall.occupies 6 = false
    ∧ 6 ∉ hall.sal.wait ∧ hall.mru.results.find 6 = none
    ∧ (let s : State := { hall with sal := { hall.sal with reqDoor0 := some 6 } }
       s.ready = true ∧ s.allocating 6 = true)
    ∧ (let s : State := { hall with sal := { hall.sal with wait := [6] } }
       s.ready = true ∧ s.allocating 6 = false ∧ 6 ∈ s.sal.wait)
    ∧ 6 < 576 ∧ 99999998 ≤ 99999999 ∧ (quietHall.paper? 15).isSome = true ∧ 100 ≤ 100 ∧ 3600 ≤ 3600 ∧ 8 ≤ 8
    ∧ [CandidateClass.standard, .arranged][1]? = some .arranged
    ∧ quietHall.ready = true ∧ quietHall.slot? 6 = some damaged
    ∧ (∀ e ∈ quietHall.rsu.slots, e.1 ≠ 6 → e.2.shadow.number ≠ some 99999998)
    ∧ (∀ e ∈ quietHall.ssu.papers, e.2.state ≠ .overtime) := by decide

theorem test_witness_RecordsDecodeToTheirRequests :
    (Instr.place 99999999 none 1).wellFormed = true ∧ (requestRecord (.place 99999999 none 1)).isSome = true := by decide

theorem test_witness_InvariantsHoldAtReset : (next? (exec (.fullReset true false) hall)).isSome = true := by decide

theorem test_witness_TablesKeepTheirForm :
    ({ hall with pending := [.openZone 7] }).tablesSorted = true
    ∧ (next? (step { hall with pending := [.openZone 7] })).isSome = true := by decide


/-! ### Witnesses: the clauses on refusals, waits and moves -/

/-- A slot's record that has failed. -/
def failedSlot (x : Slot) : Slot := { x with suspect := true }

/-- The hall with zone 0 under SIDE spacing and seat 4 FREE beside the VACATED seat 3 of paper 3. -/
def sideHall : State :=
  { hall.withSeat 4 (aSeat 5 none .free none none) with hmu :=
    { (hall.withSeat 4 (aSeat 5 none .free none none)).hmu with
      zones := [(0, ⟨.opened, .side, .admits, .none⟩), (1, ⟨.opened, .none, .admits, .reserve⟩), (7, ⟨.closed, .side, .reserve, .admits⟩)] } }

theorem test_witness_MapIsBuiltAndEmptied_more :
    (let s := serving idleMap 2 1 (.searching ⟨[0], true, false, 0, 1, false⟩)
     s.ready = true ∧ s.clean = true ∧ (∀ e ∈ s.hmu.seats, e.2.suspect = false ∧ e.2.state.inUse = false))
    ∧ (serving idleMap 2 1 (.found 0 0 0 ⟨[0], true, false, 0, 1, false⟩)).ready = true := by decide

theorem test_witness_DoorCardIsTaken_more :
    (0 + 0 + 3 + 238 + 15 : Byte) = 0 ∧ ((0 * 256 + 0) * 256 + 3) * 256 + 238 = 1006 ∧ hall.slotOf 1006 = some 6
    ∧ (hall.slot? 6).map (·.suspect) = some true
    ∧ (hall.slotOf 1003 = some 3 ∧ hall.slot? 3 = some waiting ∧ waiting.suspect = false ∧ waiting.cand.state ≠ .expected)
    ∧ (hall.slotOf 1011 = some 11 ∧ hall.slot? 11 = some atADoor ∧ atADoor.cand.source.isSome = true)
    ∧ (let s : State := { hall with ssu := { hall.ssu with held := true } }
       s.calm = true ∧ s.clean = true ∧ s.slot? 2 = some expected ∧ s.ssu.held = true)
    ∧ [aPaper .defined, aPaper .overtime, aPaper .closed, { aPaper .writing with elapsed := 1800 },
        { aPaper .writing with elapsed := 1799 }, aPaper .reading].all (fun r =>
          (hallWith r).calm && (hallWith r).clean && (hallWith r).paper? 1 == some r
            && (hallWith r).slot? 2 == some expected && !(hallWith r).ssu.held) = true
    ∧ 60 * (aPaper .writing).late ≤ 1800 ∧ 1799 < 60 * (aPaper .writing).late := by decide

theorem test_witness_RosterEntryIsTaken_more :
    (hall.paper? 4).map (·.state) = some .overtime ∧ (hall.paper? 15).map (·.state) = some .closed
    ∧ (hall.slot? 6).map (·.suspect) = some true
    ∧ (hall.slot? 3 = some waiting ∧ waiting.suspect = false ∧ waiting.cand.state ≠ .expected)
    ∧ (hall.slot? 11 = some atADoor ∧ atADoor.suspect = false ∧ atADoor.cand.source.isSome = true)
    ∧ (∃ e ∈ hall.rsu.slots, e.1 ≠ 575 ∧ e.2.shadow.number = some 1002)
    ∧ [{ aPaper .writing with late := 0 }, { aPaper .writing with elapsed := 1800 }, { aPaper .writing with elapsed := 1799 }].all
        (fun r =>
          let s := inBatch (hallWith r) .loadCandidates 14 [] false none
          s.calm && s.clean && !s.deaf && s.paper? 1 == some r && s.slot? 2 == some expected) = true := by decide

theorem test_witness_SearchConsidersOneSeat_more :
    sideHall.calm = true ∧ sideHall.clean = true
    ∧ (serving sideHall 2 1 .noSeat).calm = true
    ∧ sideHall.zone? 6 = none ∧ (sideHall.zone? 7).map (·.state) = some .closed
    ∧ (sideHall.zone? 1).map (fun r => (r.state, r.code .standard, r.code .arranged)) = some (.opened, .admits, .reserve)
    ∧ sideHall.seatCount 1 = 0
    ∧ (sideHall.zone? 0).map (fun r => (r.state, r.code .standard)) = some (.opened, .admits)
    ∧ sideHall.cursorOf 1 0 = 0 ∧ sideHall.cursorOf 1 0 < sideHall.seatCount 0
    ∧ (let s : State := { sideHall with sal := { sideHall.sal with cursors := [(8, 9)] } }
       s.calm = true ∧ s.clean = true ∧ ¬ (s.cursorOf 1 0 < s.seatCount 0))
    ∧ (∃ n r, (sideHall.fillOrder 0)[0]? = some n ∧ sideHall.seat? n = some r) ∧ 0 < 1 ∧ 1 < sideHall.seatCount 0
    ∧ (sideHall.seat? 0).map (fun r => (r.state, r.suspect)) = some (.free, false)
    ∧ sideHall.spacingHolds 1 0 = false ∧ sideHall.spacingHolds 2 0 = true := by
  refine ⟨by decide, by decide, by decide, by decide, by decide, by decide, by decide, by decide, by decide, by decide,
    by decide, ⟨0, aSeat 1 (some 1) .free none none, by decide, by decide⟩, by decide, by decide, by decide, by decide, by decide⟩

/-- PLACE waiting at the arbiter, next in its turn. -/
def placing (s : State) (number : Nat) (seat : Option Nat) (f : Nat) : State :=
  { s with
    sal := { s.sal with reqStation := some (.place number seat f), last := .door1, reqDoor0 := some 2 }
    sli := { s.sli with taken := some (.deferred 35 false) } }

theorem test_witness_PlaceAtTheArbiter :
    (placing sideHall 1003 (some 511) 1).calm = true ∧ (placing sideHall 1003 (some 511) 1).clean = true
    ∧ (placing sideHall 1003 (some 511) 1).sal.serving = none ∧ sideHall.slotOf 1 = none
    ∧ (sideHall.slotOf 1006 = some 6 ∧ (sideHall.slot? 6).map (·.suspect) = some true)
    ∧ (sideHall.slotOf 1011 = some 11 ∧ sideHall.slot? 11 = some atADoor)
    ∧ (sideHall.slotOf 1004 = some 4 ∧ sideHall.slot? 4 = some finished ∧ finished.cand.source = none)
    ∧ (sideHall.slotOf 1005 = some 5 ∧ sideHall.slot? 5 = some collected ∧ sideHall.slotOf 1007 = some 7
        ∧ sideHall.slot? 7 = some absent)
    ∧ ((sideHall.withSlot 7 (aCand 1007 1 .withdrawn none) .zero).slot? 7).map (·.cand.state) = some .withdrawn := by
  decide

/-- PLACE of the WAITING candidate of slot 3. -/
theorem test_witness_PlaceOfAWaitingCandidate :
    sideHall.slotOf 1003 = some 3 ∧ sideHall.slot? 3 = some waiting ∧ (sideHall.paper? 1).isSome = true
    ∧ sideHall.seat? 510 = none ∧ (sideHall.seat? 5).map (·.suspect) = some true
    ∧ (sideHall.seat? 3).map (fun r => (r.suspect, r.state)) = some (false, .vacated)
    ∧ (sideHall.seat? 0).map (fun r => (r.suspect, r.state)) = some (false, .free) ∧ sideHall.spacingHolds 1 0 = false
    ∧ (sideHall.seat? 511).map (fun r => (r.suspect, r.state)) = some (false, .free) ∧ sideHall.spacingHolds 1 511 = true := by decide

/-- PLACE of the candidate ADMITTED at seat 1 and of the one SEATED at seat 2. -/
theorem test_witness_PlaceMovesACandidate :
    sideHall.slotOf 0 = some 0 ∧ sideHall.slot? 0 = some notSeatedYet ∧ notSeatedYet.cand.seat = some 1
    ∧ (sideHall.seat? 1).map (fun r => (r.suspect, r.state, r.occupant)) = some (false, .held, some 0)
    ∧ sideHall.slotOf 99999999 = some 1 ∧ sideHall.slot? 1 = some writing ∧ writing.cand.seat = some 2
    ∧ (sideHall.seat? 2).map (fun r => (r.suspect, r.state, r.occupant)) = some (false, .occupied, some 1)
    ∧ ((sideHall.withSeat 1 { aSeat 2 (some 2) .held (some 0) (some 1) with suspect := true }).seat? 1).map (·.suspect) = some true
    ∧ ((sideHall.withSeat 1 (aSeat 2 (some 2) .free none none)).seat? 1).map (·.occupant) = some none
    ∧ (sideHall.seat? 4).map (fun r => (r.suspect, r.state)) = some (false, .free)
    ∧ (sideHall.withSeat 2 (aSeat 3 (some 3) .vacated none (some 3))).spacingHolds 3 4 = false
    ∧ (sideHall.withSeat 2 (aSeat 3 (some 3) .vacated none (some 3))).spacingHolds 3 511 = true := by decide

/-- The walk's request, or a door's, with a pre-placed or a suspect candidate first. -/
theorem test_witness_ArbiterServesRoundRobin_more :
    (let s : State := { requesting (some 6) none none false .retry with rsu := { hall.rsu with door0 := ⟨some 1006, none⟩ } }
     s.calm = true ∧ s.clean = true ∧ s.sal.reqDoor0 = some 6 ∧ s.slot? 6 = some damaged ∧ damaged.suspect = true
     ∧ s.rsu.door0.card = some 1006)
    ∧ (let s : State := { requesting none none (some (.allocation 6)) false .retry with
         sli := { hall.sli with taken := some (.deferred 34 false) } }
       s.calm = true ∧ s.sal.reqDoor0 = none ∧ s.sal.reqDoor1 = none ∧ s.sal.reqStation = some (.allocation 6)
       ∧ s.sli.taken = some (.deferred 34 false))
    ∧ (let s0 := requesting none none none true .retry
       let s : State := { s0 with sal := { s0.sal with retry := .walking, wait := [8, 3], span := [3] } }
       s.calm = true ∧ s.clean = true ∧ s.ssu.held = false ∧ s.sal.wait.filter s.sal.span.contains = 3 :: []
       ∧ s.slot? 3 = some waiting ∧ waiting.suspect = false ∧ waiting.cand.preplaced = none ∧ (s.paper? 1).isSome = true)
    ∧ (let s0 := requesting none none none true .retry
       let s : State := { s0 with
         sal := { s0.sal with retry := .walking, wait := [3, 8], span := [3, 8] }
         rsu := { s0.rsu with slots := s0.rsu.slots.put 3 (failedSlot waiting) } }
       s.calm = true ∧ s.sal.wait.filter s.sal.span.contains = 3 :: [8] ∧ s.slot? 3 = some (failedSlot waiting)
       ∧ ∃ m ∈ s.sal.wait, m ≠ 3 ∧ m ∈ s.sal.span) := by decide

/-- A door's request for a candidate pre-placed at a seat, against each test in turn. -/
theorem test_witness_PreplacedSeatIsTested :
    [510, 5, 3, 0, 511].all (fun n =>
      let x : Slot := { expected with cand := { expected.cand with preplaced := some n } }
      let s : State := { sideHall.withSlot 2 x.cand x.clock with
        sal := { sideHall.sal with reqDoor0 := some 2, last := .retry } }
      s.calm && s.clean && s.slot? 2 == some x && (s.paper? 1).isSome && s.sal.serving == none) = true
    ∧ sideHall.seat? 510 = none ∧ (sideHall.seat? 5).map (·.suspect) = some true
    ∧ (sideHall.seat? 3).map (fun r => (r.suspect, r.state)) = some (false, .vacated)
    ∧ (sideHall.seat? 0).map (fun r => (r.suspect, r.state, r.zone)) = some (false, .free, 0)
    ∧ sideHall.zone? 0 = some ⟨.opened, .side, .admits, .none⟩ ∧ sideHall.spacingHolds 1 0 = false
    ∧ (sideHall.seat? 511).map (·.zone) = some 0 ∧ sideHall.spacingHolds 1 511 = true
    ∧ (let x : Slot := { expected with cand := { expected.cand with preplaced := some 511, cls := .arranged } }
       let s := sideHall.withSlot 2 x.cand x.clock
       s.slot? 2 = some x ∧ Zone.code ⟨.opened, .side, .admits, .none⟩ x.cand.cls = .none)
    ∧ (let s := sideHall.withSeat 511 { aSeat 7 none .free none none with zone := 7 }
       (s.seat? 511).map (·.zone) = some 7 ∧ (s.zone? 7).map (·.state) = some .closed) := by decide

/-- A state in which an allocation of each requester can end, on a paper in a given record, with a candidate
state and stage. -/
def ending (rq : Requester) (r : Paper) (st : CandidateState) (g : Stage) : State :=
  let h := (hallWith r).withSlot 2 (aCand 1002 1 st none) .zero
  { h with
    rsu := { h.rsu with
      door0 := if rq = .door0 then ⟨some 1002, none⟩ else h.rsu.door0
      door1 := if rq = .door1 then ⟨some 1002, none⟩ else h.rsu.door1 }
    sli := { h.sli with taken := if rq = .station then some (.deferred 34 false) else none }
    sal := { h.sal with
      serving := some ⟨rq, 2, 1, .standard, [0], g⟩
      wait := if rq = .retry then [2, 3] else [3], span := if rq = .retry then [2, 3] else [] } }

theorem test_witness_DoorAllocationOutcome_more :
    [aPaper .admitting, aPaper .reading, aPaper .writing, { aPaper .writing with elapsed := 3600 }, aPaper .overtime,
      aPaper .closed].all (fun r =>
        [Requester.door0, .door1, .station].all fun rq =>
          [Stage.found 0 0 0 ⟨[0], true, false, 0, 1, false⟩, .preplaced 0, .noSeat].all fun g =>
            let s := ending rq r .expected g
            s.calm && s.clean && s.paper? 1 == some r && s.spacingHolds 1 0 && s.sli.notices.length + 1 < 64
              && (s.slot? 2).map (fun x => (x.suspect, x.cand.state, x.cand.paper)) == some (false, .expected, 1)
              && (s.seat? 0).map (fun x => (x.suspect, x.state)) == some (false, .free)
              && (s.sal.serving.map (·.stage)) == some g) = true := by decide

theorem test_witness_DoorAllocationOutcome_retry :
    [Stage.found 0 0 0 ⟨[0], true, false, 0, 1, false⟩, .preplaced 0, .noSeat].all (fun g =>
      let s := ending .retry (aPaper .admitting) .waiting g
      s.calm && s.clean && s.sal.wait.contains 2 && s.sli.notices.length < 64
        && (s.slot? 2).map (fun x => (x.suspect, x.cand.state, x.cand.paper)) == some (false, .waiting, 1)) = true := by
  decide

/-- Refused holds, a full list after admission has closed, a candidate that turns suspect. -/
theorem test_witness_DoorAllocationOutcome_refused :
    (let s := ending .door0 (aPaper .admitting) .expected (.found 5 0 5 ⟨[0], true, false, 0, 6, false⟩)
     s.calm = true ∧ (s.seat? 5).map (·.suspect) = some true)
    ∧ (let s := ending .station (aPaper .admitting) .expected (.preplaced 3)
       s.calm = true ∧ (s.seat? 3).map (·.state) = some .vacated)
    ∧ (let s0 := ending .door1 { aPaper .writing with admClosed := true } .expected .noSeat
       let s : State := { s0 with sal := { s0.sal with wait := List.range 32 } }
       s.calm = true ∧ 32 ≤ s.sal.wait.length ∧ (s.paper? 1).map (·.admClosed) = some true)
    ∧ (let s0 := ending .door1 (aPaper .admitting) .expected (.preplaced 0)
       let x := failedSlot expected
       let s : State := { s0 with rsu := { s0.rsu with slots := s0.rsu.slots.put 2 x } }
       s.calm = true ∧ s.clean = true ∧ s.slot? 2 = some x ∧ x.suspect = true ∧ s.rsu.door1.card = some 1002) := by
  decide

theorem test_witness_RetryTriggerActs_more :
    (let l : Sal := { hall.sal with retry := .walking, wait := [3, 8], span := [8] }
     3 ∈ l.wait ∧ 5 ∉ l.wait ∧ l.retry = .walking ∧ (∃ m ∈ l.wait, m ≠ 3 ∧ m ∈ l.span))
    ∧ (let l : Sal := { hall.sal with retry := .walking, wait := [3, 8], span := [3], again := true }
       3 ∈ l.wait ∧ l.retry = .walking ∧ l.serving = none ∧ (∀ m ∈ l.wait, m ≠ 3 → m ∉ l.span) ∧ l.again = true
       ∧ ∃ m ∈ l.wait, m ≠ 3)
    ∧ (let l : Sal := { hall.sal with retry := .walking, wait := [3], span := [3], again := true }
       3 ∈ l.wait ∧ (∀ m ∈ l.wait, m ≠ 3 → m ∉ l.span) ∧ ∀ m ∈ l.wait, m = 3) := by decide

/-! ### Witnesses: the starts of writing, finishes and offers -/

theorem test_witness_ZoneOrderAndWarningRequests_more :
    4 < [1, 2, 3, 4, 5].length ∧ [61, 1].length ≤ 4 ∧ ¬ (∀ t ∈ [61, 1], 1 ≤ t ∧ t ≤ 60) ∧ ¬ ([5, 5] : List Nat).Nodup
    ∧ (hall.paper? 0).map (·.state) = some .defined ∧ (hall.paper? 2).map (·.state) = some .reading
    ∧ (hall.paper? 4).map (·.state) = some .overtime ∧ (hall.paper? 15).map (·.state) = some .closed := by decide

/-- The candidate of paper 3 in slot 8 alone, waiting with a READING clock, and paper 3 in a record. -/
def startsWriting (r : Paper) (d : List Due) : State :=
  { alone (aSlot (aCand 1008 3 .waiting none) (aClock .reading)) d with
    ssu := { base.ssu with papers := [(3, r)] } }

theorem test_witness_WritingStarts :
    (let r := { aPaper .admitting with reading := 0, late := 0 }
     let s := startsWriting r []
     s.ready = true ∧ s.clean = true ∧ s.tablesSorted = true ∧ s.paper? 3 = some r ∧ s.ssu.held = false
     ∧ s.sli.notices.length + 1 < 64)
    ∧ (let r := aPaper .reading
       let s := startsWriting r [.readingEnd 3]
       s.due = .readingEnd 3 :: [] ∧ s.clean = true ∧ s.tablesSorted = true ∧ s.paper? 3 = some r ∧ r.readingLeft = 0)
    ∧ (let r := { aPaper .admitting with reading := 0 }
       let s := startsWriting r [.scheduledStart 3]
       s.due = .scheduledStart 3 :: [] ∧ s.clean = true ∧ s.paper? 3 = some r ∧ s.ssu.held = false) := by decide

/-- Every readable slot of that state that its shadow gives to paper 3 is a candidate of paper 3. -/
theorem test_witness_WritingStarts_shadow (r : Paper) (d : List Due) :
    ∀ k x, (startsWriting r d).slot? k = some x → x.suspect = false → x.shadow.paper = some 3 → x.cand.paper = 3 := by
  intro k x h
  simp only [startsWriting, alone, State.slot?, Table.find] at h
  split at h
  · cases h; decide
  · cases h

theorem test_witness_FinishesOfSuspectSlots :
    hall.slotOf 1006 = some 6 ∧ hall.slot? 6 = some damaged ∧ damaged.suspect = true ∧ 1006 ≤ 99999999 := by decide

/-- Collector 7 waits in zone 0 ahead of collector 2; their rings are empty. -/
def waitersHall : State := collecting { aCollector .waiting with zone := some 0 } ⟨[], [], [7, 2]⟩

theorem test_witness_FinishingACandidate_offered :
    waitersHall.slot? 1 = some writing ∧ writing.cand.seat = some 2 ∧ (waitersHall.seat? 2).map (·.zone) = some 0
    ∧ waitersHall.ringsOf 0 = ⟨[], [], 7 :: [2]⟩ ∧ 1 ≤ (waitersHall.collectorOf 7).size
    ∧ (waitersHall.paper? 3).map (·.state) = some .writing ∧ waitersHall.sli.notices.length + 1 < 64 := by decide

/-! ### Witnesses: desks and collectors -/

/-- The hall with an exchange open at desk 3, of the OCCUPIED seat 2, or at desk 2, of the HELD seat 1. -/
def pressing (a : Nat) (d : Desk) (retried : Bool) : State := (exchanging ⟨a, retried, false⟩).withDesk a d

theorem test_witness_DeskReplyIsTaken_more :
    (pressing 2 (aDesk .quiet) false).calm = true ∧ (0 : Byte).getLsbD 0 = (aDesk .quiet).expected
    ∧ (aDesk .quiet).resample = false ∧ (aDesk .quiet).longPress = none
    ∧ (pressing 2 { aDesk .quiet with cause := some .returned, resample := true } false).desk? 2
        = some { aDesk .quiet with cause := some .returned, resample := true }
    ∧ (1 : Byte).getLsbD 0 ≠ (aDesk .online).expected
    ∧ (pressing 2 (aDesk .offline) true).fcu.level ≠ .record
    ∧ (let s0 := pressing 2 (aDesk .online) false
       let s : State := { s0 with fcu := { s0.fcu with level := .record } }
       s.calm = true ∧ s.desk? 2 = some (aDesk .online) ∧ s.fcu.capture = none ∧ s.mru.marker = none)
    ∧ (0 + 3 + 32 + 0 + 221 : Byte) = 0 ∧ (0 : Byte).toNat * 256 + (3 : Byte).toNat = 3
    ∧ (pressing 3 (aDesk .online) false).calm = true ∧ (pressing 3 (aDesk .online) false).clean = true
    ∧ (pressing 3 (aDesk .online) false).dbc.inverted = .none ∧ hall.seatOfDesk 3 = some 2 ∧ hall.seatOfDesk 1 = some 0
    ∧ (hall.seat? 2).map (fun r => (r.suspect, r.state, r.occupant)) = some (false, .occupied, some 1)
    ∧ (hall.seat? 0).map (fun r => (r.suspect, r.state, r.occupant)) = some (false, .free, none)
    ∧ hall.slot? 1 = some writing ∧ writing.suspect = false ∧ writing.clock.state = .running := by decide

/-- The finish window, the long press and the blackout, at their bounds. -/
theorem test_witness_DeskReplyIsTaken_presses :
    (let d := { aDesk .online with window := some 10 }
     (pressing 3 d false).desk? 3 = some d)
    ∧ [.stopped, .expired, .none, .reading, .held, .running, .paused].all (fun st =>
        ((hall.withSlot 1 writing.cand (aClock st)).slot? 1).map (·.clock.state) == some st) = true
    ∧ (let r := { aPaper .writing with blackFirst := 1, elapsed := 59 }
       (hall.withPaperRecord 3 r).paper? 3 = some r ∧ r.elapsed < 60 * r.blackFirst)
    ∧ (let r := { aPaper .writing with blackLast := 60 }
       (hall.withPaperRecord 3 r).paper? 3 = some r ∧ writing.clock.remaining ≤ 60 * r.blackLast)
    ∧ (let r := { aPaper .writing with blackFirst := 1, blackLast := 59, elapsed := 60 }
       60 * r.blackFirst ≤ r.elapsed ∧ 60 * r.blackLast < writing.clock.remaining)
    ∧ [0, 2, 3, 4].all (fun c =>
        let d := { aDesk .online with longPress := some c, levels := ⟨false, false, true, false⟩ }
        (pressing 3 d false).desk? 3 == some d && d.levels.call) = true := by decide

theorem test_witness_CallOffers :
    (∃ c ∈ hall.dbc.calls, c.seat = 2) ∧ (∀ c ∈ hall.dbc.calls, c.seat ≠ 1) ∧ hall.dbc.calls.length < 64
    ∧ (let l : List Call := (List.range 64).map fun i => ⟨100 + i, .call, 0⟩
       (∀ c ∈ l, c.seat ≠ 1) ∧ 64 ≤ l.length ∧ hall.desk? 2 = some (aDesk .online)) := by decide

/-- Collector 7 in a round over zone 0 that two collectors wait for. -/
def leavingRound (w : List Nat) : State :=
  collecting { aCollector .round with zone := some 0, round := [anEntry 2 1, anEntry 3 8], timer := some 0 } ⟨[], [], w⟩

theorem test_witness_CollectorRequests_off :
    (let s := collecting { aCollector .waiting with zone := some 0 } ⟨[], [], [2, 7]⟩
     s.ready = true ∧ (s.collectorOf 7).state = .waiting ∧ (s.collectorOf 7).zone = some 0 ∧ (s.collectorOf 7).round = [])
    ∧ (leavingRound []).ready = true ∧ ((leavingRound []).collectorOf 7).state = .round
    ∧ ((leavingRound []).collectorOf 7).zone = some 0 ∧ ((leavingRound []).ringsOf 0).waiters = []
    ∧ (leavingRound [2, 3]).ready = true ∧ (leavingRound [2, 3]).ringsOf 0 = ⟨[], [], 2 :: [3]⟩
    ∧ ((leavingRound [2, 3]).collectorOf 7).round ≠ [] ∧ 1 ≤ ((leavingRound [2, 3]).collectorOf 2).size
    ∧ ((leavingRound [2, 3]).collectorOf 7).round.length ≤ ((leavingRound [2, 3]).collectorOf 2).size
    ∧ (leavingRound [2, 3]).sli.notices.length < 64 := by decide

theorem test_witness_OffersToWaiters :
    (let s := leavingRound [2, 3]
     (s.collectorOf 7).round.find? (fun e => e.seat == 2) = some (anEntry 2 1) ∧ 2 ≠ 7 ∧ s.sli.notices.length < 64)
    ∧ (let s : State := { leavingRound [2, 3] with due := [.roundTimeout 7] }
       s.due = .roundTimeout 7 :: [] ∧ (s.collectorOf 7).timer = some 0 ∧ (s.collectorOf 7).round ≠ []
       ∧ s.ringsOf 0 = ⟨[], [], 2 :: [3]⟩ ∧ s.sli.notices.length + 1 < 64) := by decide

theorem test_witness_ConfirmationCollectsAScript_suspect :
    (let s0 := inBatch inARound (.confirm 7) 4 [] false none
     let s := s0.withSeat 2 { aSeat 3 (some 3) .occupied (some 1) (some 3) with suspect := true }
     s.calm = true ∧ s.deaf = false ∧ (s.seat? 2).map (·.suspect) = some true ∧ (s.slot? 1).isSome = true
     ∧ (s.collectorOf 7).round.find? (fun e => e.seat == 2) = some (anEntry 2 1))
    ∧ (let s0 := inBatch inARound (.confirm 7) 4 [] false none
       let s := s0.withSeat 2 (aSeat 3 (some 3) .vacated none (some 3))
       (s.seat? 2).map (fun r => (r.suspect, r.state)) = some (false, .vacated)) := by decide

theorem test_witness_FormAndMarkingRequests_upset :
    (let s : State := { hall with mru := { hall.mru with results := [(5, aResult)] }, upsets := [⟨.result 5, 3, true⟩] }
     s.ready = true ∧ s.mru.results = [(5, aResult)] ∧ aResult.suspect = false ∧ s.formInUse 3 = false) := by decide

theorem test_witness_ScanLinkFrames_broken :
    (let s : State := { withBuffer ⟨.filling, some 0, some 1, sheetRows, false⟩ with mru :=
       { (withBuffer ⟨.filling, some 0, some 1, sheetRows, false⟩).mru with discarding := true } }
     s.calm = true ∧ s.mru.discarding = true ∧ s.filling = some 0)
    ∧ (withBuffer ⟨.filling, some 0, some 1, sheetRows, false⟩).mru.discarding = false
    ∧ [ScanKind.frameOpen, .row, .frameClose][1]? = some .row ∧ [ScanKind.frameOpen, .row, .frameClose][0]? = some .frameOpen := by
  decide

/-- The raw values of a digit row with one digit marked. -/
def digitRow (d : Nat) : List Byte := (List.range 10).map fun i => if i == d then 210 else 30

/-- Eleven rows of a sheet of the FINISHED candidate 1004, version 0. -/
def sheetOf1004 : List (List Byte) :=
  [[30, 210]] ++ [0, 0, 0, 0, 1, 0, 0, 4].map digitRow ++ [[210, 30, 30, 30], [210, 30, 30, 30, 30]]

/-- That sheet being marked, taken, with its version's key or none. -/
def marking1004 (keys : Table KeySlot) : State :=
  { hall with mru := { hall.mru with
    marker := some ⟨.sheet 0 .taken, .reset⟩, buffer0 := ⟨.marking, some 0, some 1, sheetOf1004, false⟩, keys := keys } }

theorem test_witness_MarkerTakesAndEndsASheet_reach :
    decodedNumber (outcomesOf .reset sheetOf1004) = some 1004
    ∧ decodedVersion (aPaper .writing) (outcomesOf .reset sheetOf1004) = some 0
    ∧ (let s := marking1004 []
       s.calm = true ∧ s.clean = true ∧ s.slotOf 1004 = some 4 ∧ s.slot? 4 = some finished ∧ finished.suspect = false
       ∧ finished.cand.state = .finished ∧ s.mru.results.find 4 = none ∧ finished.cand.paper = 3
       ∧ s.paper? 3 = some (aPaper .writing) ∧ (aPaper .writing).form = 0 ∧ (s.keyOf 3 0).key = none)
    ∧ ((marking1004 [(12, ⟨some [.correct 1 4], 1⟩)]).keyOf 3 0).key = some [.correct 1 4] := by decide

theorem test_witness_ExceptionSheetRequests_more :
    (let s : State := { hall with mru := { hall.mru with exceptions := [anException] } }
     s.ready = true ∧ s.clean = true ∧ s.exception? 9 = some anException ∧ s.slotOf 1 = none
     ∧ s.slotOf 1006 = some 6 ∧ s.slot? 6 = some damaged ∧ damaged.suspect = true)
    ∧ (let e := { anException with form := 1 }
       let s : State := { hall with mru := { hall.mru with exceptions := [e] } }
       s.exception? 9 = some e ∧ (s.paper? finished.cand.paper).map (·.form) = some 0 ∧ 0 ≠ e.form)
    ∧ (let s : State := { hall with mru := { hall.mru with
         exceptions := [anException], keys := [(12, ⟨some [.correct 1 4], 1⟩)], marker := some ⟨.retry 9 .taken, .reset⟩ } }
       s.ready = true ∧ s.retrying 9 = true ∧ s.finds 1004 4 finished ∧ (s.keyOf finished.cand.paper 0).key.isSome = true) := by
  unfold State.finds; decide

/-! ### Witnesses: the link's records and faults -/

theorem test_witness_BrokenAndBadRecords_leads :
    (let s : State := { inBatch hall .loadCandidates 14 [.ok [u8 0]] false none with sli :=
       { (inBatch hall .loadCandidates 14 [.ok [u8 0]] false none).sli with
         replies := List.replicate 8 ⟨19, .ok [], false⟩, sending := some (.reply ⟨19, .ok [], false⟩) } }
     s.calm = true ∧ s.deaf = true)
    ∧ (inBatch hall .loadCandidates 14 [.ok [u8 0]] false none).deaf = false
    ∧ (let s : State := { inBatch hall .loadCandidates 14 [] false none with sli :=
         { (inBatch hall .loadCandidates 14 [] false none).sli with taken := some (.deferred 34 false) } }
       s.calm = true ∧ ∀ t, s.sli.taken ≠ some (.batch t)) := by
  refine ⟨by decide, by decide, by decide, ?_⟩
  intro t h
  exact Taken.noConfusion (Option.some.inj h)

theorem test_witness_RequestsWaitTheirTurn_idle :
    hall.sli.waiting = none ∧ hall.sli.receive = .idle ∧ requestKind .readFault = some 129
    ∧ (Instr.startPaper 15).wellFormed = true ∧ requestKind (.startPaper 15) = some 52 ∧ hall.fcu.capture = none := by decide

theorem test_witness_BatchRecordsBeginAndEnd_kinds :
    (inBatch hall (.confirm 7) 0 [.no .notInRound] false none).calm = true
    ∧ (inBatch hall (.confirm 7) 0 [.no .notInRound] false none).deaf = false
    ∧ (inBatch hall (.confirm 9) 0 [] false (some .badValue)).calm = true
    ∧ (inBatch hall (.loadKey 3 0 1 0) 0 [.ok []] false none).calm = true
    ∧ (inBatch hall (.loadKey 3 0 1 0) 0 [.ok []] true none).calm = true
    ∧ (inBatch hall (.loadKey 16 0 1 0) 0 [] false (some .badValue)).calm = true
    ∧ List.find? (fun a : Answer => a.result == .refused) [.ok [], .no .notInRound] = some (.no .notInRound) := by decide

theorem test_witness_OutputAndLinkReset_starts :
    (let s : State := { hall with sli := { hall.sli with start := some (.linkRestarted none 0 5), lost := true } }
     s.sli.start = some (.linkRestarted none 0 5) ∧ s.sli.sending = none)
    ∧ (let s : State := { hall with sli := { hall.sli with
         start := some (.linkRestarted none 0 5), sending := some (.start (.linkRestarted none 0 5) true) } }
       s.calm = true)
    ∧ (let r : Reply := ⟨132, .ok [], true⟩
       let s : State := { hall with sli := { hall.sli with replies := [r], sending := some (.reply r) } }
       s.calm = true ∧ s.sli.sending = some (.reply ⟨132, .ok [], true⟩))
    ∧ (∀ r t, hall.sli.start ≠ some (.started r t)) := by
  refine ⟨by decide, by decide, by decide, fun r t h => ?_⟩
  rw [show hall.sli.start = none by decide] at h
  cases h

/-- The hall at a reporting level with upsets. -/
def reporting (l : Reporting) (u : List Upset) : State := { hall with fcu := { hall.fcu with level := l }, upsets := u }

theorem test_witness_TableReadsFindWrongBits_words :
    [[⟨.seat 0, 1, false⟩, ⟨.seat 0, 2, false⟩], [⟨.seat 0, 1, false⟩, ⟨.seat 0, 1, false⟩]].all (fun u =>
      let s := reporting .record u
      s.ready && s.fcu.level == .record && s.fcu.capture == none && s.mru.marker == none && s.sli.notices.length < 63
        && s.upsets == u) = true
    ∧ (1 : Nat) ≠ 2 ∧ (reporting .quiet []).fcu.level = .quiet ∧ (reporting .quiet []).fcu.capture = none
    ∧ (reporting .standard []).fcu.level = .standard
    ∧ (let f : FaultReport := ⟨.table, .seat, some 0, .corrected, 0⟩
       let s : State := { reporting .record [] with
         fcu := { (reporting .record []).fcu with capture := some f, held := List.replicate 8 f }
         mru := { hall.mru with marker := some ⟨.retry 9 .taken, .reset⟩ } }
       s.fcu.capture ≠ none ∧ s.mru.marker ≠ none ∧ 8 ≤ s.fcu.held.length
       ∧ { s.fcu with held := List.replicate 7 f }.held.length < 8) := by decide

theorem test_witness_FaultAndRepairRequests_marks :
    2 ≤ (⟨0, none, 0, none, none, 2, 0⟩ : SeatFields).used ∧ 2 ≤ (⟨0, none, 0, none, none, 0, 255⟩ : SeatFields).override
    ∧ 2 ≤ { candidateFields 1 0 with discrepancy := 2 }.discrepancy ∧ hall.ready = true := by decide

theorem test_witness_RecordsDecodeToTheirRequests_scan :
    (Instr.row 0 [30, 210]).wellFormed = true ∧ scanRecordBytes (.row 0 [30, 210]) = some [2, 0, 2, 30, 210]
    ∧ (∀ b ∈ ([0, 4, 255] : List Byte), scanKindByte b = false) ∧ scanKindByte 1 = true ∧ scanKindByte 3 = true
    ∧ decodeScan ((([0, 4, 255] : List Byte) ++ [2, 0, 2, 30, 210]).map scanCharacter) = some (.row 0 [30, 210])
    ∧ (3, !(scanCharacter 3).2) ∈ ([(3, !(scanCharacter 3).2)] : List Character)
    ∧ parityHolds (3, !(scanCharacter 3).2) = false := by decide

/-! ### Witnesses: the laws -/

/-- A hall that keeps every law, with a candidate SEATED at seat 1, one FINISHED at seat 2 whose script is to be
collected and who has a result, one WAITING, a collector WAITING, a call, an exception and a wait list. -/
def lawfulHall : State :=
  { hall with
    hmu :=
      { zones := [(0, ⟨.opened, .side, .admits, .none⟩), (7, ⟨.closed, .side, .reserve, .admits⟩)]
        rows := [⟨0, 1, 4, 0⟩]
        seats := [(0, aSeat 1 (some 1) .free none none), (1, aSeat 2 (some 2) .occupied (some 1) (some 3)),
          (2, { aSeat 3 (some 3) .occupied (some 4) (some 3) with override := true }),
          (3, aSeat 4 none .vacated none (some 3))] }
    rsu := { hall.rsu with slots := [(1, aSlot (aCand 99999999 3 .seated (some 1)) (aClock .running)), (3, waiting),
      (4, aSlot (aCand 1004 3 .finished (some 2)) (aClock .stopped))] }
    sal := { hall.sal with wait := [3] }
    clu := { rings := [(0, ⟨[], [anEntry 2 4], []⟩), (7, ⟨[], [], [2]⟩)]
             collectors := [(2, { aCollector .waiting with zones := [7], zone := some 7 })] }
    dbc := { hall.dbc with
      desks := [(1, aDesk .online), (2, { aDesk .online with longPress := some 2 }), (3, aDesk .online)]
      calls := [⟨2, .breakRequest, 5⟩, ⟨1, .call, 6⟩] }
    mru := { hall.mru with results := [(4, aResult)], exceptions := [anException] } }

theorem test_lawfulHall_keeps_the_laws :
    lawfulHall.tablesSorted = true ∧ lawfulHall.seatsLawful = true ∧ lawfulHall.rowsLawful = true
    ∧ lawfulHall.spacingLawful = true ∧ lawfulHall.waitLawful = true ∧ lawfulHall.clocksLawful = true
    ∧ lawfulHall.resultsLawful = true ∧ lawfulHall.collectionLawful = true ∧ lawfulHall.entriesLawful = true
    ∧ lawfulHall.dbc.callsLawful = true ∧ lawfulHall.callsSeated = true ∧ lawfulHall.mru.exceptionsLawful = true := by decide

/-- The laws refuse: a FREE seat with an occupant, neighbours of one paper without an override, a candidate who
waits outside the list, an open clock in a CLOSED paper, a waiter where an entry lies, a second entry of a slot. -/
theorem test_laws_refuse :
    (lawfulHall.withSeat 0 (aSeat 1 (some 1) .free (some 3) none)).seatsLawful = false
    ∧ (lawfulHall.withSeat 2 (aSeat 3 (some 3) .occupied (some 4) (some 3))).spacingLawful = false
    ∧ { lawfulHall with sal := { lawfulHall.sal with wait := [] } }.waitLawful = false
    ∧ (lawfulHall.withPaperRecord 3 (aPaper .closed)).clocksLawful = false
    ∧ { lawfulHall with clu := { lawfulHall.clu with rings := [(7, ⟨[], [anEntry 2 4], [2]⟩)] } }.collectionLawful = false
    ∧ { lawfulHall with clu := { lawfulHall.clu with rings := [(0, ⟨[anEntry 2 4], [anEntry 2 4], []⟩), (7, ⟨[], [], [2]⟩)] }
      }.entriesLawful = false
    ∧ { lawfulHall with dbc := { lawfulHall.dbc with calls := [⟨0, .call, 6⟩] } }.callsSeated = false
    ∧ (lawfulHall.withDesk 1 { aDesk .online with longPress := some 1 }).callsSeated = false := by decide

/-- Steps that touch each law's records. -/
theorem test_witness_TablesKeepTheirForm_laws :
    [Instr.openZone 7, .clearSeat 3, .finishCandidate 99999999, .takeRound 1 0, .withdraw 1003, .defineRow 7 1,
      .discardSheet 9, .breakGrant 99999999].all (fun i => (next? (step { lawfulHall with pending := [i] })).isSome) = true := by
  decide

/-- A wait list, a call list and an exception list that are full, with a step. -/
theorem test_witness_NoticeQueueNeverExceeds64_lists :
    (let s : State := { base with
       sal := { base.sal with wait := List.range 32 }
       dbc := { base.dbc with calls := (List.range 64).map fun i => ⟨i, .call, 0⟩ }
       mru := { base.mru with exceptions := (List.range 32).map fun i => { anException with number := i } }
       pending := [.hold] }
     s.sal.wait.length ≤ 32 ∧ s.dbc.callsLawful = true ∧ s.mru.exceptionsLawful = true ∧ (next? (step s)).isSome = true) := by
  decide

/-! ### Slots that leave the wait list together, and a round that begins anew -/

/-- A walk between two tries, its again flag set, with slots 3 and 8 waiting and slot 3 alone of its span untried. -/
def walkingSal : Sal := { hall.sal with retry := .walking, wait := [3, 8], span := [3], again := true }

/-- Slots 3 and 8 finish together: the list ends empty, so the retry is IDLE with no request (R53). -/
theorem test_walk_ends_with_all_gone :
    (fun l : Sal => (l.wait, l.retry, l.reqRetry)) (walkingSal.leave [3, 8]) = ([], .idle, false)
    ∧ (fun l : Sal => (l.wait, l.retry, l.reqRetry)) (walkingSal.leave [3]) = ([8], .pending, true) := by decide

theorem test_witness_RetryTriggerActs_together :
    (∀ m ∈ walkingSal.wait, m ∉ [5]) ∧ (∃ m ∈ walkingSal.wait, m ∈ [3, 5])
    ∧ walkingSal.retry = .walking ∧ walkingSal.serving = none
    ∧ (∀ m ∈ walkingSal.wait.filter (fun m => !(([3] : List Nat).contains m)), m ∉ walkingSal.span) ∧ walkingSal.again = true
    ∧ walkingSal.wait.filter (fun m => !(([3] : List Nat).contains m)) ≠ [] ∧ walkingSal.wait.filter (fun m => !(([3, 8] : List Nat).contains m)) = []
    ∧ (∃ m ∈ walkingSal.wait.filter (fun m => !(([8] : List Nat).contains m)), m ∈ walkingSal.span) := by decide

/-- Desk 100 was polled last, and no address has been listed since; seats come to name 50 and 150. -/
def relisted (x : Option Exchange) : State :=
  { base with
    hmu := { base.hmu with seats := [(0, aSeat 1 (some 50) .free none none), (1, aSeat 2 (some 150) .free none none)] }
    dbc := { base.dbc with polled := some 100, exchange := x } }

/-- With the bus silent the next round begins at 50; with an exchange at 100 still open 150 follows it (R102). -/
theorem test_new_round_at_the_lowest :
    (syncDesks (relisted none)).nextPoll = some 50
    ∧ (syncDesks (relisted (some ⟨100, false, true⟩))).nextPoll = some 150 := by decide

theorem test_witness_DeskPollAndTimeout_round :
    (relisted none).dbc.desks = [] ∧ (relisted none).dbc.exchange = none ∧ (relisted none).addresses ≠ []
    ∧ (relisted (some ⟨100, false, true⟩)).dbc.exchange.isSome = true ∧ hall.dbc.desks ≠ [] ∧ base.addresses = [] := by
  decide

/-! ### Witnesses: many at once, the notices of an end, the link's batches and the repairs -/

/-- Clocks that stand at 0: of the SEATED candidates of slots 10 and 1 and of the WAITING one of slot 8, all of
paper 3, whose record is given; slot 11 holds another candidate of it, or another paper's. -/
def severalOut (r : Paper) (other : Slot) : State :=
  let gone : Clock := { aClock .running with remaining := 0 }
  let s := ((hall.withSlot 1 writing.cand gone).withSlot 8 lateWaiting.cand gone).withSlot 10 (aCand 1010 3 .seated (some 1)) gone
  { s.withPaperRecord 3 r with
    due := [.clockExpiry], rsu := { s.rsu with slots := s.rsu.slots.put 11 other }
    mru := { s.mru with exceptions := [{ anException with reason := .earlySheet, decNumber := some 1008, queued := false }] } }

theorem test_witness_ClockStepsOfTheSecond_together :
    [(aPaper .writing, atADoor), (aPaper .overtime, atADoor), (aPaper .overtime, aSlot (aCand 1011 3 .seated (some 4)) (aClock .running)),
      (aPaper .overtime, { failedSlot atADoor with shadow := ⟨some 1011, some 3, false⟩ })].all (fun c =>
      let s := severalOut c.1 c.2
      let out := s.rsu.slots.filter fun e => !e.2.suspect && e.2.clock.state == .running && e.2.clock.remaining == 0
      s.due == [.clockExpiry] && s.tablesSorted && s.clean && out.map Prod.fst == [1, 8, 10] && s.clu.rings == []
        && (out.all fun e => e.2.cand.paper == 3) && s.sli.notices.length + 4 ≤ 63 && s.paper? 3 == some c.1) = true := by
  decide

/-- No collector waits in any zone, however it is numbered. -/
theorem test_witness_no_waiters : ∀ z, (hall.ringsOf z).waiters = [] := fun _ => rfl

/-- One of that state's papers would close, two stay in OVERTIME for an open and for a damaged clock. -/
theorem test_witness_ClockStepsOfTheSecond_closes :
    [atADoor, aSlot (aCand 1011 3 .seated (some 4)) (aClock .running),
      { failedSlot atADoor with shadow := ⟨some 1011, some 3, false⟩ }].map (fun x =>
      List.all (severalOut (aPaper .overtime) x).rsu.slots fun e => [1, 8, 10].contains e.1 || e.2.shadow.paper != some 3 ||
        (if e.2.suspect then e.2.shadow.clockNone else
          e.2.clock.state == .none || e.2.clock.state == .stopped || e.2.clock.state == .expired)) = [true, false, false] := by
  decide

theorem test_witness_DefinePaperRequest_keys :
    (let s : State := { hall.withPaperRecord 0 { aPaper .defined with versions := 2 } with
       mru := { hall.mru with forms := [(0, 1), (1, 1)], keys := [(1, ⟨some [.correct 1 4], 3⟩)] } }
     s.ready = true ∧ paperFieldsOk { paperFields with form := 1 } = true ∧ s.mru.forms.find 1 = some 1
     ∧ (s.paper? 0).map (fun r => (r.state, r.form, r.versions)) = some (.defined, 0, 2) ∧ 1 ≠ 0
     ∧ paperFields.versions < 2 ∧ paperFieldsOk paperFields = true) := by decide

theorem test_witness_FormAndMarkingRequests_redefined :
    (let s : State := { base with
       ssu := { base.ssu with papers := [(0, aPaper .defined)] }
       mru := { base.mru with forms := [(0, 1)], keys := [(0, ⟨some [.correct 1 4], 3⟩)], staging := some ⟨0, 1, 1, []⟩ } }
     s.ready = true ∧ s.clean = true ∧ s.tablesSorted = true ∧ 1 ≤ 120 ∧ 120 ≤ 120 ∧ s.formInUse 0 = false
     ∧ (∀ e ∈ s.ssu.papers, e.2.form = 0 → e.2.sections.getLast?.getD 1 ≤ 120) ∧ s.mru.forms.find 0 = some 1 ∧ 1 ≠ 120) := by
  decide

/-- The held hall with the start of paper 1 pending, of some reading time. -/
def startHeld (minutes : Nat) : State :=
  heldHall.withPaperRecord 1 { aPaper .admitting with startPending := true, reading := minutes }

theorem test_witness_HoldAndRelease_starts :
    [0, 10].all (fun m =>
      let s := startHeld m
      s.ready && s.clean && s.tablesSorted && s.ssu.held && !s.ssu.contact && s.sli.notices.length + 1 < 64
        && (s.ssu.papers.filter fun e => e.2.state == .admitting && e.2.startPending).map Prod.fst == [1]
        && (s.paper? 1).map (·.reading) == some m
        && (s.slot? 1).map (fun x => (x.suspect, x.clock.state, x.clock.before)) == some (false, .held, some .running)
        && s.slot? 3 == some waiting && waiting.shadow.paper == some 1 && s.slot? 6 == some damaged) = true := by decide

/-- A request of one requester alone for a candidate pre-placed at a seat; a retry's is pending or walking. -/
def preplacing (q : Requester) (walking : Bool) (k n : Nat) (cls : CandidateClass) : State :=
  let x := if k = 3 then waiting else expected
  let s := sideHall.withSlot k { x.cand with preplaced := some n, cls := cls } x.clock
  { s with sal := { s.sal with
    wait := [3, 8], span := if walking then [3] else [], last := .retry
    reqDoor0 := if q = .door0 then some k else none, reqDoor1 := if q = .door1 then some k else none
    reqStation := if q = .station then some (.allocation k) else none, reqRetry := q == .retry
    retry := if q = .retry then (if walking then .walking else .pending) else .idle } }

theorem test_witness_ArbiterServesRoundRobin_preplaced :
    [Requester.door0, .door1, .station].all (fun q => [510, 5, 3, 0, 511].all fun n =>
      let s := preplacing q false 2 n .standard
      s.calm && s.clean && s.sal.serving == none && s.sal.last.after.find? s.requests == some q
        && (s.slot? 2).map (fun x => (x.suspect, x.cand.preplaced)) == some (false, some n) && (s.paper? 1).isSome) = true := by
  decide

theorem test_witness_ArbiterServesRoundRobin_silent :
    [false, true].all (fun w => [510, 5, 3, 0, 511].all fun n =>
      let s := preplacing .retry w 3 n .standard
      let span := if s.sal.retry = .pending then s.sal.wait else s.sal.span
      s.calm && s.clean && s.sal.serving == none && s.sal.last.after.find? s.requests == some .retry && s.sal.retry != .idle
        && s.sal.wait.filter span.contains == (if w then [3] else [3, 8])
        && (s.slot? 3).map (fun x => (x.suspect, x.cand.preplaced)) == some (false, some n) && (s.paper? 1).isSome) = true := by
  decide

/-- The tests of the seat: none, suspect, not free, its zone closed or not there, its zone's code, spacing, and none. -/
theorem test_witness_ArbiterServesRoundRobin_tests :
    sideHall.seat? 510 = none ∧ (sideHall.seat? 5).map (·.suspect) = some true
    ∧ (sideHall.seat? 3).map (fun r => (r.suspect, r.state)) = some (false, .vacated)
    ∧ ((sideHall.withSeat 511 { aSeat 7 none .free none none with zone := 6 }).zone? 6 = none)
    ∧ (sideHall.zone? 7).map (·.state) = some .closed
    ∧ (preplacing .door1 false 2 511 .arranged).zone? 0 = some ⟨.opened, .side, .admits, .none⟩
    ∧ Zone.code ⟨.opened, .side, .admits, .none⟩ .arranged = .none ∧ Zone.code ⟨.opened, .side, .admits, .none⟩ .standard ≠ .none
    ∧ sideHall.spacingHolds 1 0 = false ∧ sideHall.spacingHolds 1 511 = true
    ∧ (sideHall.seat? 511).map (fun r => (r.suspect, r.state, r.zone)) = some (false, .free, 0) := by decide

theorem test_witness_EndPaperFinishesItsCandidates_order :
    [hall, waitersHall, hall.withPaperRecord 3 { aPaper .overtime with admClosed := true }].all (fun s =>
      s.ready && s.clean && s.tablesSorted && s.sli.notices.length + 6 ≤ 64 && !s.sli.lost
        && (s.paper? 3).map (·.state) != some .closed && (s.paper? 3).isSome
        && (List.all s.rsu.slots fun e => !e.2.suspect || e.2.shadow.paper != some 3)
        && (List.all s.rsu.slots fun e => e.2.suspect || e.2.shadow.paper == some e.2.cand.paper)
        && ((s.rsu.slots.filter fun e => e.2.endsNow && e.2.shadow.paper == some 3).map Prod.fst == [1, 8])) = true := by decide

theorem test_witness_DeskReplyIsTaken_present :
    (0 + 3 + 16 + 0 + 237 : Byte) = 0 ∧ (0 + 2 + 16 + 0 + 238 : Byte) = 0 ∧ (0 + 1 + 16 + 0 + 239 : Byte) = 0
    ∧ [ClockState.paused, .running, .held, .stopped].all (fun st =>
        let s := (pressing 3 (aDesk .online) false).withSlot 1 writing.cand (aClock st)
        s.calm && s.clean && s.desk? 3 == some (aDesk .online) && s.seatOfDesk 3 == some 2
          && (s.seat? 2).map (fun r => (r.suspect, r.state, r.occupant)) == some (false, .occupied, some 1)
          && (s.slot? 1).map (fun x => (x.suspect, x.clock.state)) == some (false, st)) = true
    ∧ (let s := (pressing 2 (aDesk .online) false).withSlot 0 (aCand 0 1 .finished (some 1)) (aClock .stopped)
       s.calm = true ∧ (s.seat? 1).map (·.state) = some .held
       ∧ (s.slot? 0).map (fun x => (x.suspect, x.cand.state)) = some (false, .finished))
    ∧ [SeatState.free, .vacated, .unavailable].all (fun st =>
        let s := (pressing 1 (aDesk .online) false).withSeat 0 (aSeat 1 (some 1) st none (some 1))
        s.calm && s.seatOfDesk 1 == some 0 && (s.seat? 0).map (fun r => (r.suspect, r.state, r.occupant)) == some (false, st, none))
          = true := by decide

/-- Other steps due do not make these due. -/
theorem test_witness_steps_not_due :
    Due.readingEnd 3 ∉ [Due.readingEnd 4, .writingEnd 3] ∧ Due.admissionCloses 3 ∉ [Due.readingEnd 3]
    ∧ Due.writingEnd 3 ∉ [Due.readingEnd 3] ∧ Due.scheduledStart 3 ∉ [Due.writingEnd 3]
    ∧ Due.clockWarning 1 ∉ [Due.warning 1] ∧ Due.warning 1 ∉ [Due.clockWarning 1] ∧ Due.pulseEnd ∉ [Due.warning 1]
    ∧ Due.finishWindowExpiry 1 ∉ [Due.lampItemExpiry 1] ∧ Due.lampItemExpiry 1 ∉ [Due.finishWindowExpiry 1]
    ∧ Due.roundTimeout 7 ∉ [Due.roundTimeout 6, .pulseEnd] := by decide

/-- A round of 12 leaves collector 7 while collectors 2 and 3 wait in its zone: each is offered a round of 8 or less. -/
def manyOffers : State :=
  let c : Collector := { aCollector .round with
    zone := some 0, round := (List.range 12).map fun i => anEntry i (100 + i), timer := some 0 }
  { leavingRound [2, 3] with
    due := [.roundTimeout 7], clu := { (leavingRound [2, 3]).clu with collectors := [(2, aCollector .waiting), (3, aCollector .waiting), (7, c)] } }

theorem test_witness_RoundTimesOut_offers :
    manyOffers.ringsOf 0 = ⟨[], [], 2 :: [3]⟩ ∧ manyOffers.due = .roundTimeout 7 :: []
    ∧ (manyOffers.collectorOf 7).state = .round ∧ (manyOffers.collectorOf 7).timer = some 0
    ∧ (manyOffers.collectorOf 7).zone = some 0 ∧ (hall.ringsOf 0).waiters = []
    ∧ (let s := collecting (aCollector .idle) ⟨[anEntry 2 1], [anEntry 3 8], [2, 3]⟩
       s.ringsOf 0 = ⟨[anEntry 2 1], [anEntry 3 8], 2 :: [3]⟩ ∧ [anEntry 2 1] ≠ [])
    ∧ (waitersHall.ringsOf 0).urgent = [] ∧ (waitersHall.ringsOf 0).main = [] := by decide

/-- Both waiters are offered a round in one step, of 8 and of 4 entries, in the order of the round (R124, R125). -/
theorem test_two_offers_in_one_step :
    (next? (exec (.roundTimeout 7) manyOffers)).map (fun t =>
      [2, 3, 7].map fun c => ((t.collectorOf c).state, ((t.collectorOf c).round.map (·.seat))))
    = some [(.round, [0, 1, 2, 3, 4, 5, 6, 7]), (.round, [8, 9, 10, 11]), (.idle, [])] := by decide

theorem test_witness_CollectorRequests_more :
    hall.ready = true ∧ 7 < 8 ∧ 8 ≤ 8 ∧ ({ manyOffers with due := [] } : State).ready = true ∧ (manyOffers.collectorOf 7).state = .round
    ∧ (manyOffers.collectorOf 7).zone = some 0
    ∧ (manyOffers.collectorOf 7).round.find? (fun e => e.seat == 11) = some (anEntry 11 111) ∧ 11 ≤ 511 := by decide

theorem test_witness_ConfirmationCollectsAScript_whole :
    (let s0 := (inBatch inARound (.confirm 7) 4 [] false none).withPaperRecord 3 (aPaper .closed)
     let s : State := { s0 with rsu := { s0.rsu with slots := s0.rsu.slots.drop 4 } }
     s.calm = true ∧ s.clean = true ∧ s.tablesSorted = true ∧ s.deaf = false ∧ s.sli.notices.length + 1 < 64
     ∧ s.sli.receive = .inBatch ⟨.confirm 7, true, [], 4, true⟩ false
     ∧ s.sli.taken = some (.batch ⟨.confirm 7, none, [], false, false⟩)
     ∧ (s.collectorOf 7).state = .round ∧ (s.collectorOf 7).round.find? (fun e => e.seat == 2) = some (anEntry 2 1)
     ∧ (s.seat? 2).map (fun r => (r.suspect, r.state)) = some (false, .occupied)
     ∧ (s.slot? 1).map (fun x => (x.suspect, x.cand.state, x.cand.paper)) = some (false, .finished, 3)
     ∧ (s.paper? 3).map (·.state) = some .closed
     ∧ (∀ y ∈ s.rsu.slots, y.1 ≠ 1 → y.2.shadow.paper = some 3 → y.2.cand.state ≠ .finished)) := by decide

theorem test_witness_ScanLinkFrames_settles :
    (let s : State := { hall with
       mru := { hall.mru with resendWait := [⟨.row, some 4⟩, ⟨.frameOpen, none⟩] }
       sli := { hall.sli with sending := some (.notice ⟨.contactClear, 0, []⟩ false), notices := [⟨.contactClear, 0, []⟩] } }
     s.calm = true ∧ s.mru.discarding = false ∧ s.filling = none ∧ s.sli.sending.isSome = true)
    ∧ (withBuffer ⟨.filling, some 0, some 1, [], false⟩).mru.resendWait = []
    ∧ (withBuffer ⟨.filling, some 0, some 1, [], false⟩).mru.buffer0.state = .filling
    ∧ hall.mru.forms.find 3 = none ∧ (hall.mru.forms.find 0).isSome = true
    ∧ [Buffer.mk .free none none [] false, ⟨.full, some 0, some 1, [], false⟩].all (fun b =>
        let s : State := { withBuffer b with mru := { (withBuffer b).mru with buffer1 := ⟨.filling, some 0, some 2, [], false⟩ } }
        s.calm && !s.mru.discarding && s.mru.resendWait == [] && s.mru.buffer0.state == b.state
          && s.mru.buffer1.state == .filling) = true := by decide

/-- The hall with results, exceptions, papers pending for a rescore and the running pass. -/
def markers (results : Table ResultRecord) (es : List SheetException) (flags : List Nat) (q : Option Pass) (op : Option MarkOp) :
    State :=
  { hall with mru := { hall.mru with results := results, exceptions := es, rescorePending := flags, pass := q, marker := op } }

def staleResult : ResultRecord := { aResult with stale := true }

theorem test_witness_MarkerTakesAndEndsASheet_work :
    (let s := markers [] [{ anException with number := 3, queued := false }, anException] [] none none
     s.calm = true ∧ s.mru.marker = none ∧ s.mru.fullOrder = [] ∧ s.mru.exceptions.find? (·.queued) = some anException)
    ∧ (let s := markers [] [] [] none none
       s.calm = true ∧ (∀ e ∈ s.mru.exceptions, e.queued = false) ∧ s.mru.pass = none ∧ s.mru.rescorePending = []
       ∧ s.mru.results.sorted = true)
    ∧ (let s := markers [(4, aResult), (5, staleResult)] [] [3, 4] none none
       s.calm = true ∧ s.mru.results.sorted = true ∧ s.mru.rescorePending = 3 :: [4]
       ∧ List.find? (fun e : Nat × ResultRecord => (e.2.stale || e.2.suspect)
           && ((s.slot? e.1).map (·.shadow.paper)) == some (some 3)) s.mru.results = some (5, staleResult))
    ∧ [(none, some (5, staleResult)), (some 5, (none : Option (Nat × ResultRecord)))].all (fun c =>
        let s := markers [(5, staleResult)] [] [] (some ⟨3, c.1, false, 1, 0⟩) none
        s.calm && s.mru.results.sorted
          && List.find? (fun e : Nat × ResultRecord => (e.2.stale || e.2.suspect)
            && ((s.slot? e.1).map (·.shadow.paper)) == some (some 3) && c.1.all (· < e.1)) s.mru.results == c.2) = true := by
  decide

/-- The rows of a sheet that no version is marked on. -/
def noVersion : List (List Byte) := sheetOf1004.set 9 [30, 30, 30, 30]

/-- Each failure of R156, found in a sheet whose number reads 1004, or reads as none. -/
theorem test_witness_SheetFails :
    (hall.SheetFails 0 (outcomesOf .reset ([[30, 210]] ++ List.replicate 10 [30])) ⟨.idUnreadable, none, none, false⟩)
    ∧ (base.SheetFails 0 (outcomesOf .reset sheetOf1004) ⟨.unknownCandidate, some 1004, none, false⟩)
    ∧ (hall.SheetFails 0 (outcomesOf .reset sheetOf1004) ⟨.noKey, some 1004, some 0, false⟩)
    ∧ (hall.SheetFails 1 (outcomesOf .reset sheetOf1004) ⟨.wrongForm, some 1004, none, false⟩)
    ∧ ((hall.withPaperRecord 3 { aPaper .writing with versions := 2 }).SheetFails 0 (outcomesOf .reset noVersion) ⟨.versionUnreadable, some 1004, none, false⟩)
    ∧ ((markers [(4, aResult)] [] [] none none).SheetFails 0 (outcomesOf .reset sheetOf1004) ⟨.duplicate, some 1004, none, false⟩) := by
  refine ⟨.inl ⟨by decide, rfl⟩, .inr ⟨1004, by decide, .inl (.inl ⟨by decide, rfl⟩)⟩,
    .inr ⟨1004, by decide, .inr ⟨4, finished, aPaper .writing, by decide, by decide, by decide, by decide, by decide,
      by decide, .inr ⟨by decide, .inr ⟨0, by decide, by decide, rfl⟩⟩⟩⟩,
    .inr ⟨1004, by decide, .inr ⟨4, finished, aPaper .writing, by decide, by decide, by decide, by decide, by decide,
      by decide, .inl ⟨by decide, rfl⟩⟩⟩,
    .inr ⟨1004, by decide, .inr ⟨4, finished, { aPaper .writing with versions := 2 }, by decide, by decide, by decide,
      by decide, by decide, by decide, .inr ⟨by decide, .inl ⟨by decide, rfl⟩⟩⟩⟩,
    .inr ⟨1004, by decide, .inl (.inr ⟨4, finished, by decide, by decide, .inr ⟨by decide, .inr (.inr ⟨by decide,
      by decide, rfl⟩)⟩⟩)⟩⟩

/-- The failures on the candidate's own record: suspect, EXPECTED and SEATED. -/
theorem test_witness_SheetFails_sitting :
    ({ hall with rsu := { hall.rsu with slots := hall.rsu.slots.put 4 (failedSlot finished) } }.SheetFails 0
      (outcomesOf .reset sheetOf1004) ⟨.notSitting, some 1004, none, true⟩)
    ∧ ((hall.withSlot 4 (aCand 1004 3 .expected none) .zero).SheetFails 0 (outcomesOf .reset sheetOf1004)
      ⟨.notSitting, some 1004, none, false⟩)
    ∧ ((hall.withSlot 4 (aCand 1004 3 .seated (some 2)) (aClock .running)).SheetFails 0 (outcomesOf .reset sheetOf1004)
      ⟨.earlySheet, some 1004, none, false⟩) := by
  refine ⟨.inr ⟨1004, by decide, .inl (.inr ⟨4, failedSlot finished, by decide, by decide, .inl ⟨by decide, rfl⟩⟩)⟩,
    .inr ⟨1004, by decide, .inl (.inr ⟨4, aSlot (aCand 1004 3 .expected none) .zero, by decide, by decide,
      .inr ⟨by decide, .inl ⟨by decide, rfl⟩⟩⟩)⟩,
    .inr ⟨1004, by decide, .inl (.inr ⟨4, aSlot (aCand 1004 3 .seated (some 2)) (aClock .running), by decide, by decide,
      .inr ⟨by decide, .inr (.inl ⟨by decide, rfl⟩)⟩⟩)⟩⟩

theorem test_witness_MarkerTakesAndEndsASheet_fails :
    [[], List.replicate 32 anException].all (fun es =>
      let s : State := { marking1004 [] with mru := { (marking1004 []).mru with exceptions := es, counter := 7 } }
      s.calm && s.clean && s.mru.marker == some ⟨.sheet 0 .taken, .reset⟩ && s.fcu.held == [] && s.sli.notices.length < 64
        && s.mru.buffer0 == ⟨.marking, some 0, some 1, sheetOf1004, false⟩ && (es.all fun e => e.number != 7)) = true := by
  decide

theorem test_witness_RetryAndRescoreStepsEnd_fails :
    (let e : SheetException := { anException with outcomes := outcomesOf .reset sheetOf1004, queued := false }
     [e, { e with reason := .unknownCandidate }].all fun e =>
       let s := markers [] [e] [] none (some ⟨.retry 9 .taken, .reset⟩)
       s.calm && s.clean && s.mru.exceptions.find? (fun y => y.number == 9) == some e && s.fcu.held == []
         && s.sli.notices.length < 64 && e.form == 0) = true := by decide

/-- Rescore steps: a suspect record there still, repaired, gone; a stale record replaced, suspect meanwhile, without a
key, of a key moved on; and passes with a slot left, to begin anew, and at their end. -/
theorem test_witness_RetryAndRescoreStepsEnd_rescore :
    (let broken : ResultRecord := { aResult with suspect := true }
     let op (r : ResultRecord) (k : Option (List KeyEntry)) (g : Nat) : Option MarkOp := some ⟨.rescore 5 r k g, .reset⟩
     [markers [(5, broken)] [{ anException with reason := .duplicate, decNumber := some 1005 }] [] (some ⟨3, none, false, 0, 0⟩) (op broken none 0),
      markers [(5, aResult)] [] [] (some ⟨3, none, false, 0, 0⟩) (op broken none 0),
      markers [] [] [] (some ⟨3, none, false, 0, 0⟩) (op broken none 0),
      markers [(5, { staleResult with serial := 8 })] [] [] (some ⟨3, none, true, 0, 0⟩) (op staleResult (some [.correct 1 4]) 0),
      markers [(4, staleResult), (5, { staleResult with suspect := true })] [] [] (some ⟨3, none, false, 0, 0⟩) (op staleResult (some [.correct 1 4]) 0),
      markers [(5, staleResult)] [] [] (some ⟨3, none, false, 0, 0⟩) (op staleResult none 0),
      markers [(5, staleResult)] [] [] (some ⟨3, none, false, 0, 0⟩) (op staleResult (some [.correct 1 4]) 9)].all (fun s =>
        s.calm && s.clean && s.mru.pass.isSome && s.fcu.held == [] && s.sli.notices.length + 1 < 64 && (s.paper? 3).isSome
          && ((s.slot? 5).map (·.shadow.number)) == some (some 1005)) = true
     ∧ broken.suspect = true ∧ staleResult.suspect = false ∧ { aResult with stale := true } = staleResult
     ∧ { ({ staleResult with suspect := true } : ResultRecord) with stale := true, suspect := false } = staleResult
     ∧ { ({ staleResult with serial := 8 } : ResultRecord) with stale := true, suspect := false } ≠ staleResult
     ∧ 9 ≠ (hall.keyOf 3 0).generation) := by decide

theorem test_witness_KeyEntryIsStaged_runs :
    (loadingKey 9).calm = true ∧ (loadingKey 9).deaf = false ∧ 3 + 2 * 8 ≤ 19 ∧ (loadingKey 9).mru.staging = some ⟨3, 0, 9, []⟩
    ∧ 8 ≤ 8 ∧ (List.replicate 8 (31, 32)).length = 8 ∧ 2 + 8 - 1 ≤ 9 ∧ 9 < 3 + 8 - 1
    ∧ ((([KeyEntry.void, .correct 31 32]).zipIdx 1).foldl (fun (l : Table KeyEntry) e => l.put e.2 e.1) []).length = 2
    ∧ (loadingKey 2).clean = true ∧ 3 + 2 * 2 ≤ 19
    ∧ (let s := inBatch hall (.loadKey 3 0 2 0) 19 [] false none
       s.calm = true ∧ s.deaf = false ∧ s.mru.staging = none)
    ∧ (∃ w ∈ [(0, 1), (1, 4)], (w.1 = 0 ∧ w.2 ≠ 0) ∨ 32 ≤ w.1 ∨ (w.1 ≠ 0 ∧ w.2 = 0) ∨ 32 < w.2)
    ∧ (∃ w ∈ [(1, 4), (31, 0)], (w.1 = 0 ∧ w.2 ≠ 0) ∨ 32 ≤ w.1 ∨ (w.1 ≠ 0 ∧ w.2 = 0) ∨ 32 < w.2) := by decide

/-- A run of 8 correct sets, and one of a void and a correct set. -/
theorem test_witness_KeyEntryIsStaged_pairs :
    List.Forall₂ (fun (w : Nat × Nat) e => (w = (0, 0) ∧ e = KeyEntry.void)
      ∨ (1 ≤ w.1 ∧ w.1 ≤ 31 ∧ 1 ≤ w.2 ∧ w.2 ≤ 32 ∧ e = KeyEntry.correct w.1 w.2)) [(0, 0), (31, 32)] [.void, .correct 31 32] :=
  .cons (by decide) (.cons (by decide) .nil)

/-- A batch arriving, or waiting whole, while a record is being sent. -/
theorem test_witness_RequestsWaitTheirTurn_batches :
    (let s : State := { hall with sli := { hall.sli with
       sending := some (.notice ⟨.contactClear, 0, []⟩ false), notices := [⟨.contactClear, 0, []⟩] } }
     s.ready = true ∧ s.sli.sending.isSome = true)
    ∧ hall.ready = true ∧ 8 ≤ 8 ∧ 12 ≤ 12 ∧ 11 ≤ 11 ∧ 234 ≤ 234 ∧ (BatchHeader.confirm 7).kind = 99
    ∧ BatchHeader.loadCandidates.kind = 32 ∧ (BatchHeader.loadKey 3 0 1 0).kind = 113 ∧ 4 ≤ 4 ∧ 14 ≤ 14 ∧ 3 + 2 * 8 ≤ 19 := by
  decide

theorem test_witness_BatchRecordsBeginAndEnd_more :
    hall.ready = true ∧ 12 < 13 ∧ 3 ≠ 3 + 4 * 1 ∧ 10 < 11 ∧ 234 < 235 ∧ hall.paper? 14 = none ∧ 14 < 16 ∧ 1 < 2
    ∧ (hall.paper? 3).map (fun r => (r.versions, r.form)) = some (1, 0) ∧ 1 ≤ 1 ∧ hall.mru.forms.find 0 = some 1
    ∧ hall.mru.forms.find 0 ≠ some 2 ∧ hall.mru.staging = none
    ∧ (let s : State := { hall with mru := { hall.mru with staging := some ⟨3, 0, 1, []⟩ } }
       s.ready = true ∧ s.mru.staging = some ⟨3, 0, 1, []⟩)
    ∧ (let s : State := { hall with mru := { hall.mru with staging := some ⟨3, 1, 1, []⟩ } }
       s.ready = true ∧ ∀ g, s.mru.staging = some g → g.paper ≠ 3 ∨ g.version ≠ 0) := by
  refine ⟨by decide, by decide, by decide, by decide, by decide, by decide, by decide, by decide, by decide, by decide,
    by decide, by decide, by decide, by decide, by decide, fun g h => ?_⟩
  cases Option.some.inj h
  decide

theorem test_witness_OutputAndLinkReset_after_notices :
    (let r : Reply := ⟨19, .ok [], false⟩
     let n : Notice := ⟨.contactClear, 0, []⟩
     let st : StartRecord := .linkRestarted none 0 5
     let sends (s : Sending) (start : Option StartRecord) (rs : List Reply) (ns : List Notice) : State :=
       { hall with sli := { hall.sli with sending := some s, start := start, replies := rs, notices := ns } }
     (sends (.notice n false) none [r] [n]).calm = true ∧ (sends (.notice n false) none [] [n, n]).calm = true
     ∧ (sends (.start st false) (some st) [] [n]).calm = true ∧ (sends (.reply r) (some st) [r] []).calm = true
     ∧ (sends (.notice n false) (some st) [r] [n]).calm = true) := by decide

theorem test_witness_TableReadsFindWrongBits_levels :
    (reporting .standard []).fcu.level = .standard ∧ FaultKind.lost ≠ .corrected ∧ FaultKind.uncorrectable ≠ .corrected
    ∧ (reporting .record []).fcu.level = .record ∧ (reporting .record []).mru.marker = none
    ∧ (let s : State := { reporting .record [] with mru := { hall.mru with marker := some ⟨.retry 9 .taken, .reset⟩ } }
       s.fcu.level = .record ∧ s.fcu.capture = none)
    ∧ ({ hall.fcu with capture := some ⟨.table, .seat, some 0, .corrected, 0⟩ }).capture ≠ none := by decide

/-- Fields of a seat repaired to a state, at desk 9, with an occupant of paper 3. -/
def seatFields (st : Nat) (occ last : Option Nat) (o : Nat) : SeatFields := ⟨0, some 9, st, occ, last, 1, o⟩

/-- The suspect seat 5 repaired to each state, with a candidate who names it where it has one. -/
theorem test_witness_RepairSeat :
    [(seatFields 1 none none 0, hall), (seatFields 4 none (some 3) 0, hall),
      (seatFields 2 (some 10) (some 3) 1, hall.withSlot 10 (aCand 1010 3 .admitted (some 5)) (aClock .running)),
      (seatFields 3 (some 10) (some 3) 0, hall.withSlot 10 (aCand 1010 3 .seated (some 5)) (aClock .running)),
      (seatFields 3 (some 6) (some 3) 0, hall)].all (fun c =>
      let s := c.2
      let f := c.1
      s.ready && s.clean && s.tablesSorted && (s.seat? 5).map (·.suspect) == some true && !s.addressTaken 5 f.desk
        && !s.seatConflict 5 f (([SeatState.unavailable, .free, .held, .occupied, .vacated][f.state]?).getD .free)) = true
    ∧ 511 ≤ 511 ∧ 2 ≤ (seatFields 5 none none 0).state ∧ [SeatState.unavailable, .free, .held, .occupied, .vacated][5]? = none := by
  decide

/-- The conflicts of R180 in turn: the address, the occupant named elsewhere, a candidate who names the seat, an
occupant unused, elsewhere or of another paper, spacing. -/
theorem test_witness_RepairSeat_conflicts :
    [({ seatFields 1 none none 0 with desk := some 3 }, SeatState.free, hall),
      (seatFields 3 (some 1) (some 3) 0, .occupied, hall),
      (seatFields 1 none none 0, .free, hall.withSlot 10 (aCand 1010 3 .seated (some 5)) (aClock .running)),
      (seatFields 3 (some 10) (some 3) 0, .occupied, hall.withSlot 10 (aCand 1010 3 .admitted (some 5)) (aClock .running)),
      (seatFields 2 (some 10) (some 3) 0, .held, hall.withSlot 10 (aCand 1010 3 .seated (some 5)) (aClock .running)),
      (seatFields 3 (some 574) (some 3) 0, .occupied, hall), (seatFields 3 (some 10) (some 3) 0, .occupied, hall),
      (seatFields 3 (some 10) (some 2) 0, .occupied, hall.withSlot 10 (aCand 1010 3 .seated (some 5)) (aClock .running))].all
        (fun c => c.2.2.ready && c.2.2.clean && (c.2.2.seat? 5).map (·.suspect) == some true && c.2.2.seatConflict 5 c.1 c.2.1) = true
    ∧ (let s := (sideHall.withSeat 4 { aSeat 5 none .free none none with suspect := true })
       s.ready = true ∧ s.clean = true ∧ s.spacingHolds 3 4 = false) := by decide

/-- A read of the repair's own that fails: of a candidate, and of another seat. -/
theorem test_witness_RepairSeat_reads :
    [(⟨.candidate 1, 0, true⟩ : Upset), ⟨.seat 2, 1, true⟩].all (fun u =>
      let s : State := { hall with upsets := [u] }
      s.ready && s.tablesSorted && (s.slot? 1).map (·.suspect) == some false && (s.seat? 2).map (·.suspect) == some false
        && (s.seat? 5).map (·.suspect) == some true) = true := by decide

/-- The hall with slot 6 suspect, its paper 3, and seat 4 naming it in a state. -/
def damagedAt (st : SeatState) (p : PaperState) : State :=
  ({ hall with rsu := { hall.rsu with slots := hall.rsu.slots.put 6 { damaged with shadow := ⟨some 1006, some 4, false⟩ } } }.withSeat 4
    (aSeat 5 none st (some 6) (some 3))).withPaperRecord 3 (aPaper p)

/-- Fields that repair slot 6 to a state, a seat and a clock state. -/
def repairFields (st : Nat) (seat : Option Nat) (clock : Nat) : CandidateFields :=
  { candidateFields 1006 3 with state := st, seat := seat, clockState := clock, remaining := 600, budget := 60 }

theorem test_witness_RepairCandidate :
    [(3, some 4, 2, SeatState.occupied, PaperState.writing), (2, some 4, 0, .held, .writing), (4, some 4, 5, .occupied, .overtime),
      (5, none, 6, .free, .closed), (6, none, 0, .free, .writing)].all (fun c =>
      let s0 := damagedAt c.2.2.2.1 c.2.2.2.2
      let s : State := if c.2.1.isSome then s0 else s0.withSeat 4 (aSeat 5 none .free none none)
      let f := repairFields c.1 c.2.1 c.2.2.1
      s.ready && s.clean && !s.allocating 6 && (s.slot? 6).map (·.suspect) == some true && (s.paper? 3).isSome
        && (List.all s.rsu.slots fun e => e.1 == 6 || e.2.shadow.number != some 1006)
        && ((repairedCandidate 6 f).bind fun cg => (s.paper? 3).map fun r => s.candidateConflict 6 cg.1 cg.2 r) == some false) = true := by
  decide

/-- The conflicts of R181 in turn. -/
theorem test_witness_RepairCandidate_conflicts :
    [(damagedAt .free .writing, repairFields 3 (some 510) 2), (damagedAt .held .writing, repairFields 3 (some 4) 2),
      (damagedAt .occupied .writing, repairFields 2 (some 4) 2), (damagedAt .vacated .overtime, repairFields 4 (some 4) 5),
      (damagedAt .occupied .writing, repairFields 6 none 0), (damagedAt .free .writing, repairFields 1 none 0),
      (damagedAt .free .admitting, repairFields 6 none 2), (damagedAt .occupied .writing, repairFields 4 (some 4) 2),
      (damagedAt .occupied .closed, repairFields 3 (some 4) 2), (damagedAt .occupied .writing, repairFields 3 (some 4) 4),
      (damagedAt .occupied .writing, { repairFields 3 (some 4) 2 with before := some 1 })].all (fun c =>
      c.1.ready && c.1.clean && ((repairedCandidate 6 c.2).bind fun cg => (c.1.paper? 3).map fun r =>
        c.1.candidateConflict 6 cg.1 cg.2 r) == some true) = true := by decide

/-- The refusals before them. -/
theorem test_witness_RepairCandidate_refused :
    (let s := damagedAt .occupied .writing
     s.ready = true ∧ s.slot? 574 = none ∧ (s.slot? 575).map (·.suspect) = some false ∧ s.paper? 14 = none
     ∧ ({ s with sal := { s.sal with reqDoor0 := some 6 } }.allocating 6 = true)
     ∧ (∃ e ∈ s.rsu.slots, e.1 ≠ 6 ∧ e.2.shadow.number = some 1007)
     ∧ (s.seat? 5).map (·.suspect) = some true ∧ (s.seat? 4).map (·.suspect) = some false
     ∧ { s with upsets := [⟨.seat 4, 0, true⟩] }.ready = true ∧ { s with upsets := [⟨.seat 4, 0, true⟩] }.tablesSorted = true)
    ∧ [CandidateClass.standard, .arranged][2]? = none ∧ 12 < 99999999 ∧ repairedCandidate 576 (repairFields 3 (some 4) 2) = none
    ∧ repairedCandidate 6 (repairFields 3 none 2) = none ∧ repairedCandidate 6 (repairFields 0 (some 4) 0) = none := by decide

/-- A QUERY CALLS reply of 30 calls goes with 240 body characters: kind, L 240, the body and its check (R183; that the
rest is left out is log entry 58). -/
theorem test_long_reply_is_cut :
    (fun l : List Byte => (l.length, l[0]?, l[1]?))
      (Reply.bytes ⟨83, .ok ((List.range 30).flatMap fun i => [u16 i, ⟨7, none⟩, u8 0, u24 i]), false⟩)
      = (243, some 224, some 240) := by decide

/-! ### Witnesses of the fifth review round: what a second makes due, exact scores, and the rest of some records -/

/-- The hall at the end of a second, with one clock, one budget, one walk timer and one reading about to run out. -/
def endOfSecond : State :=
  let r := { aPaper .reading with readingLeft := 1 }
  let s := (((hall.withPaperRecord 2 r).withSlot 1 writing.cand { aClock .running with remaining := 1 }).withSlot 8 lateWaiting.cand
    { aClock .paused with budget := 1 }).withSlot 0 { notSeatedYet.cand with walk := some 1 } .zero
  { s with htb := { s.htb with phase := s.htb.trim } }

/-- R33, R84, R85, R94: what the second makes due, in the model's order (log entry 3). -/
theorem test_second_makes_due :
    (next? (exec .hallSecond endOfSecond)).map (·.due) = some [.notSeated 0, .breakOverrun 8, .clockExpiry, .readingEnd 2]
    ∧ endOfSecond.clean = true ∧ endOfSecond.htb.trim ≤ endOfSecond.htb.phase := by decide

/-- Rows of four bubbles, highest level, its first bubble and the next highest, at the edges of R155. -/
theorem test_witness_LevelsAndPercentagesStayInRange_rows :
    [([59, 0, 59, 0], 59, 0, 59), ([0, 60, 0, 0], 60, 1, 0), ([0, 0, 139, 139], 139, 2, 139), ([140, 0, 0, 179], 179, 3, 140),
      ([140, 0, 0, 180], 180, 3, 140), ([200, 139, 0, 0], 200, 0, 139)].all (fun c : List Nat × Nat × Nat × Nat =>
      c.1[c.2.2.1]? == some c.2.1 && c.1.all (· ≤ c.2.1) && (c.1.take c.2.2.1).all (· != c.2.1)
        && (c.1.eraseIdx c.2.2.1).contains c.2.2.2 && (c.1.eraseIdx c.2.2.1).all (· ≤ c.2.2.2)) = true
    ∧ (Settings.reset.light, Settings.reset.mark, Settings.reset.separation) = (60, 140, 40) := by decide

/-- The same rows decided (R155). -/
theorem test_rows_decided :
    [[59, 0, 59, 0], [0, 60, 0, 0], [0, 0, 139, 139], [140, 0, 0, 179], [140, 0, 0, 180], [200, 139, 0, 0]].map (decideRow .reset)
      = [.blank, .light, .light, .multiple, .single 3, .single 0] := by decide

theorem test_witness_LevelsAndPercentagesStayInRange_scores :
    (let r := { aPaper .writing with sections := [1, 3] }
     r.sections.head? = some 1 ∧ r.sections.Pairwise (· < ·)
     ∧ (List.drop 9 (List.replicate 9 RowOutcome.blank ++ [.single 0, .multiple, .light])).length
         = ([.void, .correct 3 8, .correct 1 4] : List KeyEntry).length)
    ∧ 30 < 94 ∧ 30 < 31 ∧ 31 < 94 := by decide

theorem test_witness_DeskPollAndTimeout_misses :
    ([DeskState.quiet, .online].all fun st => [(0, false), (1, false), (2, false), (2, true)].all fun m =>
      let d := { aDesk st with misses := m.1, announced := m.2 }
      let s := pressing 1 d true
      s.calm && s.dbc.exchange == some ⟨1, true, false⟩ && s.desk? 1 == some d && s.seatOfDesk 1 == some 0
        && s.seat? 0 == some (aSeat 1 (some 1) .free none none)
        && decide ((takeFault .desk .desk (some 1) .lost s).sli.notices.length < 64)) = true
    ∧ (0 : Byte) + 1 + 0 + 0 + 0 ≠ 0 := by decide

/-- The writing end of a paper with no clock open: with one candidate FINISHED, and with all COLLECTED. -/
theorem test_witness_PaperStepsOfTheSecond_closes :
    [[(4, finished), (5, collected)], [(5, collected)]].all (fun l : Table Slot =>
      let r := { aPaper .writing with elapsed := 3600 }
      let s0 := paperStep r (.writingEnd 3)
      let s : State := { s0 with rsu := { s0.rsu with slots := l } }
      s.due == [.writingEnd 3] && s.clean && s.tablesSorted && s.paper? 3 == some r && r.elapsed == 60 * r.duration
        && s.clocksOpen 3 == false && s.sli.notices.length + 1 < 64) = true := by decide

theorem test_witness_PaperStepsOfTheSecond_reading :
    (let s : State := { hall with due := [.scheduledStart 1] }
     s.paper? 1 = some (aPaper .admitting) ∧ s.ssu.held = false ∧ 0 < (aPaper .admitting).reading ∧ s.clean = true
     ∧ s.tablesSorted = true ∧ s.sli.notices.length < 64 ∧ s.slot? 3 = some waiting ∧ waiting.clock.state = .none) := by decide

/-- A finish of an OVERTIME paper's candidate, seated and not, that is the last clock, and one beside another. -/
theorem test_witness_FinishingACandidate_overtime :
    [([(8, lateWaiting)], 8, true), ([(1, writing), (4, finished)], 1, true), ([(1, writing), (8, lateWaiting)], 8, false),
      ([(1, writing), (8, { failedSlot lateWaiting with shadow := ⟨some 1008, some 3, false⟩ })], 1, false)].all
      (fun c : Table Slot × Nat × Bool =>
        let s0 := hall.withPaperRecord 3 (aPaper .overtime)
        let s : State := { s0 with rsu := { s0.rsu with slots := c.1 } }
        let x := (s.slot? c.2.1).getD finished
        s.clean && s.tablesSorted && !x.suspect && x.cand.paper == 3 && s.paper? 3 == some (aPaper .overtime)
          && (x.cand.seat.isNone || x.cand.seat == some 2 && (s.seat? 2).isSome && (s.ringsOf 0).waiters == [])
          && s.sli.notices.length + 2 < 64
          && (List.all s.rsu.slots fun e => e.1 == c.2.1 || e.2.shadow.paper != some 3 ||
            (if e.2.suspect then e.2.shadow.clockNone else
              e.2.clock.state == .none || e.2.clock.state == .stopped || e.2.clock.state == .expired)) == c.2.2) = true := by
  decide

/-- Occupants held from READING and RUNNING, and suspect ones, at a HELD and an OCCUPIED seat. -/
theorem test_witness_LampTable_occupants :
    [(SeatState.held, { aClock .held with before := some .reading }), (.occupied, { aClock .held with before := some .running })].all
      (fun c =>
        let x := aSlot (aCand 99999999 3 .seated (some 2)) c.2
        let s := (hall.withSeat 2 (aSeat 3 (some 3) c.1 (some 1) (some 3))).withSlot 1 x.cand x.clock
        let t : State := { s with rsu := { s.rsu with slots := s.rsu.slots.put 1 (failedSlot x) } }
        s.seatOfDesk 3 == some 2 && s.desk? 3 == some (aDesk .online) && s.slot? 1 == some x && !x.suspect
          && x.clock.before != some .paused && (t.slot? 1).map (·.suspect) == some true
          && (t.seat? 2).map (·.occupant) == some (some 1)) = true := by decide

/-- A FINISHED candidate's entry in a ring, and in a round. -/
theorem test_witness_AllowanceAndBookletRequests_entry :
    [collecting (aCollector .idle) ⟨[anEntry 2 4], [anEntry 3 8], []⟩,
      collecting { aCollector .round with zone := some 0, round := [anEntry 3 8, anEntry 2 4], timer := some 9 } ⟨[], [], []⟩].all
      (fun s => s.ready && s.clean && s.slotOf 1004 == some 4 && s.slot? 4 == some finished) = true := by decide

/-- R120: the count asked for, clamped to 8, is what the entry then expects. -/
theorem test_booklets_expected :
    (((next? (exec (.setBooklets 1004 9) (collecting (aCollector .idle) ⟨[anEntry 2 4], [anEntry 3 8], []⟩))).map fun t =>
      (((t.ringsOf 0).urgent ++ (t.ringsOf 0).main).map (·.booklets)))) = some [8, 2] := by decide

theorem test_witness_RetryAndRescoreStepsEnd_suspect :
    [none, some ([.void] : List KeyEntry)].all (fun key =>
      let op := some ⟨.rescore 5 staleResult key 1, Settings.reset⟩
      let s := markers [(5, { staleResult with suspect := true }), (8, staleResult)] [] [] (some ⟨3, none, false, 1, 0⟩) op
      let t0 := markers [(4, staleResult), (5, staleResult)] [] [] (some ⟨3, some 4, false, 1, 0⟩) op
      let t : State := { t0 with upsets := [⟨.result 5, 2, true⟩], fcu := { t0.fcu with level := .quiet } }
      s.calm && s.clean && s.fcu.held == [] && s.sli.notices.length + 1 < 64
        && t.calm && t.mru.results.find 5 == some staleResult && t.slot? 5 == some collected
        && collected.shadow.paper == some 3 && t.fcu.capture == none && t.fcu.held == []) = true := by decide

/-- A step on a suspect record whose slot ASSIGN SHEET filled anew (the model's choice, log entry 69): a replacement that is
suspect is removed and counted, another kept and not counted. -/
theorem test_rescore_replaced_suspect :
    ([true, false].map fun bad =>
      let new : ResultRecord := { aResult with serial := 8, suspect := bad }
      (next? (exec .rescoreStepEnd (markers [(5, new), (8, staleResult)] [] [] (some ⟨3, none, false, 0, 0⟩)
        (some ⟨.rescore 5 { aResult with suspect := true } none 0, Settings.reset⟩)))).map fun t =>
          (t.mru.pass, (t.mru.results.find 5).map (·.serial)))
    = [some (some ⟨3, some 5, false, 0, 1⟩, none), some (some ⟨3, some 5, false, 0, 0⟩, some 8)] := by decide

/-- R162: a read of a step's own that fails abandons it and makes the pass repeat, though its snapshot holds no key. -/
theorem test_rescore_read_fails :
    (let t0 := markers [(5, staleResult)] [] [] (some ⟨3, none, false, 1, 0⟩)
       (some ⟨.rescore 5 staleResult none 1, Settings.reset⟩)
     (next? (exec .rescoreStepEnd { t0 with upsets := [⟨.result 5, 2, true⟩] })).map fun t =>
       (t.mru.pass, (t.mru.results.find 5).map (·.suspect)))
    = some (some ⟨3, none, false, 1, 0⟩, some true) := by decide

/-- Steps that make, answer and leave calls, and that change a seat with a call, from a lawful state. -/
theorem test_witness_NoticeQueueNeverExceeds64_calls :
    lawfulHall.seatsLawful = true ∧ lawfulHall.callsSeated = true ∧ lawfulHall.dbc.calls ≠ []
    ∧ [Instr.answerCall 1, .repairSeat 1 (seatFields 1 none none 0), .setSeat 1 0 (some 77) 0, .breakGrant 99999999].all
        (fun i => (next? (step { lawfulHall with pending := [i] })).isSome) = true := by decide

/-- The held seat of an ADMITTED candidate with no clock, unable to be released: suspect, FREE, or gone. -/
theorem test_witness_WithdrawRequest_seat :
    [some { aSeat 2 (some 2) .held (some 0) (some 1) with suspect := true }, some (aSeat 2 (some 2) .free none none), none].all
      (fun w : Option Seat =>
        let s : State := match w with
          | some r => hall.withSeat 1 r
          | none => { hall with hmu := { hall.hmu with seats := [] } }
        s.ready && s.clean && s.seat? 1 == w && s.slotOf 0 == some 0 && s.slot? 0 == some notSeatedYet
          && notSeatedYet.cand.seat == some 1 && notSeatedYet.clock.state == .none
          && (next? (exec (.withdraw 0) s)) == some (s.refused 36 (if (w.map (·.suspect)).getD false then .suspect else .wrongState)))
      = true := by decide

/-! ### Witnesses of the sixth review round -/

/-- A map of zone 0 with rows of 5 and of 4 seats under CROSS, and zone 2 with a row of 2 under SIDE; seat 0 is OCCUPIED for
paper 3. -/
def twoRows : State :=
  { base with hmu :=
    { zones := [(0, ⟨.opened, .cross, .admits, .admits⟩), (2, ⟨.opened, .side, .admits, .admits⟩)]
      rows := [⟨0, 1, 5, 0⟩, ⟨0, 2, 4, 5⟩, ⟨2, 1, 2, 9⟩]
      seats := [(0, { smallSeat 0 1 1 with state := .occupied, occupant := some 0, lastPaper := some 3 }), (1, smallSeat 0 1 2),
        (2, smallSeat 0 1 3), (3, smallSeat 0 1 4), (4, smallSeat 0 1 5), (5, smallSeat 0 2 1), (6, smallSeat 0 2 2),
        (7, smallSeat 0 2 3), (8, smallSeat 0 2 4), (9, smallSeat 2 1 1), (10, smallSeat 2 1 2)] } }

theorem test_witness_SearchConsidersOneSeat_rows : twoRows.rowsLawful = true ∧ twoRows.spacingHolds 3 5 = false
    ∧ twoRows.spacingHolds 3 6 = true ∧ twoRows.spacingHolds 2 5 = true := by decide

/-- R45's own example: rows of 5 and of 4 seats are filled 1, 3, 5, 2, 4 and then 1, 3, 2, 4 (by hand from the rule). -/
theorem test_fill_order_of_the_spec :
    (twoRows.fillOrder 0).map (fun n => (twoRows.seat? n).map fun t => (t.row, t.position))
      = [(1, 1), (1, 3), (1, 5), (1, 2), (1, 4), (2, 1), (2, 3), (2, 2), (2, 4)].map some := by decide

/-- R6: the neighbours of a seat under CROSS and under SIDE. -/
theorem test_neighbours :
    ([1, 4, 5, 9].all fun n => (twoRows.neighbours n).length == (if n = 1 then 3 else if n = 9 then 1 else if n = 4 then 1 else 2)) = true
    ∧ (∀ m ∈ [0, 2, 6], m ∈ twoRows.neighbours 1) ∧ (∀ m ∈ [0, 6], m ∈ twoRows.neighbours 5) := by decide

/-- The contact raises a hold over clocks that run, read and pause. -/
theorem test_witness_HoldContactSamples_raise :
    (let s := hall.withSlot 8 lateWaiting.cand (aClock .paused)
     s.calm = true ∧ s.clean = true ∧ s.ssu.quiet = false ∧ s.ssu.contact = false ∧ s.ssu.held = false
     ∧ s.sli.notices.length < 64 ∧ (s.slot? 1).map (·.clock.state) = some .running
     ∧ (s.slot? 10).map (·.clock.state) = some .reading ∧ (s.slot? 6).map (·.suspect) = some true) := by decide

theorem test_witness_BreaksAndAddedTime_range :
    hall.slotOf 100000000 = none ∧ 99999999 < 100000000 ∧ 1 ≤ 30
    ∧ hall.slotOf 1006 = some 6 ∧ hall.slot? 6 = some damaged ∧ damaged.suspect = true := by decide

/-- R97: a number no slot can hold is NOT FOUND for GRANT TIME. -/
theorem test_grant_time_number :
    exec (.grantTime 100000000 30) hall = .next (hall.refused 59 .notFound) := rfl

/-- CLEAR SITTING with a card at each door, parity errors unsettled and faults held, at each level. -/
theorem test_witness_ClearSittingKeepsTheConfiguration_notices :
    [Reporting.quiet, .standard, .record].all (fun l =>
      let s : State := { quietHall with
        rsu := { quietHall.rsu with door0 := ⟨some 1002, none⟩, door1 := ⟨some 1006, none⟩ }
        mru := { quietHall.mru with resendWait := [⟨.row, some 4⟩, ⟨.frameClose, none⟩] }
        fcu := { quietHall.fcu with level := l, held := [⟨.desk, .desk, some 300, .corrected, 77⟩] } }
      s.ready && s.clean && !s.ssu.held && s.sli.notices.length + 10 ≤ 64
        && s.ssu.papers.all fun e => e.2.state == .defined || e.2.state == .admitting || e.2.state == .closed) = true := by decide

/-- A round whose entry's candidate is suspect and whose seat is gone. -/
def roundOfTheLost : State :=
  { inBatch inARound (.confirm 7) 4 [] false none with
    hmu := { hall.hmu with zones := [], rows := [], seats := [] }
    rsu := { inARound.rsu with slots := inARound.rsu.slots.put 1 (failedSlot (aSlot (aCand 99999999 3 .finished (some 2)) (aClock .stopped))) } }

theorem test_witness_ConfirmationCollectsAScript_lost :
    (let s := roundOfTheLost
     s.calm = true ∧ s.clean = true ∧ s.deaf = false ∧ (s.collectorOf 7).state ≠ .off
     ∧ (s.collectorOf 7).round.find? (fun e => e.seat == 2) = some (anEntry 2 1) ∧ s.seat? 2 = none
     ∧ (s.slot? 1).map (·.suspect) = some true
     ∧ s.sli.taken = some (.batch ⟨.confirm 7, none, [], false, false⟩))
    ∧ (let s : State := { roundOfTheLost with rsu := inARound.rsu }
       s.calm = true ∧ s.clean = true ∧ s.seat? 2 = none ∧ (s.slot? 1).map (·.suspect) = some false) := by decide

/-- R127, check 4: such an entry is SUSPECT. -/
theorem test_lost_entry_is_suspect :
    (next? (exec (.confirmEntry 2 2 true) roundOfTheLost)).map (·.sli.taken)
      = some (some (.batch ⟨.confirm 7, none, [⟨.refused, .suspect, []⟩], false, false⟩)) := by decide

/-- A frame open in buffer 1, whole and one row short, beside a buffer 0 that is FREE, FULL or MARKING. -/
theorem test_witness_ScanLinkFrames_buffer1 :
    [Buffer.mk .free none none [] false, ⟨.full, some 0, some 1, [], true⟩, ⟨.marking, some 0, some 1, [], false⟩].all (fun b =>
      [sheetRows, sheetRows.dropLast, []].all fun rows =>
        let s : State := { hall with mru := { hall.mru with buffer0 := b, buffer1 := ⟨.filling, some 0, some 2, rows, false⟩ } }
        s.calm && !s.mru.discarding && s.mru.resendWait == [] && s.mru.buffer0.state != .filling
          && s.bufferOf 1 == ⟨.filling, some 0, some 2, rows, false⟩ && s.mru.forms.find 0 == some 1) = true := by decide

/-- Both buffers FULL in either order, the first held or not. -/
theorem test_witness_MarkerTakesAndEndsASheet_both :
    [([], 1, [0], false, false), ([0], 1, [], true, false), ([1], 0, [], false, true), ([], 0, [1], false, true)].all
      (fun c : List Nat × Nat × List Nat × Bool × Bool =>
        let full (n : Nat) (h : Bool) : Buffer := ⟨.full, some 0, some n, sheetRows, h⟩
        let s : State := { hall with mru := { hall.mru with
          buffer0 := full 1 c.2.2.2.1, buffer1 := full 2 c.2.2.2.2, fullOrder := c.1 ++ c.2.1 :: c.2.2.1 } }
        s.calm && s.mru.marker == none && (c.1.all fun b => (s.bufferOf b).held) && !(s.bufferOf c.2.1).held
          && !c.2.2.1.contains c.2.1) = true := by decide

/-- The sheet of 1004 in buffer 1, with a snapshot whose key's generation has moved on, and faults held. -/
def markingBehind (g : Progress) : State :=
  { hall with
    mru := { hall.mru with
      marker := some ⟨.sheet 1 g, .reset⟩, buffer1 := ⟨.marking, some 0, some 1, sheetOf1004, false⟩
      keys := [(12, ⟨some [.correct 1 4], 3⟩)] }
    fcu := { hall.fcu with held := [⟨.desk, .desk, some 300, .corrected, 77⟩] } }

theorem test_witness_MarkerTakesAndEndsASheet_behind :
    (let s := markingBehind (.snapshot ⟨⟨3, 0, 1004⟩, [.correct 1 4], 2⟩)
     s.calm = true ∧ s.clean = true ∧ s.bufferOf 1 = ⟨.marking, some 0, some 1, sheetOf1004, false⟩
     ∧ s.slotOf 1004 = some 4 ∧ s.slot? 4 = some finished ∧ s.mru.results.find 4 = none ∧ (s.paper? 3).isSome = true
     ∧ (s.keyOf 3 0).generation = 3 ∧ s.sli.notices.length + s.fcu.held.length < 64)
    ∧ ((markingBehind (.decoded ⟨3, 0, 1004⟩)).keyOf 3 0).key = some [.correct 1 4] := by decide

/-- R159, R161: such a sheet's result is stale, its paper pending, and the held fault follows SHEET MARKED. -/
theorem test_stale_when_written :
    (next? (exec .sheetOperationEnd (markingBehind (.snapshot ⟨⟨3, 0, 1004⟩, [.correct 1 4], 2⟩)))).map (fun t =>
      ((t.mru.results.find 4).map (·.stale), t.mru.rescorePending, t.sli.notices.map (·.kind), t.fcu.held))
      = some (some true, [3], [.sheetMarked, .fault], []) := by decide

/-- The failures of an operation past its decode: no key left, and checks 2 to 6 at the writing step. -/
theorem test_witness_OperationFails :
    (hall.OperationFails 0 [] (.decoded ⟨3, 0, 1004⟩) ⟨.noKey, some 1004, some 0, false⟩)
    ∧ ((marking1004 [(12, ⟨some [.correct 1 4], 1⟩)]).OperationFails 0 [] (.decoded ⟨3, 0, 1002⟩)
      ⟨.notSitting, some 1002, none, false⟩)
    ∧ (hall.OperationFails 0 [] (.snapshot ⟨⟨3, 0, 1008⟩, [.correct 1 4], 0⟩) ⟨.earlySheet, some 1008, none, false⟩)
    ∧ (hall.OperationFails 0 [] (.snapshot ⟨⟨3, 0, 1006⟩, [.correct 1 4], 0⟩) ⟨.notSitting, some 1006, none, true⟩)
    ∧ (hall.OperationFails 0 [] (.snapshot ⟨⟨3, 0, 7⟩, [.correct 1 4], 0⟩) ⟨.unknownCandidate, some 7, none, false⟩)
    ∧ ((markers [(4, aResult)] [] [] none none).OperationFails 0 [] (.snapshot ⟨⟨3, 0, 1004⟩, [.correct 1 4], 0⟩)
      ⟨.duplicate, some 1004, none, false⟩) := by
  refine ⟨.inl ⟨by decide, rfl⟩, .inr ⟨by decide, .inr ⟨2, expected, by decide, by decide, .inr ⟨by decide, .inl ⟨by decide, rfl⟩⟩⟩⟩,
    .inr ⟨8, lateWaiting, by decide, by decide, .inr ⟨by decide, .inr (.inl ⟨by decide, rfl⟩)⟩⟩,
    .inr ⟨6, damaged, by decide, by decide, .inl ⟨by decide, rfl⟩⟩, .inl ⟨by decide, rfl⟩,
    .inr ⟨4, finished, by decide, by decide, .inr ⟨by decide, .inr (.inr ⟨by decide, by decide, rfl⟩)⟩⟩⟩

/-- Operations past their decode that fail, of a sheet and of a retry, with faults held. -/
theorem test_witness_operations_past_decode :
    [Progress.decoded ⟨3, 0, 1004⟩, .snapshot ⟨⟨3, 0, 1008⟩, [.correct 1 4], 0⟩].all (fun g =>
      let held : Fcu := { hall.fcu with held := [⟨.desk, .desk, some 300, .corrected, 77⟩] }
      let s : State := { marking g with fcu := held }
      let r : State := { markers [] [anException] [] none (some ⟨.retry 9 g, .reset⟩) with fcu := held }
      s.calm && s.clean && s.bufferOf 0 == ⟨.marking, some 0, some 1, [[30, 210]], false⟩
        && s.mru.exceptions.length < 32 && s.sli.notices.length + s.fcu.held.length < 64
        && r.calm && r.clean && r.mru.exceptions.find? (fun y => y.number == 9) == some anException
        && r.sli.notices.length + r.fcu.held.length < 64) = true := by decide

/-- The entry of a retry in flight, discarded with a fault held (R165). -/
theorem test_witness_ExceptionSheetRequests_abandons :
    (let s : State := { markers [] [anException] [] none (some ⟨.retry 9 .taken, .reset⟩) with
       fcu := { hall.fcu with held := [⟨.desk, .desk, some 300, .corrected, 77⟩] } }
     s.ready = true ∧ s.exception? 9 = some anException ∧ s.retrying 9 = true
     ∧ s.sli.notices.length + s.fcu.held.length ≤ 64) := by decide

/-- A marker BUSY at level RECORD, the capture record empty or not, with 7 and with 8 faults held. -/
theorem test_witness_TableReadsFindWrongBits_busy :
    [(none : Option FaultReport), some ⟨.desk, .desk, some 3, .lost, 7⟩].all (fun c =>
      [7, 8].all fun n =>
        let f : FaultReport := ⟨.desk, .desk, some 300, .corrected, 77⟩
        let s : State := { marking .taken with fcu := ⟨.record, c, false, List.replicate n f⟩ }
        s.fcu.level == .record && s.mru.marker != none && s.fcu.capture == c && s.fcu.held.length == n) = true := by decide

/-- Slot 6, suspect, in a ring or a round at seat 4 or 3, or in none, with or without waiters; a repair to FINISHED at seat
4, and one to COLLECTED. -/
theorem test_witness_RepairCandidate_entries :
    [(Rings.mk [] [anEntry 4 6] [], 4), (⟨[anEntry 3 6], [anEntry 2 1], []⟩, 4), (⟨[], [], [7]⟩, 4), (⟨[], [], []⟩, 5)].all
      (fun c : Rings × Nat =>
        let t := damagedAt (if c.2 = 4 then .occupied else .free) .overtime
        let s : State := { if c.2 = 4 then t else t.withSeat 4 (aSeat 5 none .free none none) with
          clu := { rings := [(0, c.1)], collectors := [(7, { aCollector .waiting with zone := some 0 })] } }
        let f := repairFields c.2 (if c.2 = 4 then some 4 else none) 5
        s.ready && s.clean && !s.allocating 6 && (s.slot? 6).map (·.suspect) == some true && (s.paper? 3).isSome
          && ((s.slot? 6).map (·.shadow.paper)) == some (some 4) && s.sli.notices.length + 5 ≤ 64
          && (List.all s.rsu.slots fun e => e.1 == 6 || e.2.shadow.number != some 1006)
          && ((repairedCandidate 6 f).bind fun cg => (s.paper? 3).map fun r => s.candidateConflict 6 cg.1 cg.2 r) == some false)
        = true := by decide

/-- UNUSED of a slot in a round of its own, whose shadow's paper is OVERTIME with no other clock. -/
theorem test_witness_RepairCandidate_unused :
    (let t := damagedAt .free .writing
     let s : State := { t.withSeat 4 (aSeat 5 none .free none none) with
       clu := { rings := [(0, .empty)], collectors := [(7, { aCollector .round with zone := some 0, round := [anEntry 4 6], timer := some 9 })] } }
     s.ready = true ∧ s.clean = true ∧ s.allocating 6 = false ∧ s.occupies 6 = false ∧ 6 ∉ s.sal.wait
     ∧ s.mru.results.find 6 = none ∧ (s.slot? 6).map (fun x => (x.suspect, x.shadow.paper)) = some (true, some 4)
     ∧ (s.paper? 4).map (·.state) = some .overtime ∧ (s.findEntry 6).isSome = true ∧ s.sli.notices.length + 4 ≤ 64) := by decide

/-- R47, R49: a search that began at place 0, the cursor being beyond the seats, begins its second pass there too, though
the zone has since grown past the cursor. -/
theorem test_second_pass_starts_where_the_first_did :
    (let s := serving { twoRows with sal := { twoRows.sal with cursors := [(24, 5)] } } 2 3 (.searching ⟨[0], true, false, 0, 9, false⟩)
     (next? (exec .searchSeat s)).map (fun t => t.sal.serving.map (·.stage)))
    = some (some (.searching ⟨[0], true, true, 0, 1, false⟩)) := by decide

/-- A LOAD CANDIDATES record being taken while the slot it rewrites, and one it refuses, hold wrong bits. -/
theorem test_witness_RosterEntryIsTaken_unread :
    [[], [⟨.candidate 2, 1, true⟩], [⟨.candidate 3, 0, true⟩, ⟨.candidate 2, 0, false⟩]].all (fun u : List Upset =>
      let s : State := { inBatch hall .loadCandidates 14 [] false none with upsets := u }
      s.calm && !s.deaf && s.slot? 2 == some expected && expected.cand.state == .expected && s.slot? 3 == some waiting
        && waiting.cand.state != .expected) = true := by decide

/-- R177: the rewrite of a slot is written without being read: it clears the slot's wrong bits, and finds none. -/
theorem test_roster_entry_is_not_read :
    (next? (exec (.loadCandidatesEntry 2 777 1 0 5 none none none true)
      { inBatch hall .loadCandidates 14 [] false none with
        upsets := [⟨.candidate 2, 1, true⟩, ⟨.candidate 3, 0, false⟩] })).map (fun t =>
      ((t.slot? 2).map (fun x => (x.suspect, x.cand.number)), t.upsets, t.sli.notices))
      = some (some (false, 777), [⟨.candidate 3, 0, false⟩], []) := by decide

/-- Rounds of a size below, at and beyond the urgent ring's entries, and of all there are. -/
theorem test_witness_CollectorRequests_rounds :
    [1, 2, 3, 4].all (fun n =>
      let s := collecting { aCollector .idle with size := n } ⟨[anEntry 1 1, anEntry 2 2], [anEntry 3 3, anEntry 4 4], []⟩
      s.ready && (s.collectorOf 7).state == .idle && (s.collectorOf 7).zones.contains 0 && (s.zone? 0).isSome
        && (s.ringsOf 0).urgent != []) = true := by decide

/-- R123: a round of 3 takes the urgent ring's two entries and the first of the main ring. -/
theorem test_round_from_both_rings :
    (next? (exec (.takeRound 7 0) (collecting { aCollector .idle with size := 3 }
      ⟨[anEntry 1 1, anEntry 2 2], [anEntry 3 3, anEntry 4 4], []⟩))).map (fun t =>
        (t.ringsOf 0, (t.collectorOf 7).round.map (·.seat))) = some (⟨[], [anEntry 4 4], []⟩, [1, 2, 3]) := by decide

/-- The hall with paper 3 CLOSED, a candidate of it COLLECTED with a discrepancy, and another perhaps FINISHED. -/
def closedHall (another : Bool) : State :=
  let s := (hall.withPaperRecord 3 (aPaper .closed)).withSlot 5
    { aCand 1005 3 .collected none with returned := some 3, discrepancy := true } (aClock .stopped)
  if another then s.withSlot 1 (aCand 99999999 3 .finished (some 2)) (aClock .stopped) else s

theorem test_witness_DeferAndDirectCollection_closed :
    [hall, closedHall false, closedHall true].all (fun s =>
      s.ready && s.clean && s.tablesSorted && s.slot? 4 == some finished && !finished.suspect
        && finished.cand.state == .finished && finished.cand.seat == none && s.sli.notices.length + 1 < 64
        && min 2 8 == finished.cand.issued && min 9 8 != finished.cand.issued) = true := by decide

/-- R133, R136: the last script of a CLOSED paper, its count right: PAPER COLLECTED with total 3 + 2 and one discrepancy. -/
theorem test_direct_collection_ends_a_paper :
    (next? (exec (.collectDirect 4 2) (closedHall false))).map (fun t => t.sli.notices.map fun n => (n.kind, n.fields))
      = some [(.paperCollected, [u8 3, u16 5, u16 1])] := by decide

/-- Replies of desks ONLINE, QUIET and counting a long press, under NORMAL and INVERTED senses, with no press, with one
and with several. -/
theorem test_witness_DeskReplyIsTaken_accepted :
    [Buttons.none, ⟨true, true, false, true⟩].all (fun v =>
      [(aDesk .online, 16#8, 235#8), ({ aDesk .online with longPress := some 4, window := some 3 }, 68#8, 183#8),
        ({ aDesk .quiet with cause := some .returned }, 240#8, 11#8), (aDesk .quiet, 0#8, 251#8)].all
        fun c : Desk × Byte × Byte =>
        let s0 := pressing 3 c.1 false
        let s : State := { s0 with dbc := { s0.dbc with inverted := v } }
        s.calm && s.dbc.exchange == some ⟨3, false, false⟩ && s.desk? 3 == some c.1
          && (0 + 3 + c.2.1 + 2 + c.2.2 : Byte) == 0 && (2 : Byte).getLsbD 0 == c.1.expected && !c.1.resample) = true
    ∧ (pressing 3 { aDesk .online with longPress := some 0 } false).seatOfDesk 3 = some 2 := by decide

/-- R107: under INVERTED a low level is a press, and a latch is taken only after a released level. -/
theorem test_inverted_presses :
    pressesOf ⟨true, true, true, true⟩ ⟨true, true, false, false⟩ ⟨true, false, false, true⟩
        (Buttons.sensed ⟨false, true, false, true⟩ ⟨true, true, true, true⟩) = [.finish, .call]
    ∧ pressesOf .none ⟨true, false, false, true⟩ ⟨true, false, true, false⟩ ⟨true, true, true, false⟩
        = [.present, .finish, .breakKey] := by decide

/-- A press at a suspect seat, and at one with a suspect occupant; and a CALL press at an OCCUPIED seat. -/
theorem test_witness_DeskReplyIsTaken_suspect :
    (let d := { aDesk .online with presses := [.call], window := some 3, longPress := some 2 }
     let s := pressing 3 d false
     let broken := s.withSeat 2 { aSeat 3 (some 3) .occupied (some 1) (some 3) with suspect := true }
     let lost : State := { s with rsu := { s.rsu with slots := s.rsu.slots.put 1 (failedSlot writing) } }
     [s, broken, lost].all (fun u => u.clean && u.desk? 3 == some d && u.seatOfDesk 3 == some 2) = true
     ∧ (broken.seat? 2).map (·.suspect) = some true ∧ (lost.slot? 1).map (·.suspect) = some true
     ∧ (s.seat? 2).map (fun r => (r.suspect, r.state, r.occupant)) = some (false, .occupied, some 1)
     ∧ (s.slot? 1).map (·.suspect) = some false) := by decide

/-- R107, R111: PRESENT and FINISH in one reply at the HELD seat: the candidate is SEATED, and then the window opens. -/
theorem test_presses_of_one_reply :
    (next? (exec (.deskReply 0 2 48 0 206) (pressing 2 (aDesk .online) false))).map (fun t =>
      ((t.seat? 1).map (·.state), (t.desk? 2).map (fun d => (d.window, d.presses))))
      = some (some .occupied, some (some 10, [])) := by decide

/-- A sheet whose read of its candidate fails, at the decode and at the writing step. -/
theorem test_witness_MarkerTakesAndEndsASheet_read :
    [Progress.taken, .snapshot ⟨⟨3, 0, 1004⟩, [.correct 1 4], 1⟩].all (fun g =>
      let s0 := marking1004 [(12, ⟨some [.correct 1 4], 1⟩)]
      let s : State := { s0 with
        mru := { s0.mru with marker := some ⟨.sheet 0 g, .reset⟩ }, upsets := [⟨.candidate 4, 1, true⟩]
        fcu := { s0.fcu with level := .quiet } }
      s.calm && s.bufferOf 0 == ⟨.marking, some 0, some 1, sheetOf1004, false⟩
        && decodedNumber (outcomesOf .reset sheetOf1004) == some 1004 && s.slotOf 1004 == some 4
        && s.slot? 4 == some finished && !finished.suspect && s.fcu.capture == none && s.mru.exceptions == []
        && s.sli.notices.length + s.fcu.held.length < 64) = true := by decide

/-- R148: the entry counter at 65,534 passes over 65,534, 65,535 and 0, which entries hold. -/
theorem test_entry_counter_passes_over :
    (let s0 := marking .taken
     let held := [0, 65535, 65534].map fun n => { anException with number := n }
     (next? (exec .sheetOperationEnd { s0 with mru := { s0.mru with exceptions := held, counter := 65534 } })).map fun t =>
       (t.mru.counter, t.mru.exceptions.map (·.number))) = some (2, [0, 65535, 65534, 1]) := by decide

/-- The entry numbers about the counter's wrap: the counter's own value free, and the third after it. -/
theorem test_witness_MarkerTakesAndEndsASheet_numbers :
    (65535 + 0) % 65536 ∉ ([] : List Nat) ∧ (65534 + 3) % 65536 ∉ [0, 65535, 65534]
    ∧ ((List.range 3).all fun j => [0, 65535, 65534].contains ((65534 + j) % 65536)) = true ∧ 65534 < 65536 := by decide

/-- Passes with no slot left: just started, to begin anew, and at their end with the again flag set. -/
theorem test_witness_MarkerTakesAndEndsASheet_passes :
    [(markers [(4, aResult)] [] [3, 15] none none, false), (markers [(4, staleResult)] [] [] (some ⟨3, some 5, true, 1, 0⟩) none, true),
      (markers [(4, aResult)] [] [] (some ⟨3, some 5, true, 1, 0⟩) none, false)].all (fun c : State × Bool =>
      c.1.calm && c.1.mru.marker == none && c.1.mru.results.sorted && (c.1.mru.exceptions.all fun e => !e.queued)
        && c.1.mru.fullOrder == [] && (List.find? (fun e : Nat × ResultRecord => (e.2.stale || e.2.suspect)
          && ((c.1.slot? e.1).map (·.shadow.paper)) == some (some 3)) c.1.mru.results).isSome == c.2) = true := by decide

/-- R139, R145: a sheet whose references lie 64 apart becomes FULL. -/
theorem test_witness_LevelsAndPercentagesStayInRange_references :
    (let s : State := { hall with mru := { hall.mru with
       buffer0 := ⟨.filling, some 0, some 1, [30, 94] :: sheetRows.drop 1, false⟩ } }
     s.calm = true ∧ (s.bufferOf 0).state ≠ .full
     ∧ ((next? (exec (.frameClose 11) s)).map fun t => (t.bufferOf 0).state) = some .full) := by decide

end Sys2Proof.Tests
end

/-! PROOFS. OPEN ZONE, CLOSE ZONE and SET ADMISSION (R3): what the three requests share is stated once, and each
request is then a use of it. -/

namespace Sys2Proof.Machine

/-! ### Named values of a request -/

theorem AdmissionCode.ofCode_eq_none_iff {n : Nat} : AdmissionCode.ofCode n = Option.none ↔ 3 ≤ n :=
  List.getElem?_eq_none_iff

theorem AdmissionCode.exists_ofCode {n : Nat} (h : n < 3) : ∃ a, AdmissionCode.ofCode n = some a :=
  ⟨_, List.getElem?_eq_getElem h⟩

theorem CandidateClass.ofCode_eq_none_iff {n : Nat} : CandidateClass.ofCode n = none ↔ 2 ≤ n :=
  List.getElem?_eq_none_iff

theorem CandidateClass.exists_ofCode {n : Nat} (h : n < 2) : ∃ c, CandidateClass.ofCode n = some c :=
  ⟨_, List.getElem?_eq_getElem h⟩

/-! ### Requests that name a zone -/

/-- A request that names a zone index: BAD VALUE outside 0 to 7 and NOT FOUND for an undefined zone, and otherwise
what `act` does with the zone's record (R3). The requests of R3 are tied to it by the `_eq` lemmas below. -/
def withDefinedZone (z : Nat) (s : State) (act : Zone → Response) : Response :=
  if Config.zoneCount ≤ z then refuse s .badValue
  else match s.zone? z with
    | none => refuse s .notFound
    | some r => act r

section
variable {z : Nat} {s : State} {act : Zone → Response}

theorem withDefinedZone_outside (hz : 8 ≤ z) : withDefinedZone z s act = refuse s .badValue := if_pos hz

theorem withDefinedZone_undefined (hz : z < 8) (hn : s.zone? z = none) :
    withDefinedZone z s act = refuse s .notFound := by
  simp [withDefinedZone, Config.zoneCount, Nat.not_le.mpr hz, hn]

theorem withDefinedZone_defined {r : Zone} (hz : z < 8) (hr : s.zone? z = some r) :
    withDefinedZone z s act = act r := by
  simp [withDefinedZone, Config.zoneCount, Nat.not_le.mpr hz, hr]

end

theorem takeOpenZone_eq (z : Nat) (s : State) : takeOpenZone z s = withDefinedZone z s fun r =>
    done ((s.withZone z { r with state := .opened }).triggerIf (r.state == .closed)) [] := rfl

theorem takeCloseZone_eq (z : Nat) (s : State) : takeCloseZone z s = withDefinedZone z s fun r =>
    done (s.withZone z { r with state := .closed }) [] := rfl

/-- SET ADMISSION with both named values recognized. -/
theorem takeSetAdmission_eq {c a : Nat} {cls : CandidateClass} {code : AdmissionCode}
    (hc : CandidateClass.ofCode c = some cls) (ha : AdmissionCode.ofCode a = some code) (z : Nat) (s : State) :
    takeSetAdmission z c a s = withDefinedZone z s fun r =>
      done ((s.withZone z (r.withCode cls code)).triggerIf (r.code cls != code)) [] := by
  simp only [takeSetAdmission, hc, ha]
  rfl

theorem takeSetAdmission_unrecognized {c a : Nat} (h : 2 ≤ c ∨ 3 ≤ a) (z : Nat) (s : State) :
    takeSetAdmission z c a s = refuse s .badValue := by
  rcases h with hc | ha
  · simp only [takeSetAdmission, CandidateClass.ofCode_eq_none_iff.mpr hc]
  · simp only [takeSetAdmission, AdmissionCode.ofCode_eq_none_iff.mpr ha]
    cases CandidateClass.ofCode c with
    | none => rfl
    | some cls => rfl

/-- An index outside 0 to 7 is refused for the same reason whether or not the named values are recognized. -/
theorem takeSetAdmission_outside {z : Nat} (hz : 8 ≤ z) (c a : Nat) (s : State) :
    takeSetAdmission z c a s = refuse s .badValue := by
  by_cases h : 2 ≤ c ∨ 3 ≤ a
  · exact takeSetAdmission_unrecognized h z s
  · obtain ⟨hc2, ha3⟩ := not_or.mp h
    obtain ⟨cls, hc⟩ := CandidateClass.exists_ofCode (Nat.not_le.mp hc2)
    obtain ⟨code, ha⟩ := AdmissionCode.exists_ofCode (Nat.not_le.mp ha3)
    rw [takeSetAdmission_eq hc ha, withDefinedZone_outside hz]

/-- Settles O2: the reply and the state of each request on a ready link, by where the zone index and the named
values lie. -/
theorem zoneStateRequests : Obligations.ZoneStateRequests := by
  unfold Obligations.ZoneStateRequests
  intro s hs
  refine ⟨fun z hz => ?outside, fun z c a h => ?unrecognized, fun z hz hn => ?undefined, fun z r hz hr => ?defined⟩
  case outside =>
    refine ⟨?_, ?_, fun c a => ?_⟩
    · rw [exec_openZone_ready hs, takeOpenZone_eq, withDefinedZone_outside hz, finishTaking_refuse]
    · rw [exec_closeZone_ready hs, takeCloseZone_eq, withDefinedZone_outside hz, finishTaking_refuse]
    · rw [exec_setAdmission_ready hs, takeSetAdmission_outside hz, finishTaking_refuse]
  case unrecognized =>
    rw [exec_setAdmission_ready hs, takeSetAdmission_unrecognized h, finishTaking_refuse]
  case undefined =>
    refine ⟨?_, ?_, fun c a hc2 ha3 => ?_⟩
    · rw [exec_openZone_ready hs, takeOpenZone_eq, withDefinedZone_undefined hz hn, finishTaking_refuse]
    · rw [exec_closeZone_ready hs, takeCloseZone_eq, withDefinedZone_undefined hz hn, finishTaking_refuse]
    · obtain ⟨cls, hc⟩ := CandidateClass.exists_ofCode hc2
      obtain ⟨code, ha⟩ := AdmissionCode.exists_ofCode ha3
      rw [exec_setAdmission_ready hs, takeSetAdmission_eq hc ha, withDefinedZone_undefined hz hn, finishTaking_refuse]
  case defined =>
    refine ⟨?_, ?_, fun a code ha => ?_⟩
    · rw [exec_openZone_ready hs, takeOpenZone_eq, withDefinedZone_defined hz hr, finishTaking_done]
    · rw [exec_closeZone_ready hs, takeCloseZone_eq, withDefinedZone_defined hz hr, finishTaking_done]
    · have setCode {c : Nat} {cls : CandidateClass} (hc : CandidateClass.ofCode c = some cls) :
          exec (.setAdmission z c a) s =
            .next (((s.withZone z (r.withCode cls code)).triggerIf (r.code cls != code)).replied 21 []) := by
        rw [exec_setAdmission_ready hs, takeSetAdmission_eq hc ha, withDefinedZone_defined hz hr, finishTaking_done]
      exact ⟨setCode (c := 0) rfl, setCode (c := 1) rfl⟩

end Sys2Proof.Machine

/-! PROOFS. Levels, row decisions and scores (R154, R155, R160), and the references of a frame that is accepted
(R139, R145): what each function of the marker answers is stated once, and the statement puts the parts together. -/

namespace Sys2Proof.Machine

/-! ### Normalization (R154) -/

section
variable {w b r : Nat}

theorem levelOf_white (h : r ≤ w) : levelOf w b r = 0 := if_pos h

theorem levelOf_black (hw : w < r) (hb : b ≤ r) : levelOf w b r = 255 := by
  rw [levelOf, if_neg (Nat.not_le.mpr hw), if_pos hb]

theorem levelOf_between (hw : w < r) (hb : r < b) :
    levelOf w b r = (255 * (r - w) + (b - w) / 2) / (b - w) := by
  rw [levelOf, if_neg (Nat.not_le.mpr hw), if_neg (Nat.not_le.mpr hb)]

theorem levelOf_le (w b r : Nat) : levelOf w b r ≤ 255 := by
  rcases Nat.lt_or_ge w r with hw | hw
  · rcases Nat.lt_or_ge r b with hb | hb
    · rw [levelOf_between hw hb]
      exact Nat.le_of_lt_succ (Nat.div_lt_of_lt_mul (by omega))
    · exact (levelOf_black hw hb).le
  · exact (levelOf_white hw).trans_le (Nat.zero_le _)

/-- Division after adding half the divisor gives the nearest whole number, a half rounded up. -/
theorem nearest_div {d x : Nat} (hd : 0 < d) :
    2 * d * ((x + d / 2) / d) ≤ 2 * x + d ∧ 2 * x + d < 2 * d * ((x + d / 2) / d + 1) := by
  have below : d * ((x + d / 2) / d) ≤ x + d / 2 := Nat.mul_div_le _ _
  have above : x + d / 2 < d * ((x + d / 2) / d + 1) := Nat.lt_mul_div_succ _ hd
  rw [Nat.mul_assoc, Nat.mul_assoc]
  omega

end

/-! ### The rows of an operation (R155) -/

theorem outcomesOf_cons (t : Settings) (w b : Byte) (more : List Byte) (rows : List (List Byte)) :
    outcomesOf t ((w :: b :: more) :: rows) =
      rows.map fun row => decideRow t (row.map fun r => levelOf w.toNat b.toNat r.toNat) := rfl

theorem highest_eq {l : List Nat} {d : Nat} (hd : d ∈ l) (hle : ∀ x ∈ l, x ≤ d) : highest l = d := by
  rw [highest, List.foldl_max, List.max?_eq_some_iff.mpr ⟨hd, hle⟩, Option.getD_some, Nat.zero_max]

theorem highest_mem {l : List Nat} (h : l ≠ []) : highest l ∈ l := by
  obtain ⟨d, hd⟩ := Option.isSome_iff_exists.mp (List.isSome_max?_of_ne_nil h)
  obtain ⟨hmem, hle⟩ := List.max?_eq_some_iff.mp hd
  exact (highest_eq hmem hle).symm ▸ hmem

/-- The bubble a row's outcome names is the first that holds the highest level. -/
theorem single_of_decideRow {t : Settings} {l : List Nat} {k : Nat} (h : decideRow t l = .single k) :
    k = l.findIdx (· == highest l) := by
  unfold decideRow at h
  dsimp only at h
  split_ifs at h
  exact (RowOutcome.single.inj h).symm

theorem decideRow_single_lt {t : Settings} {l : List Nat} {k : Nat} (hl : l ≠ []) (h : decideRow t l = .single k) :
    k < l.length := by
  rw [single_of_decideRow h]
  exact List.findIdx_lt_length_of_exists ⟨_, highest_mem hl, beq_self_eq_true _⟩

/-- R155's decision, from the highest level, the bubble that holds it first and the highest level of the others. -/
theorem decideRow_eq {l : List Nat} {d1 o1 d2 : Nat} (t : Settings) (hd1 : l[o1]? = some d1)
    (hfirst : ∀ j x : Nat, l[j]? = some x → x ≤ d1 ∧ (x = d1 → o1 ≤ j))
    (hd2 : ∃ j : Nat, j ≠ o1 ∧ l[j]? = some d2) (hle : ∀ j x : Nat, j ≠ o1 → l[j]? = some x → x ≤ d2) :
    decideRow t l = if d1 < t.light then .blank else if d1 < t.mark then .light
      else if t.mark ≤ d2 ∧ d1 - d2 < t.separation then .multiple else .single o1 := by
  have high : highest l = d1 := by
    refine highest_eq (List.mem_of_getElem? hd1) fun x hx => ?_
    obtain ⟨j, hj⟩ := List.mem_iff_getElem?.mp hx
    exact (hfirst j x hj).1
  have first : l.findIdx (· == d1) = o1 := by
    obtain ⟨ho, hget⟩ := List.getElem?_eq_some_iff.mp hd1
    refine (List.findIdx_eq ho).mpr ⟨beq_iff_eq.mpr hget, fun j hj => beq_eq_false_iff_ne.mpr fun hx => ?_⟩
    exact Nat.not_le.mpr hj ((hfirst j _ (List.getElem?_eq_getElem (hj.trans ho))).2 hx)
  have others : highest (l.eraseIdx o1) = d2 := by
    refine highest_eq (List.mem_eraseIdx_iff_getElem?.mpr hd2) fun x hx => ?_
    obtain ⟨j, hne, hj⟩ := List.mem_eraseIdx_iff_getElem?.mp hx
    exact hle j x hne hj
  simp only [decideRow, high, first, others, Bool.and_eq_true, decide_eq_true_eq]

/-! ### FRAME CLOSE (R139, R145) -/

theorem exec_frameClose_calm {s : State} (h : s.calm = true) (n : Nat) :
    exec (.frameClose n) s = .next (scanRecord .frameClose none (frameCloses n) s) :=
  congrArg Host.Outcome.next (settled_calm h _)

theorem State.bufferOf_congr {s t : State} (h0 : t.mru.buffer0 = s.mru.buffer0) (h1 : t.mru.buffer1 = s.mru.buffer1)
    (i : Nat) : t.bufferOf i = s.bufferOf i := by
  rw [State.bufferOf, State.bufferOf, h0, h1]

/-- A buffer after a write of one: the one written, or as it was. -/
theorem bufferOf_setBuffer (b : Nat) (r : Buffer) (s : State) (i : Nat) :
    (setBuffer b r s).bufferOf i = r ∨ (setBuffer b r s).bufferOf i = s.bufferOf i := by
  unfold setBuffer State.bufferOf
  split_ifs
  · exact .inl rfl
  · exact .inr rfl
  · exact .inr rfl
  · exact .inl rfl

theorem bufferOf_settleWaits (k : ScanKind) (row : Option Nat) (s : State) (i : Nat) :
    (settleWaits k row s).bufferOf i = s.bufferOf i := by
  have settling (f : ResendWait → FaultKind) (ws : List ResendWait) (t : State) :
      (ws.foldl (fun t w => settleWait (f w) w t) t).mru = t.mru := by
    induction ws generalizing t with
    | nil => rfl
    | cons w ws ih => rw [List.foldl_cons, ih, settleWait, takeFault_mru]
  unfold settleWaits
  exact State.bufferOf_congr (congrArg Mru.buffer0 (settling _ _ _)) (congrArg Mru.buffer1 (settling _ _ _)) i

/-- A frame that is rejected leaves its buffer FREE and the other as it was. -/
theorem bufferOf_rejectFrame (b : Nat) (c : RejectCause) (s : State) (i : Nat) :
    (rejectFrame b c s).bufferOf i = .initial ∨ (rejectFrame b c s).bufferOf i = s.bufferOf i := by
  have same : (rejectFrame b c s).bufferOf i = (setBuffer b .initial s).bufferOf i :=
    State.bufferOf_congr (congrArg Mru.buffer0 (notify_mru _ _ _)) (congrArg Mru.buffer1 (notify_mru _ _ _)) i
  rw [same]
  exact bufferOf_setBuffer b .initial s i

/-- What FRAME CLOSE makes of a buffer: FREE, or FULL with references 64 apart, or as it was. -/
theorem bufferOf_frameCloses (n : Nat) (s : State) (i : Nat) :
    (frameCloses n s).bufferOf i = .initial
    ∨ (references ((frameCloses n s).bufferOf i).rows).1 + 64 ≤ (references ((frameCloses n s).bufferOf i).rows).2
    ∨ (frameCloses n s).bufferOf i = s.bufferOf i := by
  unfold frameCloses
  split
  next => exact .inr (.inr rfl)
  next b _ =>
    dsimp only
    split_ifs with _ low
    · exact (bufferOf_rejectFrame b _ s i).imp_right .inr
    · exact (bufferOf_rejectFrame b _ s i).imp_right .inr
    · rcases bufferOf_setBuffer b { s.bufferOf b with state := .full } s i with h | h
      · exact .inr (.inl (h.symm ▸ Nat.not_lt.mp low))
      · exact .inr (.inr h)

/-- A buffer that FRAME CLOSE makes FULL holds references at least 64 apart. -/
theorem references_of_frameClose {s t : State} {n i : Nat} (hc : s.calm = true) (ht : exec (.frameClose n) s = .next t)
    (hs : (s.bufferOf i).state ≠ .full) (hfull : (t.bufferOf i).state = .full) :
    (references (t.bufferOf i).rows).1 + 64 ≤ (references (t.bufferOf i).rows).2 := by
  rw [exec_frameClose_calm hc] at ht
  obtain rfl := Host.Outcome.next.inj ht
  unfold scanRecord at hfull ⊢
  split_ifs at hfull ⊢
  · exact absurd hfull hs
  · rcases bufferOf_frameCloses n (settleWaits .frameClose none s) i with free | apart | same
    · exact absurd (free ▸ hfull) (by decide)
    · exact apart
    · rw [same, bufferOf_settleWaits] at hfull
      exact absurd hfull hs

/-! ### Contributions (R160) -/

theorem contribution_toNat_le_weight (r : Paper) (o : RowOutcome) (e : KeyEntry) :
    (contribution r o e).toNat ≤ e.weight := by
  cases e with
  | void => cases o <;> exact le_rfl
  | correct set weight =>
    cases o with
    | blank => exact Nat.zero_le _
    | light => exact Nat.zero_le _
    | multiple => simp only [contribution, KeyEntry.weight]; split_ifs <;> omega
    | single k => simp only [contribution, KeyEntry.weight]; split_ifs <;> omega

theorem sum_contributions_le_weights (r : Paper) (questions : List RowOutcome) (key : List KeyEntry) :
    ((List.zipWith (contribution r) questions key).map Int.toNat).sum ≤ (key.map KeyEntry.weight).sum := by
  induction key generalizing questions with
  | nil => simp
  | cons e key ih =>
    cases questions with
    | nil => simp
    | cons o questions =>
      simp only [List.zipWith_cons_cons, List.map_cons, List.sum_cons]
      exact Nat.add_le_add (contribution_toNat_le_weight r o e) (ih questions)

/-- With a key entry for each question, the list of contributions question by question. -/
theorem zipWith_contribution_eq {questions : List RowOutcome} {key : List KeyEntry} (r : Paper)
    (h : questions.length = key.length) :
    List.zipWith (contribution r) questions key =
      (List.range key.length).map fun i => contribution r (questions.getD i .blank) (key.getD i .void) := by
  refine List.ext_getElem (by simp [h]) fun i hi _ => ?_
  obtain ⟨hq, hk⟩ : i < questions.length ∧ i < key.length := by simpa using hi
  simp [hq, hk]

/-! ### Section scores (R160) -/

theorem sumOf_eq_sum (l : List Nat) : sumOf l = l.sum := List.sum_eq_foldl_nat.symm

theorem sectionScore_eq (cs : List Int) (first stop : Nat) :
    sectionScore cs first stop = ((cs.drop (first - 1)).take (stop - first)).sum.toNat := by
  rw [sectionScore, List.sum_eq_foldl]

theorem sectionScores_length (cs : List Int) (starts : List Nat) :
    (sectionScores cs starts).length = starts.length := by
  fun_induction sectionScores cs starts with
  | case1 => rfl
  | case2 a => rfl
  | case3 a b l ih => exact congrArg Nat.succ ih

/-- Each section runs from its start to before the next, and the last to the last question. -/
theorem sectionScores_getElem? (cs : List Int) {starts : List Nat} {i a : Nat} (h : starts[i]? = some a) :
    (sectionScores cs starts)[i]? = some (sectionScore cs a (starts[i + 1]?.getD (cs.length + 1))) := by
  fun_induction sectionScores cs starts generalizing i with
  | case1 => simp at h
  | case2 c =>
    cases i with
    | zero => obtain rfl := Option.some.inj h; rfl
    | succ i => simp at h
  | case3 c d l ih =>
    cases i with
    | zero => obtain rfl := Option.some.inj h; rfl
    | succ i => exact ih h

/-- The questions from `first` to before `stop`, question 1 first. -/
theorem filter_questions_eq {first : Nat} (h : 1 ≤ first) (n stop : Nat) :
    ((List.range n).filter fun q => first ≤ q + 1 && q + 1 < stop) =
      ((List.range n).drop (first - 1)).take (stop - first) := by
  have rising : ((List.range n).drop (first - 1)).take (stop - first) |>.Pairwise (· < ·) :=
    List.pairwise_lt_range.sublist ((List.take_sublist _ _).trans (List.drop_sublist _ _))
  refine (List.pairwise_lt_range.filter _).eq_of_mem_iff rising fun q => ?_
  rw [List.mem_filter, List.mem_range, List.mem_iff_getElem?]
  simp only [Bool.and_eq_true, decide_eq_true_eq, List.getElem?_take, List.getElem?_drop]
  constructor
  · rintro ⟨hq, hlo, hhi⟩
    refine ⟨q + 1 - first, ?_⟩
    rw [if_pos (by omega), List.getElem?_range (by omega)]
    exact congrArg some (by omega)
  · rintro ⟨j, hj⟩
    split_ifs at hj with hlt
    obtain ⟨hn, rfl⟩ := List.getElem?_eq_some_iff.mp hj
    rw [List.length_range] at hn
    rw [List.getElem_range]
    omega

theorem sectionScore_map_range {first : Nat} (h : 1 ≤ first) (gives : Nat → Int) (n stop : Nat) :
    sectionScore ((List.range n).map gives) first stop =
      (((List.range n).filter fun q => first ≤ q + 1 && q + 1 < stop).map gives).sum.toNat := by
  rw [sectionScore_eq, filter_questions_eq h, List.map_take, List.map_drop]

/-- Starts that ascend from 1 are question numbers. -/
theorem one_le_start {starts : List Nat} {a : Nat} (h1 : starts.head? = some 1) (hp : starts.Pairwise (· < ·))
    (ha : a ∈ starts) : 1 ≤ a := by
  obtain ⟨l, rfl⟩ := List.head?_eq_some_iff.mp h1
  rcases List.mem_cons.mp ha with rfl | hl
  · exact le_rfl
  · exact (List.rel_of_pairwise_cons hp hl).le

/-! ### Total, maximum and percentage (R160) -/

theorem toNat_sum_le (l : List Int) : l.sum.toNat ≤ (l.map Int.toNat).sum := by
  induction l with
  | nil => exact le_rfl
  | cons c l ih =>
    rw [List.sum_cons, List.map_cons, List.sum_cons]
    omega

/-- A section's score is at most what its questions gain. -/
theorem sectionScore_le (cs : List Int) (first stop : Nat) :
    sectionScore cs first stop ≤ (((cs.drop (first - 1)).take (stop - first)).map Int.toNat).sum :=
  sectionScore_eq cs first stop ▸ toNat_sum_le _

/-- Ascending sections share no question, so their scores are at most the sum of what is gained from the first
start on. -/
theorem sum_sectionScores_le (cs : List Int) {a : Nat} {l : List Nat} (ha : 1 ≤ a) (hp : (a :: l).Pairwise (· < ·)) :
    (sectionScores cs (a :: l)).sum ≤ ((cs.drop (a - 1)).map Int.toNat).sum := by
  induction l generalizing a with
  | nil =>
    have all : (cs.drop (a - 1)).take (cs.length + 1 - a) = cs.drop (a - 1) :=
      List.take_of_length_le (by rw [List.length_drop]; omega)
    simpa [sectionScores, all] using sectionScore_le cs a (cs.length + 1)
  | cons b l ih =>
    obtain ⟨hab, hp'⟩ := List.pairwise_cons.mp hp
    have hlt : a < b := hab b (List.mem_cons_self ..)
    have rest : (sectionScores cs (b :: l)).sum ≤ ((cs.drop (b - 1)).map Int.toNat).sum :=
      ih (by omega) hp'
    have apart : cs.drop (b - 1) = (cs.drop (a - 1)).drop (b - a) := by
      rw [List.drop_drop]; congr 1; omega
    calc (sectionScores cs (a :: b :: l)).sum
        = sectionScore cs a b + (sectionScores cs (b :: l)).sum := List.sum_cons
      _ ≤ (((cs.drop (a - 1)).take (b - a)).map Int.toNat).sum
          + (((cs.drop (a - 1)).drop (b - a)).map Int.toNat).sum := Nat.add_le_add (sectionScore_le cs a b) (apart ▸ rest)
      _ = ((cs.drop (a - 1)).map Int.toNat).sum := by
          rw [← List.sum_append, ← List.map_append, List.take_append_drop]

theorem percentOf_le {total maximum q : Nat} (h : total ≤ maximum) (hq : percentOf total maximum = some q) :
    q ≤ 10000 := by
  unfold percentOf at hq
  split_ifs at hq
  obtain rfl := Option.some.inj hq
  exact Nat.le_of_lt_succ (Nat.div_lt_of_lt_mul (by omega))

/-! ### The whole score (R160) -/

section
variable (r : Paper) (key : List KeyEntry) (outcomes : List RowOutcome)

theorem scoreOf_sections : (scoreOf r key outcomes).sections =
    sectionScores (List.zipWith (contribution r) (outcomes.drop 9) key) r.sections := rfl

theorem scoreOf_total : (scoreOf r key outcomes).total = (scoreOf r key outcomes).sections.sum := sumOf_eq_sum _

theorem scoreOf_maximum : (scoreOf r key outcomes).maximum = (key.map KeyEntry.weight).sum := sumOf_eq_sum _

theorem scoreOf_percent : (scoreOf r key outcomes).percent =
    percentOf (scoreOf r key outcomes).total (scoreOf r key outcomes).maximum := rfl

end

section
variable {r : Paper} (h1 : r.sections.head? = some 1) (hp : r.sections.Pairwise (· < ·))
include h1 hp

theorem scoreOf_total_le_maximum (key : List KeyEntry) (outcomes : List RowOutcome) :
    (scoreOf r key outcomes).total ≤ (scoreOf r key outcomes).maximum := by
  rw [scoreOf_total, scoreOf_maximum, scoreOf_sections]
  obtain ⟨l, hl⟩ := List.head?_eq_some_iff.mp h1
  rw [hl] at hp ⊢
  exact (sum_sectionScores_le _ le_rfl hp).trans (sum_contributions_le_weights r (outcomes.drop 9) key)

/-- A section's score, with a key entry for each question and the contributions given question by question. -/
theorem scoreOf_section {key : List KeyEntry} {outcomes : List RowOutcome} {gives : Nat → Int} {i a : Nat}
    (hlen : (outcomes.drop 9).length = key.length)
    (hgives : ∀ i, gives i = contribution r ((outcomes.drop 9).getD i .blank) (key.getD i .void))
    (ha : r.sections[i]? = some a) :
    (scoreOf r key outcomes).sections[i]? = some ((((List.range key.length).filter fun q =>
      a ≤ q + 1 && q + 1 < r.sections[i + 1]?.getD (key.length + 1)).map gives).sum).toNat := by
  have contributions : List.zipWith (contribution r) (outcomes.drop 9) key = (List.range key.length).map gives := by
    rw [zipWith_contribution_eq r hlen, ← funext hgives]
  rw [scoreOf_sections, contributions, sectionScores_getElem? _ ha, List.length_map, List.length_range,
    sectionScore_map_range (one_le_start h1 hp (List.mem_of_getElem? ha))]

end

/-- Settles O50: level, row decision and score, each from the lemma that says what its function answers. -/
theorem levelsAndPercentagesStayInRange : Obligations.LevelsAndPercentagesStayInRange := by
  unfold Obligations.LevelsAndPercentagesStayInRange
  refine ⟨fun w b r hwb => ?level, outcomesOf_cons, fun s t n i => references_of_frameClose,
    fun t l k => decideRow_single_lt, fun t l d1 o1 d2 hd1 hfirst hd2 hle => ?row, fun r key outcomes h1 hp => ?range,
    fun r key outcomes h1 hp hlen => ?score⟩
  case level =>
    refine ⟨levelOf_le w b r, levelOf_white, fun hb => levelOf_black (hwb.trans_le hb) hb, fun hw hb => ?_⟩
    rw [levelOf_between hw hb, Nat.mul_assoc 2 255]
    exact ⟨rfl, nearest_div (Nat.sub_pos_of_lt hwb)⟩
  case row =>
    rw [decideRow_eq t hd1 hfirst hd2 hle]
    refine ⟨fun h => if_pos h, fun hl hm => ?_, fun hl hm h2 hs => ?_, fun hl hm hs => ?_⟩
    · rw [if_neg (Nat.not_lt.mpr hl), if_pos hm]
    · rw [if_neg (Nat.not_lt.mpr hl), if_neg (Nat.not_lt.mpr hm), if_pos ⟨h2, hs⟩]
    · rw [if_neg (Nat.not_lt.mpr hl), if_neg (Nat.not_lt.mpr hm), if_neg (by omega)]
  case range =>
    have total_le := scoreOf_total_le_maximum h1 hp key outcomes
    exact ⟨total_le, fun q hq => percentOf_le total_le hq⟩
  case score =>
    refine ⟨sectionScores_length _ _, fun i a ha => scoreOf_section h1 hp hlen (fun i => ?gives) ha,
      scoreOf_total r key outcomes, ?maximum, scoreOf_percent r key outcomes, List.count_eq_length_filter,
      List.count_eq_length_filter, List.count_eq_length_filter⟩
    case gives =>
      cases key.getD i .void with
      | void => cases (outcomes.drop 9).getD i .blank <;> rfl
      | correct set weight => cases (outcomes.drop 9).getD i .blank <;> rfl
    case maximum =>
      rw [scoreOf_maximum]
      refine congrArg List.sum (List.map_congr_left fun e _ => ?_)
      cases e <;> rfl

end Sys2Proof.Machine

namespace Sys2Proof.Machine

/-! PROOFS. The law of the clocks does not range over the state before hold (R81): a HELD clock may keep HELD itself as
that state, and RELEASE then leaves it HELD in a hall that is not (R91). -/

/-- A READING paper with the settings R73 requires of a lawful one. -/
def readingPaper : Paper :=
  { code := [], form := 0, versions := 1, reading := 1, duration := 10, late := 0, blackFirst := 0, blackLast := 0,
    breakDefault := 0, bookletDefault := 0, walk := 240, zoneOrder := [], warnings := [], scheduled := none,
    penalty := 0, multipleWrong := false, sections := [1], state := .reading, startPending := false,
    readingLeft := 60, elapsed := 0, admClosed := false }

/-- A SEATED candidate of paper 0. -/
def seatedCandidate : Candidate :=
  { number := 0, paper := 0, cls := .standard, allowance := 0, breakBudget := 0, preplaced := none, state := .seated,
    seat := none, lastSeat := none, source := none, admTime := none, walk := none, reason := none, issued := 0,
    returned := none, discrepancy := false }

/-- A HELD clock whose state before hold is HELD again. -/
def heldTwiceClock : Clock := { Clock.zero with state := .held, before := some .held }

/-- A held hall with that clock, its paper READING, and RELEASE waiting. -/
def heldTwice : State :=
  { State.reset with
    rsu := { Rsu.reset with slots := [(0, .write seatedCandidate heldTwiceClock false)] }
    ssu := { Ssu.reset with papers := [(0, readingPaper)], held := true, srcStation := true, signal := .hold true }
    pending := [.release] }

theorem heldTwice_clocksLawful : heldTwice.clocksLawful = true := by decide

/-- RELEASE puts the clock back to HELD while the hall is held no longer. -/
theorem step_heldTwice : ∃ t, step heldTwice = .next t ∧ t.clocksLawful = false := ⟨_, rfl, by decide⟩

/-- Refutes O60: its law of the clocks is not kept by RELEASE (R91), by `heldTwice`. -/
theorem not_tablesKeepTheirForm : ¬ Obligations.TablesKeepTheirForm := by
  unfold Obligations.TablesKeepTheirForm
  rintro ⟨-, -, -, -, -, clocks, -, -, -⟩
  obtain ⟨t, ht, broken⟩ := step_heldTwice
  exact absurd (clocks heldTwice t heldTwice_clocksLawful ht) (by simp [broken])

end Sys2Proof.Machine

/-! PROOFS. The laws O18 and O19 speak of, as one family `Law`, so that each operation of the part is gone through once
for all of them: `Law.Holds.after_f` says that what holds before `f` holds after it. First the laws, and the updates of
single blocks. -/

namespace Sys2Proof.Machine

set_option Elab.async false

/-! ### Tables, entry by entry -/

theorem distinct_iff_nodup (l : List Nat) : distinct l = true ↔ l.Nodup := by
  induction l with
  | nil => simp [distinct]
  | cons a l ih => simp [distinct, ih]

theorem Table.sorted_iff_pairwise {α : Type} (t : Table α) :
    t.sorted = true ↔ List.Pairwise (fun e f : Nat × α => e.1 < f.1) t := by
  induction t with
  | nil => simp [Table.sorted]
  | cons e t ih => rw [Table.sorted_cons, ih, List.pairwise_cons]

theorem Table.mem_keys_iff {α : Type} {t : Table α} (h : t.sorted = true) (k : Nat) :
    k ∈ t.keys ↔ ∃ a, t.find k = some a := by
  simp [Table.keys, Table.mem_iff_find h]

theorem Table.all_iff {α : Type} {t : Table α} (h : t.sorted = true) (p : Nat × α → Bool) :
    List.all t p = true ↔ ∀ k a, t.find k = some a → p (k, a) = true := by
  rw [List.all_eq_true]
  exact ⟨fun hp k a hk => hp _ ((Table.mem_iff_find h k a).mpr hk),
    fun hp e he => hp _ _ ((Table.mem_iff_find h e.1 e.2).mp he)⟩

theorem State.tablesSorted_iff (s : State) : s.tablesSorted = true ↔
    s.hmu.zones.sorted = true ∧ s.hmu.seats.sorted = true ∧ s.rsu.slots.sorted = true ∧ s.ssu.papers.sorted = true
      ∧ s.dbc.desks.sorted = true := by
  simp [State.tablesSorted, and_assoc]

/-! ### Seats, their desks and their calls -/

/-- A seat that the table holds OCCUPIED. -/
def OccupiedIn (seats : Table Seat) (n : Nat) : Prop := ∃ t, seats.find n = some t ∧ t.state = .occupied

/-- A desk address that an OCCUPIED seat names. -/
def NamedByOccupied (seats : Table Seat) (a : Nat) : Prop :=
  ∃ n t, seats.find n = some t ∧ t.desk = some a ∧ t.state = .occupied

/-- What the laws of seats, desks and calls say entry by entry (R5, R8, R101, R112), but for which desk records there
are; `seated_of_lawful` and `Seated.callsSeated` tie it to them. -/
structure Seated (seats : Table Seat) (desks : Table Desk) (calls : List Call) : Prop where
  lawful : ∀ n t, seats.find n = some t → t.lawful = true
  once : ∀ n m t u a, seats.find n = some t → seats.find m = some u → t.desk = some a → u.desk = some a → n = m
  calls : ∀ c ∈ calls, OccupiedIn seats c.seat
  pressed : ∀ a d, desks.find a = some d → d.longPress.isSome = true → NamedByOccupied seats a

theorem State.addresses_nodup {s : State} (h : s.hmu.seats.sorted = true) : s.addresses.Nodup ↔
    ∀ n m t u a, s.hmu.seats.find n = some t → s.hmu.seats.find m = some u → t.desk = some a → u.desk = some a →
      n = m := by
  have hp := (Table.sorted_iff_pairwise _).mp h
  rw [State.addresses, List.Nodup, List.pairwise_filterMap]
  constructor
  · intro hd n m t u a hn hm ht hu
    by_contra hne
    have symm : Std.Symm fun e f : Nat × Seat => ∀ b, e.2.desk = some b → ∀ b', f.2.desk = some b' → b ≠ b' :=
      ⟨fun _ _ h b hb b' hb' => (h b' hb' b hb).symm⟩
    exact hd.forall ((Table.mem_iff_find h n t).mpr hn) ((Table.mem_iff_find h m u).mpr hm) (by simp [hne]) a ht a hu rfl
  · intro hd
    refine hp.imp_of_mem fun {e f} he hf hlt b hb b' hb' hbb => ?_
    exact hlt.ne (hd e.1 f.1 e.2 f.2 b ((Table.mem_iff_find h _ _).mp he) ((Table.mem_iff_find h _ _).mp hf) hb
      (hbb ▸ hb'))

theorem State.occupied_iff (s : State) (n : Nat) : s.occupied n = true ↔ OccupiedIn s.hmu.seats n := by
  unfold State.occupied OccupiedIn State.seat?
  cases s.hmu.seats.find n <;> simp

theorem State.seatOfDesk_eq_some {s : State} (h : s.hmu.seats.sorted = true) {a n : Nat}
    (hn : s.seatOfDesk a = some n) : ∃ t, s.hmu.seats.find n = some t ∧ t.desk = some a := by
  obtain ⟨e, he, rfl⟩ := Option.map_eq_some_iff.mp hn
  exact ⟨e.2, (Table.mem_iff_find h _ _).mp (List.mem_of_find?_eq_some he), by simpa using List.find?_some he⟩

theorem State.seatOfDesk_isSome {s : State} (h : s.hmu.seats.sorted = true) {a n : Nat} {t : Seat}
    (hn : s.hmu.seats.find n = some t) (ha : t.desk = some a) : ∃ m, s.seatOfDesk a = some m := by
  have found : (List.find? (fun e : Nat × Seat => e.2.desk == some a) s.hmu.seats).isSome = true :=
    List.find?_isSome.mpr ⟨(n, t), (Table.mem_iff_find h n t).mpr hn, by simp [ha]⟩
  obtain ⟨e, he⟩ := Option.isSome_iff_exists.mp found
  exact ⟨e.1, by simp [State.seatOfDesk, he]⟩

theorem seated_of_lawful {s : State} (h : s.seatsLawful = true) (hc : s.callsSeated = true) :
    s.tablesSorted = true ∧ Seated s.hmu.seats s.dbc.desks s.dbc.calls := by
  simp only [State.seatsLawful, State.callsSeated, Bool.and_eq_true] at h hc
  obtain ⟨⟨⟨⟨hs, hl⟩, ho⟩, -⟩, -⟩ := h
  obtain ⟨hc, hp⟩ := hc
  obtain ⟨-, hseats, -, -, hdesks⟩ := s.tablesSorted_iff.mp hs
  refine ⟨hs, (Table.all_iff hseats _).mp hl, (State.addresses_nodup hseats).mp ((distinct_iff_nodup _).mp ho),
    fun c hmem => (s.occupied_iff c.seat).mp (List.all_eq_true.mp hc c hmem), fun a d hd hpress => ?_⟩
  have named : ((s.seatOfDesk a).map s.occupied).getD false = true := by
    simpa [Option.isSome_iff_ne_none.mp hpress] using (Table.all_iff hdesks _).mp hp a d hd
  cases hn : s.seatOfDesk a with
  | none => simp [hn] at named
  | some n =>
    obtain ⟨t, ht, hta⟩ := State.seatOfDesk_eq_some hseats hn
    obtain ⟨u, hu, hocc⟩ := (s.occupied_iff n).mp (by simpa [hn] using named)
    exact ⟨n, u, hu, by rw [← hta, Option.some.inj (ht.symm.trans hu)], hocc⟩

theorem Seated.callsSeated {s : State} (hs : s.tablesSorted = true) (h : Seated s.hmu.seats s.dbc.desks s.dbc.calls) :
    s.callsSeated = true := by
  obtain ⟨-, hseats, -, -, hdesks⟩ := s.tablesSorted_iff.mp hs
  simp only [State.callsSeated, Bool.and_eq_true, List.all_eq_true, Table.all_iff hdesks, State.occupied_iff]
  refine ⟨h.calls, fun a d hd => ?_⟩
  cases hpress : d.longPress with
  | none => simp
  | some c =>
    obtain ⟨n, t, ht, hta, hocc⟩ := h.pressed a d hd (by simp [hpress])
    obtain ⟨m, hm⟩ := State.seatOfDesk_isSome hseats ht hta
    obtain ⟨u, hu, hua⟩ := State.seatOfDesk_eq_some hseats hm
    have same : n = m := h.once n m t u a ht hu hta hua
    have hon : s.occupied m = true := (s.occupied_iff m).mpr ⟨t, same ▸ ht, hocc⟩
    simp [hm, hon]

/-- The seat that names a desk counting a long press is OCCUPIED. -/
theorem Seated.occupied_of_pressed {s : State} (hs : s.tablesSorted = true)
    (h : Seated s.hmu.seats s.dbc.desks s.dbc.calls) {a n : Nat} {d : Desk} (hd : s.desk? a = some d)
    (hp : d.longPress.isSome = true) (hn : s.seatOfDesk a = some n) : OccupiedIn s.hmu.seats n := by
  obtain ⟨t, ht, hta⟩ := State.seatOfDesk_eq_some (s.tablesSorted_iff.mp hs).2.1 hn
  obtain ⟨m, u, hu, hua, hocc⟩ := h.pressed a d hd hp
  exact ⟨u, h.once m n u t a hu ht hua hta ▸ hu, hocc⟩

/-! ### The laws -/

/-- The laws that O18 and O19 say every step keeps; the time base's with the D and phase it has, since only the hall
second and the tick change them. -/
inductive Law where
  | time (trim phase : Nat)
  | notices
  | waitList
  | calls
  | exceptions
  | seated

def Law.Holds : Law → State → Prop
  | .time d p, s => s.htb.lawful = true ∧ s.htb.trim = d ∧ s.htb.phase = p
  | .notices, s => s.sli.notices.length ≤ 64 ∧ s.fcu.held.length ≤ 8
  | .waitList, s => s.sal.wait.length ≤ 32
  | .calls, s => s.dbc.callsLawful = true
  | .exceptions, s => s.mru.exceptionsLawful = true
  | .seated, s => s.tablesSorted = true ∧ Seated s.hmu.seats s.dbc.desks s.dbc.calls

/-- A law other than the time base's. -/
def Law.Untimed : Law → Prop
  | .time _ _ => False
  | _ => True

variable {l : Law} {s : State}

/-! ### Updates of one block -/

theorem Law.Holds.of_sli {m : Sli} (hs : l.Holds s)
    (h : s.sli.notices.length ≤ 64 → m.notices.length ≤ 64 := by exact id) : l.Holds { s with sli := m } := by
  cases l with
  | notices => exact ⟨h hs.1, hs.2⟩
  | _ => exact hs

theorem Law.Holds.of_fcu {m : Fcu} (hs : l.Holds s) (h : s.fcu.held.length ≤ 8 → m.held.length ≤ 8 := by exact id) :
    l.Holds { s with fcu := m } := by
  cases l with
  | notices => exact ⟨hs.1, h hs.2⟩
  | _ => exact hs

theorem Law.Holds.of_sal {m : Sal} (hs : l.Holds s) (h : s.sal.wait.length ≤ 32 → m.wait.length ≤ 32 := by exact id) :
    l.Holds { s with sal := m } := by
  cases l with
  | waitList => exact h hs
  | _ => exact hs

theorem Law.Holds.of_clu {m : Clu} (hs : l.Holds s) : l.Holds { s with clu := m } := by
  cases l <;> exact hs

theorem Law.Holds.of_upsets {u : List Upset} (hs : l.Holds s) : l.Holds { s with upsets := u } := by
  cases l <;> exact hs

theorem Law.Holds.of_due {d : List Due} (hs : l.Holds s) : l.Holds { s with due := d } := by
  cases l <;> exact hs

theorem Law.Holds.of_pending {p : List Instr} (hs : l.Holds s) : l.Holds { s with pending := p } := by
  cases l <;> exact hs

theorem Law.Holds.of_mru {m : Mru} (hs : l.Holds s)
    (h : s.mru.exceptionsLawful = true → m.exceptionsLawful = true := by exact id) : l.Holds { s with mru := m } := by
  cases l with
  | exceptions => exact h hs
  | _ => exact hs

theorem Law.Holds.of_htb {h : Htb} (hs : l.Holds s)
    (hh : s.htb.lawful = true → h.lawful = true ∧ h.trim = s.htb.trim ∧ h.phase = s.htb.phase) :
    l.Holds { s with htb := h } := by
  cases l with
  | time d p =>
    obtain ⟨hlaw, rfl, rfl⟩ := hs
    exact hh hlaw
  | _ => exact hs

theorem Law.Holds.of_rsu {m : Rsu} (hs : l.Holds s)
    (h : s.rsu.slots.sorted = true → m.slots.sorted = true := by exact id) : l.Holds { s with rsu := m } := by
  cases l with
  | seated =>
    obtain ⟨hz, ht, hk, hp, hd⟩ := s.tablesSorted_iff.mp hs.1
    exact ⟨(State.tablesSorted_iff _).mpr ⟨hz, ht, h hk, hp, hd⟩, hs.2⟩
  | _ => exact hs

theorem Law.Holds.of_ssu {m : Ssu} (hs : l.Holds s)
    (h : s.ssu.papers.sorted = true → m.papers.sorted = true := by exact id) : l.Holds { s with ssu := m } := by
  cases l with
  | seated =>
    obtain ⟨hz, ht, hk, hp, hd⟩ := s.tablesSorted_iff.mp hs.1
    exact ⟨(State.tablesSorted_iff _).mpr ⟨hz, ht, hk, h hp, hd⟩, hs.2⟩
  | _ => exact hs

/-- An update of the hall map and the desk bus together. -/
theorem Law.Holds.of_seats {h : Hmu} {d : Dbc} (hs : l.Holds s)
    (hz : s.hmu.zones.sorted = true → h.zones.sorted = true)
    (ht : s.hmu.seats.sorted = true → h.seats.sorted = true)
    (hd : s.dbc.desks.sorted = true → d.desks.sorted = true)
    (hc : s.dbc.callsLawful = true → d.callsLawful = true)
    (hk : l = .seated → Seated s.hmu.seats s.dbc.desks s.dbc.calls → Seated h.seats d.desks d.calls) :
    l.Holds { s with hmu := h, dbc := d } := by
  cases l with
  | seated =>
    obtain ⟨iz, it, ik, ip, id⟩ := s.tablesSorted_iff.mp hs.1
    exact ⟨(State.tablesSorted_iff _).mpr ⟨hz iz, ht it, ik, ip, hd id⟩, hk rfl hs.2⟩
  | calls => exact hc hs
  | _ => exact hs

theorem Law.Holds.of_dbc {d : Dbc} (hs : l.Holds s) (hd : s.dbc.desks.sorted = true → d.desks.sorted = true)
    (hc : s.dbc.callsLawful = true → d.callsLawful = true)
    (hk : l = .seated → Seated s.hmu.seats s.dbc.desks s.dbc.calls → Seated s.hmu.seats d.desks d.calls) :
    l.Holds { s with dbc := d } :=
  hs.of_seats (h := s.hmu) id id hd hc hk

/-- Several updates one after another. -/
theorem Law.Holds.foldl {α : Type} {f : State → α → State} {xs : List α}
    (hs : l.Holds s) (h : ∀ s a, l.Holds s → l.Holds (f s a)) : l.Holds (xs.foldl f s) := by
  induction xs generalizing s with
  | nil => exact hs
  | cons a xs ih => exact ih (h s a hs)

end Sys2Proof.Machine

/-! PROOFS. The laws of O18 and O19 through the shared operations: notices and faults, checked reads, the wait list,
seats and their desks, rings and rounds. -/

namespace Sys2Proof.Machine

set_option Elab.async false

variable {l : Law} {s : State}

/-! ### Notices, replies and faults -/

theorem Law.Holds.after_joinQueue {n : Notice} (hs : l.Holds s) : l.Holds (joinQueue n s) := by
  unfold joinQueue
  split
  next room =>
    exact hs.of_sli fun _ => by simpa [Config.noticeLimit] using Nat.succ_le_of_lt room
  next => exact hs.of_sli

theorem Law.Holds.after_notify {k : NoticeKind} {f : List Field} (hs : l.Holds s) : l.Holds (notify k f s) :=
  hs.after_joinQueue

theorem Law.Holds.after_addReply {k : Nat} {a : Answer} (hs : l.Holds s) : l.Holds (addReply k a s) := hs.of_sli

theorem Law.Holds.after_answerTaken {a : Answer} (hs : l.Holds s) : l.Holds (answerTaken a s) := by
  unfold answerTaken
  split
  · exact hs.of_sli.after_addReply
  · exact hs.of_sli
  · exact hs

theorem Law.Holds.after_takeFault {src : FaultSource} {r : FaultRecord} {i : Option Nat} {k : FaultKind}
    (hs : l.Holds s) : l.Holds (takeFault src r i k s) := by
  have captured (f : FaultReport) : l.Holds (capture f s) := by
    unfold capture
    split <;> exact hs.of_fcu
  have notified {t : State} (ht : l.Holds t) (f : FaultReport) : l.Holds (notifyFault f t) := by
    unfold notifyFault
    split_ifs with _ room
    · exact ht.of_fcu fun _ => by simpa [Config.heldLimit] using Nat.succ_le_of_lt room
    · exact ht.of_sli
    · exact ht.after_notify
  have taken {t : State} (ht : l.Holds t) (f : FaultReport) :
      l.Holds (if t.fcu.level.reports k then notifyFault f t else t) := by
    split
    · exact notified ht f
    · exact ht
  unfold takeFault
  dsimp only
  split
  · exact taken (captured _) _
  · exact taken hs _

theorem Law.Holds.after_releaseHeld (hs : l.Holds s) : l.Holds (releaseHeld s) :=
  Law.Holds.foldl (hs.of_fcu (m := { s.fcu with held := [] }) fun _ => Nat.zero_le _) fun _ _ h => h.after_notify

/-! ### Records -/

theorem Law.Holds.after_setZone {z : Nat} {r : Zone} (hs : l.Holds s) : l.Holds (setZone z r s) :=
  hs.of_seats (d := s.dbc) (fun h => Table.put_sorted h _ _) id id id fun _ h => h

theorem Law.Holds.after_modPaper {p : Nat} {f : Paper → Paper} (hs : l.Holds s) : l.Holds (modPaper p f s) :=
  hs.of_ssu fun h => Table.modify_sorted h _ _

/-- A change of one desk record, which leaves no long press but one that was counted, or one of an OCCUPIED seat. -/
theorem Law.Holds.after_modDesk_pressed {a : Nat} {f : Desk → Desk} (hs : l.Holds s)
    (hp : l = .seated → ∀ d, (f d).longPress.isSome = true →
      d.longPress.isSome = true ∨ NamedByOccupied s.hmu.seats a) : l.Holds (modDesk a f s) := by
  refine hs.of_dbc (fun h => Table.modify_sorted h _ _) id fun hl h => ⟨h.lawful, h.once, h.calls, fun b d hd press => ?_⟩
  rw [Table.find_modify] at hd
  split_ifs at hd with hb
  · subst hb
    obtain ⟨e, he, rfl⟩ := Option.map_eq_some_iff.mp hd
    exact (hp hl e press).elim (h.pressed b e he) id
  · exact h.pressed b d hd press

theorem Law.Holds.after_modDesk {a : Nat} {f : Desk → Desk} (hs : l.Holds s)
    (hp : ∀ d, (f d).longPress.isSome = true → d.longPress.isSome = true := by simp) : l.Holds (modDesk a f s) :=
  hs.after_modDesk_pressed fun _ d h => .inl (hp d h)

theorem Law.Holds.after_modSlot {k : Nat} {f : Candidate → Candidate} {g : Clock → Clock} (hs : l.Holds s) :
    l.Holds (modSlot k f g s) := hs.of_rsu fun h => Table.modify_sorted h _ _

theorem Law.Holds.after_modCand {k : Nat} {f : Candidate → Candidate} (hs : l.Holds s) : l.Holds (modCand k f s) :=
  hs.after_modSlot

theorem Law.Holds.after_modClock {k : Nat} {g : Clock → Clock} (hs : l.Holds s) : l.Holds (modClock k g s) :=
  hs.after_modSlot

theorem Law.Holds.after_setBuffer {b : Nat} {r : Buffer} (hs : l.Holds s) : l.Holds (setBuffer b r s) := by
  unfold setBuffer
  split <;> exact hs.of_mru

/-! ### A seat's record -/

/-- A seat's record is written, its address that of no other seat; where it was OCCUPIED and is no longer, nothing
calls for it any more. -/
theorem Seated.put {seats : Table Seat} {desks new : Table Desk} {calls called : List Call} {n : Nat} {old t : Seat}
    (h : Seated seats desks calls) (ho : seats.find n = some old) (hl : t.lawful = true)
    (ha : ∀ m u a, seats.find m = some u → t.desk = some a → u.desk = some a → m = n)
    (hd : old.state = .occupied → t.state = .occupied → t.desk = old.desk)
    (hc : ∀ c ∈ called, c ∈ calls ∧ (c.seat = n → old.state = .occupied → t.state = .occupied))
    (hp : ∀ a d, new.find a = some d → d.longPress.isSome = true → (∃ e, desks.find a = some e ∧ e.longPress.isSome = true)
      ∧ (old.desk = some a → old.state = .occupied → t.state = .occupied)) :
    Seated (seats.put n t) new called := by
  have occ (m : Nat) (u : Seat) (hm : seats.find m = some u) (hu : u.state = .occupied)
      (keep : m = n → old.state = .occupied → t.state = .occupied) :
      ∃ v, (seats.put n t).find m = some v ∧ v.desk = u.desk ∧ v.state = .occupied := by
    rw [Table.find_put]
    split_ifs with hmn
    · obtain rfl : u = old := Option.some.inj (hm.symm.trans (hmn ▸ ho))
      exact ⟨t, rfl, hd hu (keep hmn hu), keep hmn hu⟩
    · exact ⟨u, hm, rfl, hu⟩
  refine ⟨fun m u hu => ?_, fun i j u v a hi hj hu hv => ?_, fun c hmem => ?_, fun a d hdesk press => ?_⟩
  · rw [Table.find_put] at hu
    split_ifs at hu with hm
    · exact Option.some.inj hu ▸ hl
    · exact h.lawful m u hu
  · rw [Table.find_put] at hi hj
    split_ifs at hi hj with h1 h2 h3
    · exact h1.trans h2.symm
    · exact (h1.trans (ha j v a hj (Option.some.inj hi ▸ hu) hv).symm)
    · exact (ha i u a hi (Option.some.inj hj ▸ hv) hu).trans h3.symm
    · exact h.once i j u v a hi hj hu hv
  · obtain ⟨hin, keep⟩ := hc c hmem
    obtain ⟨u, hu, hocc⟩ := h.calls c hin
    obtain ⟨v, hv, -, hstate⟩ := occ c.seat u hu hocc keep
    exact ⟨v, hv, hstate⟩
  · obtain ⟨⟨e, he, hpress⟩, keep⟩ := hp a d hdesk press
    obtain ⟨m, u, hm, hua, hocc⟩ := h.pressed a e he hpress
    obtain ⟨v, hv, hva, hstate⟩ := occ m u hm hocc fun hmn =>
      keep (by rw [← hua, Option.some.inj (hm.symm.trans (hmn ▸ ho))])
    exact ⟨m, v, hv, hva.trans hua, hstate⟩

theorem Law.Holds.after_markSuspect {r : RecordRef} (hs : l.Holds s) : l.Holds (markSuspect r s) := by
  cases r with
  | seat n =>
    refine hs.of_seats (h := { s.hmu with seats := s.hmu.seats.modify n fun x => { x with suspect := true } }) (d := s.dbc)
      id (fun h => Table.modify_sorted h _ _) id id fun _ h => ?_
    change Seated (s.hmu.seats.modify n _) _ _
    unfold Table.modify
    cases hn : s.hmu.seats.find n with
    | none => exact h
    | some t =>
      exact h.put hn (h.lawful n t hn) (fun m u a hm ht hu => h.once m n u t a hm hn hu ht) (fun _ _ => rfl)
        (fun c hc => ⟨hc, fun _ => id⟩) fun a d hd press => ⟨⟨d, hd, press⟩, fun _ => id⟩
  | candidate k => exact hs.of_rsu fun h => Table.modify_sorted h _ _
  | result k => exact hs.of_mru

/-! ### Checked reads -/

theorem Law.Holds.after_readWords {r : RecordRef} {ws : List Nat} (hs : l.Holds s) : l.Holds (readWords r ws s) := by
  induction ws generalizing s with
  | nil => exact hs
  | cons w ws ih =>
    unfold readWords
    split
    · exact (Law.Holds.after_markSuspect (s := mendRecord r s) hs.of_upsets).after_takeFault
    · exact ih (Law.Holds.after_takeFault (s := mendWord r w s) hs.of_upsets)

theorem Law.Holds.after_readRecord {r : RecordRef} (hs : l.Holds s) : l.Holds (readRecord r s) := by
  unfold readRecord
  split
  · exact hs.after_readWords
  · exact hs

theorem Law.Holds.after_readSeat {n : Nat} (hs : l.Holds s) : l.Holds (readSeat n s) := hs.after_readRecord
theorem Law.Holds.after_readSlot {k : Nat} (hs : l.Holds s) : l.Holds (readSlot k s) := hs.after_readRecord
theorem Law.Holds.after_readResult {k : Nat} (hs : l.Holds s) : l.Holds (readResult k s) := hs.after_readRecord

theorem Law.Holds.after_readSeats {ns : List Nat} (hs : l.Holds s) : l.Holds (readSeats ns s) :=
  hs.foldl fun _ _ h => h.after_readSeat

theorem Law.Holds.after_readAllSeats (hs : l.Holds s) : l.Holds (readAllSeats s) := hs.after_readSeats
theorem Law.Holds.after_readAround {n : Nat} (hs : l.Holds s) : l.Holds (readAround n s) := hs.after_readSeats
theorem Law.Holds.after_readSlots (hs : l.Holds s) : l.Holds (readSlots s) := hs.foldl fun _ _ h => h.after_readSlot
theorem Law.Holds.after_readPaper {p : Nat} (hs : l.Holds s) : l.Holds (readPaper p s) :=
  hs.foldl fun _ _ h => h.after_readSlot

theorem Law.Holds.after_readResults (hs : l.Holds s) : l.Holds (readResults s) :=
  hs.foldl fun _ _ h => h.after_readResult

theorem Law.Holds.after_readNumber {n : Nat} (hs : l.Holds s) : l.Holds (readNumber n s) := by
  unfold readNumber
  split
  · exact hs
  · exact hs.after_readSlot

theorem Law.Holds.after_readDecoded {o : List RowOutcome} (hs : l.Holds s) : l.Holds (readDecoded o s) := by
  unfold readDecoded
  split
  · exact hs
  · exact hs.after_readNumber

theorem Law.Holds.after_readSeatsNamed {n : Option Nat} (hs : l.Holds s) : l.Holds (readSeatsNamed n s) := by
  cases n with
  | none => exact hs.after_readAllSeats
  | some n => exact hs.after_readSeat

/-! ### The wait list -/

theorem Law.Holds.after_retryTrigger (hs : l.Holds s) : l.Holds (retryTrigger s) := by
  unfold retryTrigger
  split
  · split
    · exact hs
    · exact hs.of_sal
  · exact hs
  · exact hs.of_sal

theorem Law.Holds.after_endWalk (hs : l.Holds s) : l.Holds (endWalk s) := hs.of_sal

theorem Law.Holds.after_leaveTogether {ks : List Nat} (hs : l.Holds s) : l.Holds (leaveTogether ks s) := by
  refine hs.of_sal fun h => ?_
  unfold Sal.leave
  dsimp only
  split_ifs
  · exact h
  · exact (List.length_filter_le _ _).trans h
  · exact (List.length_filter_le _ _).trans h

theorem Law.Holds.after_leaveWaitList {k : Nat} (hs : l.Holds s) : l.Holds (leaveWaitList k s) :=
  hs.after_leaveTogether (ks := [k])

/-! ### Changes of a seat -/

theorem callsLawful_filter {d e : Dbc} {p : Call → Bool} (h : d.callsLawful = true) (he : e.calls = d.calls.filter p) :
    e.callsLawful = true := by
  simp only [Dbc.callsLawful, distinct_iff_nodup, he, Bool.and_eq_true, decide_eq_true_eq] at h ⊢
  exact ⟨(List.length_filter_le _ _).trans h.1, h.2.sublist (List.Sublist.map _ List.filter_sublist)⟩

theorem Law.Holds.of_fewer_calls {p : Call → Bool} (hs : l.Holds s) :
    l.Holds { s with dbc := { s.dbc with calls := s.dbc.calls.filter p } } :=
  hs.of_dbc id (fun h => callsLawful_filter h rfl) fun _ h =>
    ⟨h.lawful, h.once, fun c hc => h.calls c (List.mem_of_mem_filter hc), h.pressed⟩

theorem Law.Holds.after_dropCall {n : Nat} (hs : l.Holds s) : l.Holds (dropCall n s) := hs.of_fewer_calls

/-- What follows at the desk bus when a seat's record changes, as a change of the bus alone. -/
def Dbc.afterSeat (n : Nat) (old new : Seat) (d : Dbc) : Dbc :=
  let left := old.state == .occupied && new.state != .occupied
  let calls := if left then d.calls.filter fun c => c.seat != n else d.calls
  let desks := match old.desk with
    | none => d.desks
    | some a =>
      let desks := if left then d.desks.modify a fun d => { d with longPress := none } else d.desks
      if old.occupant != new.occupant then desks.modify a fun d => { d with window := none } else desks
  { d with calls := calls, desks := desks }

theorem seatChanged_eq (n : Nat) (old new : Seat) (s : State) :
    seatChanged n old new s = { s with dbc := s.dbc.afterSeat n old new } := by
  unfold seatChanged Dbc.afterSeat
  dsimp only
  cases old.desk with
  | none => split_ifs <;> rfl
  | some a => split_ifs <;> rfl

theorem Table.find_modify_if {α : Type} (c : Bool) (t : Table α) (j k : Nat) (f : α → α) :
    (if c then t.modify k f else t).find j = (t.find j).map (if c = true ∧ j = k then f else id) := by
  cases c with
  | false => simp
  | true =>
    simp only [if_true, true_and, Table.find_modify]
    split_ifs with h
    · rw [h]
    · simp

theorem Dbc.afterSeat_find (n : Nat) (old new : Seat) (d : Dbc) (a : Nat) :
    ∃ g : Desk → Desk, (d.afterSeat n old new).desks.find a = (d.desks.find a).map g
      ∧ (∀ k, (g k).longPress.isSome = true → k.longPress.isSome = true)
      ∧ (old.desk = some a → old.state = .occupied → new.state ≠ .occupied → ∀ k, (g k).longPress = none) := by
  unfold Dbc.afterSeat
  dsimp only
  cases old.desk with
  | none => exact ⟨id, by simp, fun _ => id, nofun⟩
  | some b =>
    refine ⟨_, by simp only [Table.find_modify_if, Option.map_map]; rfl, fun k => ?_, fun hb ho hn k => ?_⟩
    · simp only [Function.comp_apply]
      split_ifs <;> simp
    · obtain rfl := Option.some.inj hb
      simp only [Function.comp_apply, ho]
      split_ifs <;> simp_all

theorem Dbc.afterSeat_sorted {n : Nat} {old new : Seat} {d : Dbc} (h : d.desks.sorted = true) :
    (d.afterSeat n old new).desks.sorted = true := by
  unfold Dbc.afterSeat
  dsimp only
  cases old.desk with
  | none => exact h
  | some a =>
    dsimp only
    split_ifs
    · exact Table.modify_sorted (Table.modify_sorted h _ _) _ _
    · exact Table.modify_sorted h _ _
    · exact Table.modify_sorted h _ _
    · exact h

theorem Dbc.afterSeat_calls (n : Nat) (old new : Seat) (d : Dbc) : ∃ p : Call → Bool,
    (d.afterSeat n old new).calls = d.calls.filter p
      ∧ (old.state = .occupied → new.state ≠ .occupied → ∀ c, p c = true → c.seat ≠ n) := by
  unfold Dbc.afterSeat
  dsimp only
  split_ifs with left
  · exact ⟨_, rfl, fun _ _ c h => by simpa using h⟩
  · exact ⟨fun _ => true, by simp, fun ho hn => absurd (by simp [ho, hn]) left⟩

/-- A seat's record is written lawful; its address, where it changes, is that of no other seat. -/
theorem Law.Holds.after_putSeat {n : Nat} {new : Seat} (hs : l.Holds s)
    (h : l = .seated → ∀ old, s.seat? n = some old → old.lawful = true → new.lawful = true
      ∧ (new.desk = old.desk ∨ old.state ≠ .occupied
          ∧ ∀ m u a, s.seat? m = some u → new.desk = some a → u.desk = some a → m = n)) :
    l.Holds (putSeat n new s) := by
  unfold putSeat
  cases ho : s.seat? n with
  | none => exact hs
  | some old =>
    have written : l.Holds
        (seatChanged n old new { s with hmu := { s.hmu with seats := s.hmu.seats.put n new } }) := by
      rw [seatChanged_eq]
      obtain ⟨p, hcalls, gone⟩ := Dbc.afterSeat_calls n old new s.dbc
      refine hs.of_seats id (fun h => Table.put_sorted h _ _) Dbc.afterSeat_sorted
        (fun h => callsLawful_filter h hcalls) fun hseated hk => ?_
      obtain ⟨hl, ha⟩ := h hseated old ho (hk.lawful n old ho)
      refine hk.put ho hl (fun m u a hm ht hu => ?_) (fun hocc _ => ?_) (fun c hc => ?_) fun a d hd press => ?_
      · exact ha.elim (fun same => hk.once m n u old a hm ho hu (same ▸ ht)) fun free => free.2 m u a hm ht hu
      · exact ha.elim id fun free => absurd hocc free.1
      · rw [hcalls, List.mem_filter] at hc
        exact ⟨hc.1, fun hn ho => by_contra fun hno => gone ho hno c hc.2 hn⟩
      · obtain ⟨g, hg, kept, lost⟩ := Dbc.afterSeat_find n old new s.dbc a
        rw [hg] at hd
        obtain ⟨e, he, rfl⟩ := Option.map_eq_some_iff.mp hd
        exact ⟨⟨e, he, kept e press⟩, fun hda ho => by_contra fun hno => by simp [lost hda ho hno e] at press⟩
    dsimp only
    split
    · exact written.after_retryTrigger
    · exact written

theorem Seat.freed_lawful {t : Seat} (h : t.lawful = true) : t.freed.lawful = true := by
  simp only [Seat.lawful, Bool.and_eq_true] at h
  simp [Seat.lawful, Seat.freed, SeatState.inUse, h.2]

theorem Seat.vacated_lawful {t : Seat} (h : t.lawful = true) (hu : t.state = .held ∨ t.state = .occupied) :
    t.vacated.lawful = true := by
  simp only [Seat.lawful, Bool.and_eq_true] at h
  obtain ⟨⟨⟨-, hp⟩, -⟩, ha⟩ := h
  rcases hu with hu | hu <;> simp_all [Seat.lawful, Seat.vacated, SeatState.inUse]

theorem Seat.movedAway_lawful {t : Seat} (h : t.lawful = true) (hu : t.state = .held ∨ t.state = .occupied) :
    t.movedAway.lawful = true := by
  unfold Seat.movedAway
  split
  · exact Seat.freed_lawful h
  · exact Seat.vacated_lawful h hu

theorem Law.Holds.after_holdSeat {n k p : Nat} {o : Bool} (hs : l.Holds s) : l.Holds (holdSeat n k p o s) := by
  unfold holdSeat
  cases hn : s.seat? n with
  | none => exact hs
  | some t =>
    refine hs.after_putSeat fun _ old ho hl => ?_
    obtain rfl : t = old := Option.some.inj (hn.symm.trans ho)
    simp only [Seat.lawful, Bool.and_eq_true] at hl
    exact ⟨by simp [Seat.lawful, SeatState.inUse, hl.2], .inl rfl⟩

theorem Law.Holds.after_occupySeat {n : Nat} (hs : l.Holds s)
    (h : ∀ t, s.seat? n = some t → t.state = .held) : l.Holds (occupySeat n s) := by
  unfold occupySeat
  cases hn : s.seat? n with
  | none => exact hs
  | some t =>
    refine hs.after_putSeat fun _ old ho hl => ?_
    obtain rfl : t = old := Option.some.inj (hn.symm.trans ho)
    have held := h t hn
    simp only [Seat.lawful, Bool.and_eq_true] at hl
    obtain ⟨⟨⟨ho, hp⟩, -⟩, ha⟩ := hl
    exact ⟨by simp_all [Seat.lawful, SeatState.inUse], .inl rfl⟩

theorem Law.Holds.after_freeSeat {n : Nat} (hs : l.Holds s) : l.Holds (freeSeat n s) := by
  unfold freeSeat
  cases hn : s.seat? n with
  | none => exact hs
  | some t =>
    refine hs.after_putSeat fun _ old ho hl => ?_
    obtain rfl : t = old := Option.some.inj (hn.symm.trans ho)
    exact ⟨Seat.freed_lawful hl, .inl rfl⟩

theorem Law.Holds.after_vacateSeat {n : Nat} (hs : l.Holds s)
    (h : ∀ t, s.seat? n = some t → t.state = .held ∨ t.state = .occupied) : l.Holds (vacateSeat n s) := by
  unfold vacateSeat
  cases hn : s.seat? n with
  | none => exact hs
  | some t =>
    refine hs.after_putSeat fun _ old ho hl => ?_
    obtain rfl : t = old := Option.some.inj (hn.symm.trans ho)
    exact ⟨Seat.vacated_lawful hl (h t hn), .inl rfl⟩

theorem Seat.movedAway_desk (t : Seat) : t.movedAway.desk = t.desk := by
  unfold Seat.movedAway
  split <;> rfl

theorem Law.Holds.after_moveSeats {m n k p : Nat} {o : Bool} (hs : l.Holds s)
    (h : ∀ t, s.seat? m = some t → t.state = .held ∨ t.state = .occupied) : l.Holds (moveSeats m n k p o s) := by
  unfold moveSeats
  cases hn : s.seat? m with
  | none => exact hs
  | some t =>
    refine Law.Holds.after_holdSeat (hs.after_putSeat fun _ old ho hl => ?_)
    obtain rfl : t = old := Option.some.inj (hn.symm.trans ho)
    exact ⟨Seat.movedAway_lawful hl (h t hn), .inl t.movedAway_desk⟩

/-! ### Rings and rounds -/

theorem Law.Holds.after_setRings {z : Nat} {r : Rings} (hs : l.Holds s) : l.Holds (setRings z r s) := hs.of_clu
theorem Law.Holds.after_setCollector {c : Nat} {r : Collector} (hs : l.Holds s) : l.Holds (setCollector c r s) :=
  hs.of_clu
theorem Law.Holds.after_joinRing {e : Entry} (hs : l.Holds s) : l.Holds (joinRing e s) := hs.of_clu
theorem Law.Holds.after_formRound {c z : Nat} (hs : l.Holds s) : l.Holds (formRound c z s) :=
  hs.after_setRings.after_setCollector

theorem Law.Holds.after_offerRounds {z : Nat} {cs : List Nat} (hs : l.Holds s) : l.Holds (offerRounds z cs s) := by
  induction cs generalizing s with
  | nil => exact hs
  | cons c cs ih =>
    unfold offerRounds
    dsimp only
    split
    · exact hs
    · exact ih hs.after_setRings.after_formRound.after_notify

theorem Law.Holds.after_ringJoined {z : Nat} (hs : l.Holds s) : l.Holds (ringJoined z s) := hs.after_offerRounds

theorem Law.Holds.after_handOff {ks : List Nat} (hs : l.Holds s) : l.Holds (handOff ks s) :=
  Law.Holds.foldl (Law.Holds.foldl hs fun _ _ h => h.after_joinRing) fun _ _ h => h.after_ringJoined

theorem Law.Holds.after_setExpected {k n : Nat} (hs : l.Holds s) : l.Holds (setExpected k n s) := hs.of_clu
theorem Law.Holds.after_removeEntry {k : Nat} (hs : l.Holds s) : l.Holds (removeEntry k s) := hs.of_clu
theorem Law.Holds.after_putBack {z : Nat} {es : List Entry} (hs : l.Holds s) : l.Holds (putBack z es s) :=
  hs.after_setRings

theorem Law.Holds.after_paperCollectedTest {p : Nat} (hs : l.Holds s) : l.Holds (paperCollectedTest p s) := by
  unfold paperCollectedTest
  dsimp only
  split_ifs
  · exact hs.after_readPaper.after_notify
  · exact hs.after_readPaper
  · exact hs

end Sys2Proof.Machine

/-! PROOFS. The laws of O18 and O19 through the operations on candidates, papers, holds, desks and the allocator. -/

namespace Sys2Proof.Machine

set_option Elab.async false

variable {l : Law} {s : State}

/-! ### Requests that name a record -/

theorem Law.Holds.after_done {f : List Field} (hs : l.Holds s) : l.Holds (done s f).1 := hs

theorem Law.Holds.after_doneOr {c : Bool} {f : List Field} (hs : l.Holds s) : l.Holds (doneOr c s f).1 := hs

theorem Law.Holds.after_withHolder {n : Nat} {act : Nat → Slot → State → Response} (hs : l.Holds s)
    (h : ∀ k x t, l.Holds t → l.Holds (act k x t).1) : l.Holds (withHolder n s act).1 := by
  unfold withHolder
  split
  · exact hs
  · dsimp only
    split
    · exact hs.after_readSlot
    · split
      · exact hs.after_readSlot
      · exact h _ _ _ hs.after_readSlot

theorem Law.Holds.after_withCandidate {n : Nat} {act : Nat → Slot → State → Response} (hs : l.Holds s)
    (h : ∀ k x t, l.Holds t → l.Holds (act k x t).1) : l.Holds (withCandidate n s act).1 := by
  unfold withCandidate
  split
  · exact hs
  · exact hs.after_withHolder h

theorem Law.Holds.after_withPaper {p : Nat} {act : Paper → Response} (hs : l.Holds s)
    (h : ∀ r, l.Holds (act r).1) : l.Holds (withPaper p s act).1 := by
  unfold withPaper
  split
  · exact hs
  · split
    · exact hs
    · exact h _

/-! ### Finishing and papers (chapter 5) -/

theorem Law.Holds.after_requestPulse (hs : l.Holds s) : l.Holds (requestPulse s) := by
  unfold requestPulse
  split
  · exact hs
  · exact hs.of_ssu

theorem Law.Holds.after_enterPaperState {p : Nat} {st : PaperState} (hs : l.Holds s) :
    l.Holds (enterPaperState p st s) := hs.after_modPaper.after_notify

/-- The exception entries are changed, each keeping its number. -/
theorem Law.Holds.of_exceptions {f : SheetException → SheetException} (hs : l.Holds s)
    (hf : ∀ e, (f e).number = e.number) :
    l.Holds { s with mru := { s.mru with exceptions := s.mru.exceptions.map f } } := by
  refine hs.of_mru fun h => ?_
  have numbers : (s.mru.exceptions.map f).map (·.number) = s.mru.exceptions.map (·.number) := by
    rw [List.map_map]; exact List.map_congr_left fun e _ => hf e
  simpa only [Mru.exceptionsLawful, List.length_map, numbers] using h

theorem Law.Holds.after_queueRetries {p : SheetException → Bool} (hs : l.Holds s) : l.Holds (queueRetries p s) :=
  hs.of_exceptions fun e => by split <;> rfl

theorem Law.Holds.after_finishRecord {k : Nat} {r : FinishReason} {g : Slot → Clock} (hs : l.Holds s) :
    l.Holds (finishRecord k r g s) := by
  unfold finishRecord
  split
  · exact hs
  · exact hs.after_modSlot.after_queueRetries

theorem Law.Holds.after_finishSlots {ks : List Nat} {r : FinishReason} {g : Slot → Clock} (hs : l.Holds s) :
    l.Holds (finishSlots ks r g s) :=
  (hs.foldl fun _ _ h => h.after_finishRecord).after_leaveTogether

theorem Law.Holds.after_finishSlot {k : Nat} {r : FinishReason} {g : Slot → Clock} (hs : l.Holds s) :
    l.Holds (finishSlot k r g s) := hs.after_finishRecord.after_leaveWaitList

theorem Law.Holds.after_unseatedNotice {k : Nat} (hs : l.Holds s) : l.Holds (unseatedNotice k s) := by
  unfold unseatedNotice
  split
  · exact hs
  · split
    · exact hs
    · exact hs.after_notify

theorem Law.Holds.after_closePaper {p : Nat} (hs : l.Holds s) : l.Holds (closePaper p s) :=
  hs.after_requestPulse.after_enterPaperState.after_paperCollectedTest

theorem Law.Holds.after_closeIfSettled {p : Nat} (hs : l.Holds s) : l.Holds (closeIfSettled p s) := by
  unfold closeIfSettled
  dsimp only
  split_ifs
  · exact hs.after_readPaper
  · exact hs.after_readPaper.after_closePaper
  · exact hs

theorem Law.Holds.after_expireSlots {ks : List Nat} (hs : l.Holds s) : l.Holds (expireSlots ks s) := by
  have finished := (hs.after_finishSlots (ks := ks) (r := .expired) (g := fun x => x.clock.ended .expired)).foldl
    (xs := ks) (f := fun s k => unseatedNotice k s) fun _ _ h => h.after_unseatedNotice
  exact (finished.foldl fun _ _ h => h.after_notify).after_handOff.foldl fun _ _ h => h.after_closeIfSettled

theorem Law.Holds.after_acceptFinish {k : Nat} {r : FinishReason} (hs : l.Holds s) : l.Holds (acceptFinish k r s) := by
  unfold acceptFinish
  split
  · exact hs
  · exact hs.after_finishSlot.after_notify.after_unseatedNotice.after_handOff.after_closeIfSettled

theorem Law.Holds.after_closeAdmission {p : Nat} (hs : l.Holds s) : l.Holds (closeAdmission p s) :=
  (hs.after_readPaper.after_modPaper.foldl fun _ _ h => h.after_modCand).after_notify

theorem Law.Holds.after_giveClocks {g : Slot → Clock} {ks : List Nat} (hs : l.Holds s) : l.Holds (giveClocks g ks s) :=
  hs.foldl fun _ _ h => by
    split
    · exact h
    · exact h.after_modClock

theorem Law.Holds.after_readingStart {p : Nat} (hs : l.Holds s) : l.Holds (readingStart p s) :=
  hs.after_readPaper.after_modPaper.after_giveClocks.after_enterPaperState

theorem Law.Holds.after_writingStart {p : Nat} (hs : l.Holds s) : l.Holds (writingStart p s) := by
  unfold writingStart
  split
  · exact hs
  · dsimp only
    split
    · exact hs.after_readPaper.after_modPaper.after_giveClocks.after_enterPaperState.after_requestPulse.after_closeAdmission
    · exact hs.after_readPaper.after_modPaper.after_giveClocks.after_enterPaperState.after_requestPulse

theorem Law.Holds.after_makeStart {p : Nat} (hs : l.Holds s) : l.Holds (makeStart p s) := by
  unfold makeStart
  split
  · exact hs
  · split
    · exact hs.after_writingStart
    · exact hs.after_readingStart

theorem Law.Holds.after_giveClock {k : Nat} (hs : l.Holds s) : l.Holds (giveClock k s) := by
  have running (x : Slot) (r : Paper) : l.Holds (giveClock.giveRunning k x r s) := by
    unfold giveClock.giveRunning
    dsimp only
    split
    · exact hs.after_modClock.after_expireSlots
    · exact hs.after_modClock
  unfold giveClock
  split
  · exact hs
  next x _ =>
    split
    · exact hs
    next r _ =>
      split
      · exact hs
      · exact hs
      · exact hs.after_modClock
      · exact running x r
      · exact running x r
      · exact hs.after_finishSlot.after_unseatedNotice.after_handOff

theorem Law.Holds.after_raiseHold {c : Bool} (hs : l.Holds s) : l.Holds (raiseHold c s) := by
  unfold raiseHold
  dsimp only
  split
  · exact hs.of_ssu.after_notify
  · have read := hs.after_readSlots
    have kept := read.of_rsu (m := { (readSlots s).rsu with
      slots := (readSlots s).rsu.slots.mapAll fun _ x =>
        if x.suspect then x else Slot.write x.cand x.clock.holdNow x.suspect }) fun h => by dsimp only; exact Table.mapAll_sorted h _
    exact (kept.of_ssu (m := { (readSlots s).ssu with
      held := true, srcStation := !c, srcContact := c, holdLength := 0, signal := .hold true })).after_notify

/-! ### The roster (chapter 2) -/

theorem Law.Holds.after_writeSlot {k : Nat} {c : Candidate} {g : Clock} (hs : l.Holds s) : l.Holds (writeSlot k c g s) :=
  Law.Holds.of_upsets (hs.of_rsu (m := { s.rsu with slots := s.rsu.slots.put k (.write c g false) })
    fun h => Table.put_sorted h _ _)

theorem Law.Holds.after_takeCandidateEntry {k n p c a : Nat} {m b z : Option Nat} (hs : l.Holds s) :
    l.Holds (takeCandidateEntry k n p c a m b z s).1 := by
  unfold takeCandidateEntry
  split
  · exact hs
  · split
    · exact hs
    · split
      · exact hs
      · dsimp only
        split_ifs
        · exact hs
        · exact hs
        · exact hs
        · exact hs
        · exact hs.after_writeSlot

theorem Law.Holds.after_takeSetAllowance {n a : Nat} (hs : l.Holds s) : l.Holds (takeSetAllowance n a s).1 :=
  hs.after_withCandidate fun _ _ _ h => by
    split
    · exact h
    · exact h.after_modCand.after_doneOr

theorem Law.Holds.after_withdrawBefore {k : Nat} {x : Slot} (hs : l.Holds s) : l.Holds (withdrawBefore k x s) := by
  unfold withdrawBefore
  dsimp only
  split
  · exact hs.after_modCand.after_leaveWaitList
  · exact hs.after_modCand.after_leaveWaitList.after_freeSeat

theorem Law.Holds.after_takeWithdraw {n : Nat} (hs : l.Holds s) : l.Holds (takeWithdraw n s).1 :=
  hs.after_withCandidate fun k x t h => by
    dsimp only
    split_ifs
    · exact h
    · exact h.after_withdrawBefore
    · exact h
    · exact h.after_acceptFinish
    · split
      · exact h
      · split_ifs
        · exact h.after_readSeat
        · exact h.after_readSeat
        · exact h.after_readSeat.after_withdrawBefore
      · exact h.after_withdrawBefore

theorem Law.Holds.after_takeQueryCandidate {n : Nat} (hs : l.Holds s) : l.Holds (takeQueryCandidate n s).1 :=
  hs.after_withCandidate fun _ _ _ h => h

theorem Law.Holds.after_takeSetBooklets {n c : Nat} (hs : l.Holds s) : l.Holds (takeSetBooklets n c s).1 :=
  hs.after_withCandidate fun k x t h => by
    dsimp only
    split
    · exact h
    · change l.Holds (if _ then _ else _)
      split
      · exact h.after_modCand.after_setExpected
      · exact h.after_modCand

theorem Law.Holds.after_takeAdmit {n : Nat} (hs : l.Holds s) : l.Holds (takeAdmit n s).1 := by
  unfold takeAdmit
  split
  · exact hs
  · dsimp only
    split
    · exact hs.after_readNumber
    · exact hs.after_readNumber.after_modCand.of_sal

theorem Law.Holds.after_setPort {d : Nat} {p : Port} (hs : l.Holds s) : l.Holds (setPort d p s) := by
  unfold setPort
  split <;> exact hs.of_rsu

theorem Law.Holds.after_doorNotice {d n : Nat} {a : DoorAnswer} (hs : l.Holds s) : l.Holds (doorNotice d n a s) :=
  hs.after_notify

theorem Law.Holds.after_answerDoor {d : Nat} {a : DoorAnswer} (hs : l.Holds s) : l.Holds (answerDoor d a s) := by
  unfold answerDoor
  split
  · exact hs
  · exact hs.after_setPort.after_doorNotice

theorem Law.Holds.after_cardArrives {d : Nat} {f : List Byte} (hs : l.Holds s) : l.Holds (cardArrives d f s) := by
  have read (p : Port) (n : Nat) := (hs.after_setPort (d := d) (p := p)).after_readNumber (n := n)
  unfold cardArrives
  dsimp only
  split
  · exact hs.after_setPort.after_doorNotice
  · split
    · exact hs.after_setPort
    · split
      · exact (read _ _).after_answerDoor
      · split
        · exact (read _ _).after_modCand.of_sal
        · exact (read _ _).after_modCand.of_sal

theorem Law.Holds.after_presentPress {n : Nat} {f : State → State} (hs : l.Holds s)
    (hf : ∀ t, l.Holds t → l.Holds (f t)) : l.Holds (presentPress n f s) := by
  unfold presentPress
  split
  · exact hs
  next t ht =>
    split
    · exact hs
    · split
      next held _ _ =>
        split
        · exact hs
        · exact (hs.after_occupySeat fun u hu => by rw [← Option.some.inj (ht.symm.trans hu), held]).after_modCand
      · split
        · exact hs.after_modClock.after_notify
        · exact hs
      · exact hs
      · exact hs
      · exact hf _ hs.after_notify

/-! ### Collecting (chapter 7) -/

theorem Law.Holds.after_takeCollectorOn {c : Nat} {z : List Nat} {n t : Option Nat} (hs : l.Holds s) :
    l.Holds (takeCollectorOn c z n t s).1 := by
  unfold takeCollectorOn
  dsimp only
  split_ifs
  · exact hs
  · exact hs
  · exact hs.after_setCollector

theorem Law.Holds.after_giveRound {c z : Nat} (hs : l.Holds s) : l.Holds (giveRound c z s) := by
  unfold giveRound
  dsimp only
  split
  · exact hs.after_setCollector.after_setRings.after_setCollector
  · exact hs.after_setCollector.after_formRound

theorem Law.Holds.after_takeTakeRound {c z : Nat} (hs : l.Holds s) : l.Holds (takeTakeRound c z s).1 := by
  unfold takeTakeRound
  dsimp only
  split_ifs
  · exact hs
  · exact hs
  · exact hs
  · exact hs
  · exact hs.after_giveRound

theorem Law.Holds.after_takeDefer {c n : Nat} (hs : l.Holds s) : l.Holds (takeDefer c n s).1 := by
  unfold takeDefer
  dsimp only
  split_ifs
  · exact hs
  · exact hs
  · split
    · exact hs
    · exact hs.after_setRings.after_setCollector.after_ringJoined

theorem Law.Holds.after_takeCollectorOff {c : Nat} (hs : l.Holds s) : l.Holds (takeCollectorOff c s).1 := by
  unfold takeCollectorOff
  dsimp only
  split_ifs
  · exact hs
  · split
    · exact hs.after_setCollector.after_setRings
    · exact hs.after_setCollector.after_putBack.after_ringJoined
    · exact hs.after_setCollector

theorem Law.Holds.after_roundTimesOut {c : Nat} (hs : l.Holds s) : l.Holds (roundTimesOut c s) := by
  unfold roundTimesOut
  dsimp only
  split
  · exact hs
  · exact hs.after_putBack.after_setCollector.after_notify.after_ringJoined

theorem Law.Holds.after_collectCandidate {k e r : Nat} (hs : l.Holds s) : l.Holds (collectCandidate k e r s) := by
  unfold collectCandidate
  split
  · exact hs
  · dsimp only
    split
    · exact hs.after_modCand
    · exact hs.after_modCand.after_notify

theorem Law.Holds.after_takeConfirmEntry {c n r : Nat} (hs : l.Holds s) : l.Holds (takeConfirmEntry c n r s).1 := by
  unfold takeConfirmEntry
  dsimp only
  split_ifs
  · exact hs
  · exact hs
  · split
    · exact hs
    next e _ =>
      have read := hs.after_readSeat (n := n) |>.after_readSlot (k := e.slot)
      split
      · exact read
      · split
        next t x ht _ =>
          split
          · exact read
          next fits =>
            refine ((read.after_setCollector.after_vacateSeat fun u hu => ?_).after_collectCandidate).after_paperCollectedTest
            obtain rfl : t = u := Option.some.inj (ht.symm.trans hu)
            simp only [Bool.or_eq_true, not_or, Bool.not_eq_true, Bool.not_eq_false', beq_iff_eq] at fits
            exact fits.1
        · exact read

theorem Law.Holds.after_takeCollectDirect {k r : Nat} (hs : l.Holds s) : l.Holds (takeCollectDirect k r s).1 := by
  unfold takeCollectDirect
  dsimp only
  split_ifs
  · exact hs
  · split
    · exact hs.after_readSlot
    · split_ifs
      · exact hs.after_readSlot
      · exact hs.after_readSlot
      · exact hs.after_readSlot.after_collectCandidate.after_paperCollectedTest

theorem Law.Holds.after_repairReport {k : Nat} (hs : l.Holds s) : l.Holds (repairReport k s) := by
  unfold repairReport
  dsimp only
  split
  · exact hs.after_handOff
  · split
    · exact hs.after_setExpected
    · exact hs.after_removeEntry
  · exact hs.after_removeEntry
  · exact hs

theorem Law.Holds.after_takeQueryReconcile {p : Nat} (hs : l.Holds s) : l.Holds (takeQueryReconcile p s).1 :=
  hs.after_withPaper fun _ => hs.after_readSlots

theorem Law.Holds.after_takeQueryQueue {z : Nat} (hs : l.Holds s) : l.Holds (takeQueryQueue z s).1 := by
  unfold takeQueryQueue
  split <;> exact hs

/-! ### Papers, holds and clocks (chapter 5) -/

theorem Law.Holds.after_removeKeys {p : Nat} {v : Nat → Bool} (hs : l.Holds s) : l.Holds (removeKeys p v s) := hs.of_mru

theorem Law.Holds.after_putPaper {p : Nat} {r : Paper} (hs : l.Holds s) : l.Holds (putPaper p r s) :=
  hs.of_ssu fun h => Table.put_sorted h _ _

theorem Law.Holds.after_paperKeysFollow {p : Nat} {r q : Paper} (hs : l.Holds s) : l.Holds (paperKeysFollow p r q s) := by
  unfold paperKeysFollow
  split_ifs
  · exact hs.after_removeKeys
  · exact hs.after_removeKeys
  · exact hs

theorem Law.Holds.after_takeDefinePaper {p : Nat} {f : PaperFields} (hs : l.Holds s) :
    l.Holds (takeDefinePaper p f s).1 := by
  unfold takeDefinePaper
  split
  · exact hs
  · split
    · exact hs
    · split
      · exact hs
      · split
        · exact hs.after_putPaper
        · split
          · exact hs
          · change l.Holds (if _ then _ else _)
            split
            · exact hs.after_putPaper.after_paperKeysFollow.after_retryTrigger
            · exact hs.after_putPaper.after_paperKeysFollow

theorem Law.Holds.after_takeSetZoneOrder {p : Nat} {o : List Nat} (hs : l.Holds s) : l.Holds (takeSetZoneOrder p o s).1 := by
  unfold takeSetZoneOrder
  split
  · exact hs
  · refine hs.after_withPaper fun r => ?_
    change l.Holds (if _ then _ else _)
    split
    · exact hs.after_modPaper.after_retryTrigger
    · exact hs.after_modPaper

theorem Law.Holds.after_takeSetWarnings {p : Nat} {o : List Nat} (hs : l.Holds s) : l.Holds (takeSetWarnings p o s).1 := by
  unfold takeSetWarnings
  split
  · exact hs
  · refine hs.after_withPaper fun r => ?_
    dsimp only
    split
    · exact hs
    · exact hs.after_modPaper

theorem Law.Holds.after_takeOpenPaper {p : Nat} (hs : l.Holds s) : l.Holds (takeOpenPaper p s).1 :=
  hs.after_withPaper fun r => by
    split
    · exact hs
    · exact hs.after_enterPaperState

theorem Law.Holds.after_takeStartPaper {p : Nat} (hs : l.Holds s) : l.Holds (takeStartPaper p s).1 :=
  hs.after_withPaper fun r => by
    split_ifs
    · exact hs
    · exact hs
    · exact hs.after_makeStart

theorem Law.Holds.after_finishEnded {ks : List Nat} (hs : l.Holds s) : l.Holds (finishEnded ks s) :=
  hs.after_finishSlots

theorem Law.Holds.after_takeEndPaper {p : Nat} (hs : l.Holds s) : l.Holds (takeEndPaper p s).1 :=
  hs.after_withPaper fun r => by
    split
    · exact hs
    · dsimp only
      split
      · exact hs.after_readPaper
      · have finished (ks : List Nat) := ((hs.after_readPaper (p := p)).after_finishEnded (ks := ks)).foldl
          (f := fun s k => unseatedNotice k s) (xs := ks) (fun _ _ h => h.after_unseatedNotice)
        refine Law.Holds.after_done (Law.Holds.after_paperCollectedTest (Law.Holds.after_notify ?_))
        split
        · exact (finished _).after_handOff.after_requestPulse.after_modPaper.after_enterPaperState
        · exact (finished _).after_handOff.after_requestPulse.after_modPaper.after_enterPaperState.after_closeAdmission

theorem Law.Holds.after_takeHold (hs : l.Holds s) : l.Holds (takeHold s).1 := hs.after_raiseHold

theorem Law.Holds.after_takeRelease (hs : l.Holds s) : l.Holds (takeRelease s).1 := by
  unfold takeRelease
  dsimp only
  split_ifs
  · exact hs
  · exact hs
  · have released := (hs.after_readSlots.of_rsu (m := { (readSlots s).rsu with
      slots := (readSlots s).rsu.slots.mapAll fun _ x =>
        if x.suspect then x else Slot.write x.cand x.clock.releaseNow x.suspect }) fun h => by dsimp only; exact Table.mapAll_sorted h _).of_ssu
      (m := { (readSlots s).ssu with held := false, srcStation := false, srcContact := false, signal := .off })
    exact (released.foldl fun _ _ h => h.after_modPaper.after_makeStart).after_notify

theorem Law.Holds.after_takeSetContactSense {v : Nat} (hs : l.Holds s) : l.Holds (takeSetContactSense v s).1 := by
  unfold takeSetContactSense
  split
  · exact hs
  · exact hs.of_ssu

theorem Law.Holds.after_contactSample {a : Bool} (hs : l.Holds s) : l.Holds (contactSample a s) := by
  have sampled := hs.of_ssu (m := { s.ssu with contact := a, quiet := false })
  unfold contactSample
  dsimp only
  split_ifs
  · exact sampled.after_notify
  · exact sampled.after_raiseHold
  · exact sampled.after_notify
  · exact sampled

theorem Law.Holds.after_takeBreakGrant {n : Nat} (hs : l.Holds s) : l.Holds (takeBreakGrant n s).1 :=
  hs.after_withCandidate fun k x t h => by
    dsimp only
    split_ifs
    · exact h
    · exact h
    · split
      · exact h.after_modClock.after_done
      · exact Law.Holds.of_fewer_calls h.after_modClock

theorem Law.Holds.after_takeFinishCandidate {n : Nat} (hs : l.Holds s) : l.Holds (takeFinishCandidate n s).1 :=
  hs.after_withCandidate fun k x t h => by
    split
    · exact h
    · exact h.after_acceptFinish

theorem Law.Holds.after_takeGrantTime {n m : Nat} (hs : l.Holds s) : l.Holds (takeGrantTime n m s).1 := by
  unfold takeGrantTime
  split
  · exact hs
  · refine hs.after_withHolder fun k x t h => ?_
    dsimp only
    split
    · exact h
    · split_ifs
      · exact h
      · exact h
      · exact h.after_modClock.after_doneOr

theorem Law.Holds.after_takeQueryPaper {p : Nat} (hs : l.Holds s) : l.Holds (takeQueryPaper p s).1 :=
  hs.after_withPaper fun _ => hs.after_readSlots

end Sys2Proof.Machine

/-! PROOFS. The laws of O18 and O19 at the desk bus, where a call is taken of an OCCUPIED seat only (chapter 6). -/

namespace Sys2Proof.Machine

set_option Elab.async false

variable {l : Law} {s : State}

/-! ### What a read leaves of a seat -/

theorem markSuspect_seat? {r : RecordRef} {m : Nat} {t : Seat} (h : (markSuspect r s).seat? m = some t) :
    ∃ u, s.seat? m = some u ∧ t = { u with suspect := t.suspect } := by
  cases r with
  | seat n =>
    change (s.hmu.seats.modify n _).find m = some t at h
    rw [Table.find_modify] at h
    split_ifs at h with hm
    · obtain ⟨u, hu, rfl⟩ := Option.map_eq_some_iff.mp h
      exact ⟨u, hm ▸ hu, rfl⟩
    · exact ⟨t, h, rfl⟩
  | candidate k => exact ⟨t, h, rfl⟩
  | result k => exact ⟨t, h, rfl⟩

theorem readWords_seat? {r : RecordRef} {ws : List Nat} {m : Nat} {t : Seat} (h : (readWords r ws s).seat? m = some t) :
    ∃ u, s.seat? m = some u ∧ t = { u with suspect := t.suspect } := by
  induction ws generalizing s with
  | nil => exact ⟨t, h, rfl⟩
  | cons w ws ih =>
    unfold readWords at h
    split at h
    · exact markSuspect_seat? (s := mendRecord r s) (by simpa [State.seat?] using h)
    · simpa [State.seat?, mendWord] using ih h

/-- A read changes nothing of a seat's record but its suspect mark. -/
theorem readRecord_seat? {r : RecordRef} {m : Nat} {t : Seat} (h : (readRecord r s).seat? m = some t) :
    ∃ u, s.seat? m = some u ∧ t = { u with suspect := t.suspect } := by
  unfold readRecord at h
  split at h
  · exact readWords_seat? h
  · exact ⟨t, h, rfl⟩

theorem readWords_candidate_hmu {k : Nat} {ws : List Nat} : (readWords (.candidate k) ws s).hmu = s.hmu := by
  induction ws generalizing s with
  | nil => rfl
  | cons w ws ih =>
    unfold readWords
    split
    · rw [takeFault_hmu]
      rfl
    · rw [ih, takeFault_hmu]
      rfl

theorem readSlot_hmu (k : Nat) (s : State) : (readSlot k s).hmu = s.hmu := by
  unfold readSlot readRecord
  split
  · exact readWords_candidate_hmu
  · rfl

/-! ### Calls -/

theorem Law.Holds.after_setFeedback {a n : Nat} {p : Pattern} (hs : l.Holds s) : l.Holds (setFeedback a p n s) :=
  hs.after_modDesk

theorem Law.Holds.after_callNotice {k : NoticeKind} {n : Nat} {r : CallReason} (hs : l.Holds s) :
    l.Holds (callNotice k n r s) := hs.after_notify

theorem Call.upgraded_seat (n : Nat) (c : Call) : (c.upgraded n).seat = c.seat := by
  unfold Call.upgraded
  split <;> rfl

theorem Law.Holds.after_offerCall {a n : Nat} {r : CallReason} (hs : l.Holds s)
    (hocc : l = .seated → OccupiedIn s.hmu.seats n) : l.Holds (offerCall a n r s) := by
  unfold offerCall
  split
  · split
    · have upgraded : (s.dbc.calls.map (Call.upgraded n)).map (·.seat) = s.dbc.calls.map (·.seat) := by
        rw [List.map_map]
        exact List.map_congr_left fun c _ => c.upgraded_seat n
      refine (hs.of_dbc (d := { s.dbc with calls := s.dbc.calls.map (Call.upgraded n) }) id (fun h => ?_)
        fun _ h => ⟨h.lawful, h.once, fun c hc => ?_, h.pressed⟩).after_callNotice
      · simpa only [Dbc.callsLawful, List.length_map, upgraded] using h
      · obtain ⟨e, he, rfl⟩ := List.mem_map.mp hc
        rw [Call.upgraded_seat]
        exact h.calls e he
    · exact hs
  next new =>
    split
    next room =>
      refine (hs.of_dbc (d := { s.dbc with calls := s.dbc.calls ++ [⟨n, r, s.htb.time⟩] }) id (fun h => ?_)
        fun hl h => ⟨h.lawful, h.once, fun c hc => ?_, h.pressed⟩).after_callNotice
      · simp only [Dbc.callsLawful, distinct_iff_nodup, Bool.and_eq_true, decide_eq_true_eq, List.map_append,
          List.length_append, List.map_cons, List.map_nil, List.length_singleton] at h ⊢
        refine ⟨room, List.Nodup.append h.2 (List.nodup_singleton n) fun c hc hn => new ?_⟩
        obtain ⟨e, he, hen⟩ := List.mem_map.mp hc
        exact List.any_eq_true.mpr ⟨e, he, by simp [hen, List.mem_singleton.mp hn]⟩
      · rcases List.mem_append.mp hc with old | added
        · exact h.calls c old
        · obtain rfl := List.mem_singleton.mp added
          exact hocc hl
    · exact hs.after_setFeedback.after_callNotice

theorem Law.Holds.after_countLongPress {a : Nat} {level : Bool} (hs : l.Holds s) : l.Holds (countLongPress a level s) := by
  unfold countLongPress
  split
  next c n hc hn =>
    obtain ⟨d, hd, hpress⟩ := Option.bind_eq_some_iff.mp hc
    have occupied : l = .seated → OccupiedIn s.hmu.seats n := fun hl => by
      subst hl
      exact hs.2.occupied_of_pressed hs.1 hd (by simp [hpress]) hn
    have named : l = .seated → NamedByOccupied s.hmu.seats a := fun hl => by
      subst hl
      exact hs.2.pressed a d hd (by simp [hpress])
    have counted (m : Option Nat) : l.Holds (modDesk a (fun d => { d with longPress := m }) s) :=
      hs.after_modDesk_pressed fun hl d _ => .inr (named hl)
    split
    · split
      · exact counted _
      · split
        · exact (counted _).after_offerCall occupied
        · exact hs
    · dsimp only
      split
      · exact (counted _).after_offerCall occupied
      · exact counted _
  · exact hs

/-! ### Presses -/

theorem Law.Holds.after_unexpectedPress {t : Seat} {b : Button} (hs : l.Holds s) : l.Holds (unexpectedPress t b s) :=
  hs.after_notify

theorem Law.Holds.after_deskFinish {a n k : Nat} (hs : l.Holds s) : l.Holds (deskFinish a n k s) := by
  unfold deskFinish
  split
  · exact hs
  · split
    · exact hs
    · split
      · exact hs.after_acceptFinish
      · exact hs.after_notify.after_setFeedback

theorem Law.Holds.after_finishPress {a n : Nat} {t : Seat} (hs : l.Holds s) : l.Holds (finishPress a n t s) := by
  unfold finishPress
  split
  · exact hs.after_unexpectedPress
  · exact hs.after_modDesk
  · exact hs.after_modDesk.after_deskFinish

theorem Law.Holds.after_callPress {a n : Nat} {level : Bool} (hs : l.Holds s)
    (hocc : l = .seated → OccupiedIn s.hmu.seats n) (hname : l = .seated → NamedByOccupied s.hmu.seats a) :
    l.Holds (callPress a n level s) := by
  unfold callPress
  split
  · exact hs.after_modDesk_pressed fun hl _ _ => .inr (hname hl)
  · exact hs.after_modDesk.after_offerCall hocc

theorem Law.Holds.after_handPressAt {a n : Nat} {t : Seat} {levels : Buttons} {b : Button} (hs : l.Holds s)
    (ht : l = .seated → s.hmu.seats.find n = some t) (ha : l = .seated → t.desk = some a) :
    l.Holds (handPressAt a n t levels s b) := by
  cases b with
  | present => exact hs.after_presentPress fun _ h => h.after_setFeedback
  | finish => exact hs.after_finishPress
  | call =>
    change l.Holds (if _ then _ else _)
    split
    next occ =>
      have hocc : t.state = .occupied := eq_of_beq occ
      exact hs.after_callPress (fun hl => ⟨t, ht hl, hocc⟩) fun hl => ⟨n, t, ht hl, ha hl, hocc⟩
    · exact hs.after_unexpectedPress
  | breakKey =>
    change l.Holds (if _ then _ else _)
    split
    next occ => exact hs.after_offerCall fun hl => ⟨t, ht hl, eq_of_beq occ⟩
    · exact hs.after_unexpectedPress

theorem Law.Holds.after_handPress {a : Nat} {levels : Buttons} {b : Button} (hs : l.Holds s) :
    l.Holds (handPress a levels b s) := by
  unfold handPress
  dsimp only
  have closed : l.Holds (modDesk a (fun d => { d with
      presses := d.presses.drop 1, window := if b == .finish then d.window else none }) s) := hs.after_modDesk
  generalize modDesk a _ s = s₁ at closed ⊢
  split
  · exact closed
  next n hn =>
    split
    · exact closed.after_readSeat
    next t ht =>
      split
      · exact closed.after_readSeat
      · have named : l = .seated → t.desk = some a := fun hl => by
          subst hl
          obtain ⟨u, hu, hua⟩ := State.seatOfDesk_eq_some (s₁.tablesSorted_iff.mp closed.1).2.1 hn
          obtain ⟨v, hv, hvt⟩ := readRecord_seat? ht
          obtain rfl : u = v := Option.some.inj (hu.symm.trans hv)
          rw [hvt]
          exact hua
        cases hocc : t.occupant with
        | none =>
          dsimp only
          split
          · exact closed.after_readSeat
          · exact closed.after_readSeat.after_handPressAt (fun _ => ht) named
        | some k =>
          dsimp only
          split
          · exact closed.after_readSeat.after_readSlot
          · exact closed.after_readSeat.after_readSlot.after_handPressAt (fun _ => by rw [readSlot_hmu]; exact ht) named

/-! ### Replies and exchanges -/

theorem Law.Holds.after_deskNotice {k : NoticeKind} {a : Nat} (hs : l.Holds s) : l.Holds (deskNotice k a s) :=
  hs.after_notify

theorem Law.Holds.after_acceptReply {a : Nat} {levels latches : Buttons} (hs : l.Holds s) :
    l.Holds (acceptReply a levels latches s) := by
  unfold acceptReply
  split
  · exact hs
  · exact hs.after_modDesk.after_countLongPress.foldl fun _ _ h => h.after_handPress

theorem Law.Holds.after_deskOnline {a : Nat} {d : Desk} (hs : l.Holds s) : l.Holds (deskOnline a d s) := by
  unfold deskOnline
  dsimp only
  split
  · exact hs.after_modDesk.after_deskNotice.after_retryTrigger
  · exact hs.after_modDesk.after_retryTrigger

theorem Law.Holds.after_takeReply {a : Nat} {raw latches : Buttons} {seq : Bool} (hs : l.Holds s) :
    l.Holds (takeReply a raw latches seq s) := by
  unfold takeReply
  split
  · exact hs
  · have answered : l.Holds (modDesk a (fun d => { d with misses := 0 }) s) := hs.after_modDesk
    dsimp only
    split
    · exact answered.after_modDesk (by simp [Desk.sampled])
    · split
      · exact answered.after_deskOnline.after_acceptReply
      · exact answered.after_modDesk (by simp [Desk.sampled])
    · split
      · exact answered.after_acceptReply
      · exact (answered.after_modDesk (by simp)).after_deskNotice

theorem Law.Holds.of_exchange {x : Option Exchange} (hs : l.Holds s) :
    l.Holds { s with dbc := { s.dbc with exchange := x } } := hs.of_dbc id id fun _ h => h

theorem Law.Holds.after_endExchange (hs : l.Holds s) : l.Holds (endExchange s) := hs.of_exchange

theorem Law.Holds.after_deskOffline {a : Nat} {b : Bool} (hs : l.Holds s) : l.Holds (deskOffline a b s) := by
  unfold deskOffline
  dsimp only
  split
  · exact (hs.after_modDesk (by simp)).after_deskNotice
  · exact hs.after_modDesk (by simp)

theorem Law.Holds.after_deskMiss {a : Nat} (hs : l.Holds s) : l.Holds (deskMiss a s) := by
  unfold deskMiss
  split
  · exact hs
  next d _ =>
    have faulted : l.Holds (if d.state == .offline then s else takeFault .desk .desk (some a) .lost s) := by
      split
      · exact hs
      · exact hs.after_takeFault
    dsimp only
    split
    · exact faulted.after_modDesk.after_deskOffline
    · exact faulted.after_modDesk

theorem Law.Holds.after_attemptFails {x : Exchange} (hs : l.Holds s) : l.Holds (attemptFails x s) := by
  unfold attemptFails
  split
  · exact hs.after_endExchange
  · split
    · exact hs.after_endExchange.after_deskMiss
    · exact hs.of_exchange

theorem Law.Holds.after_pollNext (hs : l.Holds s) : l.Holds (pollNext s) := by
  unfold pollNext
  split
  · split
    · exact hs
    · exact hs.of_dbc id id fun _ h => h
  · exact hs

theorem Law.Holds.after_deskReplies {frame : List Byte} {b q : Byte} (hs : l.Holds s) :
    l.Holds (deskReplies frame b q s) := by
  unfold deskReplies
  split
  · exact hs
  · split
    · exact hs.after_endExchange
    · split
      · exact hs.after_attemptFails
      · dsimp only
        split
        · exact hs.after_endExchange.after_takeFault.after_takeReply
        · exact hs.after_endExchange.after_takeReply

theorem Law.Holds.after_replyTimesOut (hs : l.Holds s) : l.Holds (replyTimesOut s) := by
  unfold replyTimesOut
  split
  · exact hs
  · exact hs.after_attemptFails

/-! ### The station's requests on desks -/

theorem Law.Holds.after_takeSetLamp {n c d t : Nat} (hs : l.Holds s) : l.Holds (takeSetLamp n c d t s).1 := by
  unfold takeSetLamp
  split
  · split
    · exact hs
    · dsimp only
      split
      · exact hs.after_readSeat
      · split
        · exact hs.after_readSeat
        · split
          · exact hs.after_readSeat
          · exact hs.after_readSeat.after_modDesk.after_done
  · exact hs

theorem Law.Holds.after_takeAnswerCall {n : Nat} (hs : l.Holds s) : l.Holds (takeAnswerCall n s).1 := by
  unfold takeAnswerCall
  split
  · exact hs
  · split
    · split
      · exact hs
      · exact hs.after_dropCall
    · exact hs

/-- Every desk record is changed, none to a long press it did not count. -/
theorem Law.Holds.of_allDesks {d : Dbc} {f : Nat → Desk → Desk} (hs : l.Holds s) (hd : d.desks = s.dbc.desks.mapAll f)
    (hc : ∃ p : Call → Bool, d.calls = s.dbc.calls.filter p)
    (hf : ∀ a k, (f a k).longPress.isSome = true → k.longPress.isSome = true) : l.Holds { s with dbc := d } := by
  obtain ⟨p, hc⟩ := hc
  refine hs.of_dbc (fun h => hd ▸ Table.mapAll_sorted h f) (fun h => callsLawful_filter h hc) fun _ h =>
    ⟨h.lawful, h.once, fun c hmem => h.calls c (List.mem_of_mem_filter (hc ▸ hmem)), fun a k hk press => ?_⟩
  rw [hd, Table.find_mapAll] at hk
  obtain ⟨e, he, rfl⟩ := Option.map_eq_some_iff.mp hk
  exact h.pressed a e he (hf a e press)

theorem Law.Holds.after_takeSetButtonSense {b v : Nat} (hs : l.Holds s) : l.Holds (takeSetButtonSense b v s).1 := by
  unfold takeSetButtonSense
  split
  · refine Law.Holds.after_done (hs.of_allDesks (f := fun _ d => d.resensed) rfl ⟨fun _ => true, by simp⟩ fun _ k => ?_)
    unfold Desk.resensed
    dsimp only
    split <;> simp
  · exact hs

end Sys2Proof.Machine

/-! PROOFS. The laws of O18 and O19 through the time base, the steps of a hall second, the allocator and the hall map. -/

namespace Sys2Proof.Machine

set_option Elab.async false

variable {l : Law} {s : State}

/-! ### The time base (chapter 4) -/

theorem inTrimRange_iff (d : Nat) : inTrimRange d = true ↔ 522240 ≤ d ∧ d ≤ 526336 := by
  simp only [inTrimRange, Bool.and_eq_true, decide_eq_true_eq]
  rfl

theorem clampTrim_eq (d : Nat) : clampTrim d = if d < 522240 then 522240 else if 526336 < d then 526336 else d := rfl

theorem inTrimRange_clampTrim (d : Nat) : inTrimRange (clampTrim d) = true := by
  rw [inTrimRange_iff, clampTrim_eq]
  split_ifs <;> omega

theorem Htb.lawful_iff (h : Htb) : h.lawful = true ↔
    inTrimRange h.trim = true ∧ (h.pendingTrim.map inTrimRange).getD true = true ∧ h.phase < h.trim + 16
      ∧ h.time < 86400 := by
  simp only [Htb.lawful, Bool.and_eq_true, and_assoc, decide_eq_true_eq]
  rfl

theorem Law.Holds.after_abandonCalibration {c : Nat} (hs : l.Holds s) : l.Holds (abandonCalibration c s) := by
  unfold abandonCalibration
  split
  · exact hs
  · exact (hs.of_htb (h := s.htb.calIdle) fun h => ⟨h, rfl, rfl⟩).after_notify

theorem Law.Holds.of_pendingTrim {d : Nat} (hs : l.Holds s) :
    l.Holds { s with htb := { s.htb with pendingTrim := some (clampTrim d) } } :=
  hs.of_htb fun h => by
    rw [Htb.lawful_iff] at h ⊢
    exact ⟨⟨h.1, inTrimRange_clampTrim d, h.2.2⟩, rfl, rfl⟩

theorem Law.Holds.after_takeSetTrim {d : Nat} (hs : l.Holds s) : l.Holds (takeSetTrim d s).1 :=
  hs.after_abandonCalibration.of_pendingTrim

theorem Law.Holds.after_takeCalibrate {n : Nat} (hs : l.Holds s) : l.Holds (takeCalibrate n s).1 := by
  unfold takeCalibrate
  split
  · exact hs
  · split
    · exact hs
    · exact hs.of_htb fun h => ⟨h, rfl, rfl⟩

theorem Law.Holds.after_referencePulseTaken (hs : l.Holds s) : l.Holds (referencePulseTaken s) := by
  unfold referencePulseTaken
  split
  · exact hs
  · exact hs.of_htb fun h => ⟨h, rfl, rfl⟩
  · have counted : l.Holds { s with htb := { s.htb with pulses := s.htb.pulses + 1, window := 0 } } :=
      hs.of_htb fun h => ⟨h, rfl, rfl⟩
    dsimp only
    split
    · exact (Law.Holds.of_pendingTrim (counted.of_htb (h := (Htb.calIdle _)) fun h => ⟨h, rfl, rfl⟩)).after_notify
    · exact counted

theorem Law.Holds.after_loseReference (hs : l.Holds s) : l.Holds (loseReference s) := by
  unfold loseReference
  split
  · exact hs.after_abandonCalibration
  · exact hs

theorem Law.Holds.after_takeSetTime {n : Nat} (hs : l.Holds s) : l.Holds (takeSetTime n s).1 := by
  unfold takeSetTime
  split
  · exact hs
  next range =>
    refine Law.Holds.after_done (Law.Holds.of_due (hs.of_htb fun h => ?_))
    rw [Htb.lawful_iff] at h ⊢
    exact ⟨⟨h.1, h.2.1, h.2.2.1, by simpa [Config.daySeconds] using range⟩, rfl, rfl⟩

theorem Htb.second_lawful {h : Htb} (hl : h.lawful = true) (hr : h.trim ≤ h.phase) : h.second.lawful = true := by
  rw [Htb.lawful_iff] at hl ⊢
  obtain ⟨ht, hp, hphase, htime⟩ := hl
  have trim : inTrimRange (h.pendingTrim.getD h.trim) = true := by
    cases hd : h.pendingTrim with
    | none => exact ht
    | some d => simpa [hd] using hp
  refine ⟨trim, rfl, ?_, ?_⟩
  · have floor := (inTrimRange_iff _).mp trim
    change h.phase - h.trim < h.pendingTrim.getD h.trim + 16
    omega
  · change (if h.time + 1 < 86400 then h.time + 1 else 0) < 86400
    split <;> omega

/-! ### The hall second (R62) -/

theorem Law.Holds.after_countSecond (hs : l.Holds s) : l.Holds (countSecond s) := by
  have slots := hs.of_rsu (m := (countSecond s).rsu) fun h => Table.mapAll_sorted h fun _ x => x.second s.ssu.held
  have papers := slots.of_ssu (m := (countSecond s).ssu) fun h => Table.mapAll_sorted h fun _ r => r.second s.ssu.held
  have desks := papers.of_allDesks (d := (countSecond s).dbc) (f := fun a d => d.second s.ssu.held (s.lampPending a)) rfl
    ⟨fun _ => true, (List.filter_eq_self.mpr fun _ _ => rfl).symm⟩ fun _ _ h => h
  exact desks.of_clu

theorem Law.Holds.after_makeHallSecond (hs : l.Holds { s with htb := s.htb.second }) : l.Holds (makeHallSecond s) :=
  Law.Holds.of_due (Law.Holds.after_countSecond hs.after_readSlots.after_readAllSeats)

/-- The steps made due (R33, R78, R84 to R87, R94, R98, R110, R115, R125). -/
theorem Law.Holds.after_takeDue {d : Due} (hs : l.Holds s) : l.Holds (takeDue s d) := by
  cases d with
  | notSeated k =>
    change l.Holds (notSeatedStep k s)
    unfold notSeatedStep
    split
    · exact hs
    · split
      · exact hs
      · exact hs.after_notify
  | roundTimeout c => exact hs.after_roundTimesOut
  | finishWindowExpiry a => exact hs.after_modDesk
  | lampItemExpiry a => exact hs.after_modDesk
  | pulseEnd =>
    change l.Holds (pulseEndStep s)
    unfold pulseEndStep
    split
    · exact hs.of_ssu
    · exact hs
  | breakOverrun k =>
    change l.Holds (breakOverrunStep k s)
    unfold breakOverrunStep
    split
    · exact hs
    · split
      · exact hs
      · exact hs.after_modClock.after_notify
  | clockExpiry =>
    change l.Holds (clockExpiryStep s)
    unfold clockExpiryStep
    dsimp only
    split
    · exact hs
    · exact hs.after_expireSlots
  | readingEnd p =>
    change l.Holds (readingEndStep p s)
    unfold readingEndStep
    split
    · exact hs
    · split
      · exact hs.after_writingStart
      · exact hs
  | admissionCloses p =>
    change l.Holds (admissionClosesStep p s)
    unfold admissionClosesStep
    split
    · exact hs
    · split
      · exact hs.after_closeAdmission
      · exact hs
  | writingEnd p =>
    change l.Holds (writingEndStep p s)
    unfold writingEndStep
    split
    · exact hs
    · split
      · exact hs
      · dsimp only
        split
        · exact hs.after_readPaper.after_enterPaperState
        · exact hs.after_readPaper.after_closePaper
  | clockWarning k =>
    change l.Holds (clockWarningStep k s)
    unfold clockWarningStep
    split
    · exact hs
    · split
      · exact hs
      · split
        · exact hs
        · dsimp only
          split
          · exact hs.after_modClock
          · unfold fireWarning
            split
            · exact hs.after_modClock
            · exact hs.after_modClock.after_modDesk
  | warning p =>
    change l.Holds (warningStep p s)
    unfold warningStep
    split
    · exact hs
    · exact hs.foldl fun _ _ h => h.after_notify
  | scheduledStart p =>
    change l.Holds (scheduledStartStep p s)
    unfold scheduledStartStep
    split
    · exact hs
    · split
      · exact hs
      · split
        · exact hs.after_modPaper
        · exact hs.after_makeStart

theorem Law.Holds.after_takeAllDue (hs : l.Holds s) : l.Holds (takeAllDue s) :=
  Law.Holds.foldl hs.of_due fun _ _ h => h.after_takeDue

theorem Law.Holds.after_takeDueNow {d : Due} (hs : l.Holds s) : l.Holds (takeDueNow d s) := by
  unfold takeDueNow
  split
  · exact Law.Holds.foldl hs.of_due fun _ _ h => h.after_takeDue
  · exact hs

/-! ### The allocator (chapter 3) -/

theorem Law.Holds.after_afterTry (hs : l.Holds s) : l.Holds (afterTry s) := by
  unfold afterTry
  split
  · exact hs.after_endWalk
  · exact hs.of_sal

theorem Law.Holds.after_answerAdmission {r : Requester} {o : Outcome} (hs : l.Holds s) :
    l.Holds (answerAdmission r o s) := by
  cases r with
  | door0 => exact hs.after_answerDoor
  | door1 => exact hs.after_answerDoor
  | station => exact hs.after_answerTaken
  | retry => exact hs

theorem Law.Holds.after_stopServing (hs : l.Holds s) : l.Holds (stopServing s) := hs.of_sal
theorem Law.Holds.after_serve {a : Allocation} (hs : l.Holds s) : l.Holds (serve a s) := hs.of_sal

theorem Law.Holds.after_endSuspect {r : Requester} (hs : l.Holds s) : l.Holds (endSuspect r s) := by
  unfold endSuspect
  dsimp only
  split
  · exact hs.after_stopServing.after_afterTry
  · exact hs.after_stopServing.after_answerAdmission

theorem Law.Holds.after_moveCursor {p z n : Nat} (hs : l.Holds s) : l.Holds (moveCursor p z n s) := hs.of_sal

theorem Law.Holds.after_placedNotice {k n : Nat} {b : Bool} (hs : l.Holds s) : l.Holds (placedNotice k n b s) := by
  unfold placedNotice
  split
  · exact hs
  · exact hs.after_notify

theorem Law.Holds.after_writeSeat {a : Allocation} {n : Nat} {b : Bool} (hs : l.Holds s) : l.Holds (writeSeat a n b s) := by
  unfold writeSeat
  dsimp only
  split
  · exact hs.after_holdSeat.after_modCand.after_leaveWaitList.after_placedNotice.after_stopServing.after_afterTry
  · exact hs.after_holdSeat.after_modCand.after_stopServing.after_modCand.after_answerAdmission.after_giveClock

theorem Law.Holds.after_writeWait {a : Allocation} (hs : l.Holds s) (room : s.sal.wait.length < 32) :
    l.Holds (writeWait a s) := by
  have joined := hs.after_modCand (k := a.slot)
      (f := fun c => { c with state := .waiting, source := none, admTime := some s.htb.time })
    |>.of_sal (m := { s.sal with wait := s.sal.wait ++ [a.slot] }) fun _ => by simpa using room
  exact joined.after_stopServing.after_answerAdmission.after_giveClock

theorem Law.Holds.after_writeListFull {a : Allocation} (hs : l.Holds s) : l.Holds (writeListFull a s) := by
  unfold writeListFull
  dsimp only
  split
  · exact hs.after_modCand.after_stopServing.after_answerAdmission.after_notify
  · exact hs.after_modCand.after_stopServing.after_answerAdmission

theorem Law.Holds.after_writeNoSeat {a : Allocation} (hs : l.Holds s) : l.Holds (writeNoSeat a s) := by
  unfold writeNoSeat
  split
  · exact hs.after_stopServing.after_afterTry
  · split
    next room => exact hs.after_writeWait room
    · exact hs.after_writeListFull

theorem Law.Holds.after_preplaceMissed {a : Allocation} {n : Nat} {r : PreplaceReason} (hs : l.Holds s) :
    l.Holds (preplaceMissed a n r s) := by
  unfold preplaceMissed
  split
  · exact hs
  · split
    · exact hs
    · exact hs.after_notify

theorem Law.Holds.after_beginAllocation {r : Requester} {k : Nat} (hs : l.Holds s) : l.Holds (beginAllocation r k s) := by
  unfold beginAllocation
  dsimp only
  split
  · exact hs.after_readSlot.after_endSuspect
  · split
    · exact hs.after_readSlot.after_endSuspect
    · split
      · exact hs.after_readSlot.after_serve
      · split
        · exact hs.after_readSlot.after_readAround.after_serve
        · exact hs.after_readSlot.after_readAround.after_serve.after_preplaceMissed

theorem Law.Holds.after_placeWaiting {k n : Nat} {x : Slot} {o : Bool} (hs : l.Holds s) :
    l.Holds (placeWaiting k x n o s).1 := by
  unfold placeWaiting
  dsimp only
  split
  · exact hs.after_readAround
  · exact hs.after_readAround.after_holdSeat.after_modCand.after_leaveWaitList

theorem inUse_of_moveRefusal {m n k p : Nat} {o : Bool} (h : s.moveRefusal m n k p o = none) {t : Seat}
    (ht : s.seat? m = some t) : t.state = .held ∨ t.state = .occupied := by
  unfold State.moveRefusal at h
  rw [ht] at h
  dsimp only at h
  split_ifs at h with _ fits
  simp only [Bool.or_eq_true, not_or, Bool.not_eq_true', Bool.not_eq_false, beq_iff_eq] at fits
  exact fits.2

theorem Law.Holds.after_placeMove {k n : Nat} {x : Slot} {o : Bool} (hs : l.Holds s) :
    l.Holds (placeMove k x n o s).1 := by
  unfold placeMove
  dsimp only
  split
  · exact hs.after_readSeat.after_readAround
  · split
    · exact hs.after_readSeat.after_readAround
    next ok =>
      exact (hs.after_readSeat.after_readAround.after_moveSeats fun t ht => inUse_of_moveRefusal ok ht).after_modCand

theorem Law.Holds.after_servePlace {n f : Nat} {m : Option Nat} (hs : l.Holds s) : l.Holds (servePlace n m f s).1 := by
  unfold servePlace
  split
  · exact hs
  · split
    · exact hs
    · dsimp only
      split
      · exact hs.after_readNumber
      · split
        · exact hs.after_readNumber
        · split
          · exact hs.after_readNumber
          · split
            · exact hs.after_readNumber
            · split
              · dsimp only
                exact hs.after_readNumber.after_modCand
              · exact hs.after_readNumber.after_placeWaiting
              · exact hs.after_readNumber.after_placeMove
              · exact hs.after_readNumber.after_placeMove
              all_goals exact hs.after_readNumber

theorem Law.Holds.after_serveRetry (hs : l.Holds s) : l.Holds (serveRetry s) := by
  have fixed : l.Holds (if s.sal.retry == .pending then { s with sal := { { s.sal with reqRetry := false } with
      span := s.sal.wait, retry := .walking } } else { s with sal := { s.sal with reqRetry := false } }) := by
    split <;> exact hs.of_sal
  unfold serveRetry
  dsimp only
  split
  · exact Law.Holds.after_endWalk fixed
  · exact Law.Holds.after_beginAllocation (Law.Holds.of_sal fixed)

theorem Law.Holds.after_chooseRequest (hs : l.Holds s) : l.Holds (chooseRequest s) := by
  unfold chooseRequest
  split
  · exact hs
  · split
    · exact hs
    next r _ =>
      cases r with
      | door0 =>
        unfold serveRequester
        dsimp only
        split
        · exact hs.of_sal
        · exact Law.Holds.after_beginAllocation hs.of_sal
      | door1 =>
        unfold serveRequester
        dsimp only
        split
        · exact hs.of_sal
        · exact Law.Holds.after_beginAllocation hs.of_sal
      | station =>
        unfold serveRequester
        dsimp only
        split
        · exact hs.of_sal
        · exact Law.Holds.after_beginAllocation hs.of_sal
        · exact (Law.Holds.after_servePlace hs.of_sal).after_answerTaken
      | retry => exact Law.Holds.after_serveRetry hs.of_sal

theorem Law.Holds.after_searchStep (hs : l.Holds s) : l.Holds (searchStep s) := by
  unfold searchStep
  split
  · exact hs
  · split
    · unfold searchOn
      split
      · exact hs.after_serve
      · split
        · exact hs.after_serve
        · dsimp only
          split
          · exact hs.after_readAround.after_serve
          · exact hs.after_readAround.after_serve
    · exact hs

theorem Law.Holds.after_askHold {a : Allocation} {n : Nat} {f : Option (Nat × Nat)} {m : Reason → State → State}
    (hs : l.Holds s) (hm : ∀ r t, l.Holds t → l.Holds (m r t)) : l.Holds (askHold a n f m s) := by
  unfold askHold
  dsimp only
  split
  · exact hm _ _ hs.after_readAround
  · exact hs.after_readAround.after_writeSeat
  · exact hs.after_readAround.after_moveCursor.after_writeSeat

theorem Law.Holds.after_outcomeStep (hs : l.Holds s) : l.Holds (outcomeStep s) := by
  unfold outcomeStep
  split
  · exact hs
  · split
    · exact hs
    · dsimp only
      split
      · exact hs.after_readSlot.after_endSuspect
      · split
        · split
          · exact hs.after_readSlot.after_stopServing.after_afterTry
          · exact hs.after_readSlot.after_stopServing
        · split
          · exact hs.after_readSlot.after_askHold fun _ _ h => h.after_serve.after_preplaceMissed
          · exact hs.after_readSlot.after_askHold fun _ _ h => h.after_serve
          · exact hs.after_readSlot.after_writeNoSeat

end Sys2Proof.Machine

/-! PROOFS. The laws of O18 and O19 through the requests on the hall map and Fault Capture's, the scan link, the marker and
CLEAR SITTING. -/

namespace Sys2Proof.Machine

set_option Elab.async false

variable {l : Law} {s : State}

/-! ### The desk table follows the addresses (R101) -/

theorem Table.find_filter_key {α : Type} (p : Nat → Bool) (t : Table α) (a : Nat) :
    Table.find (t.filter fun e => p e.1) a = if p a then t.find a else none := by
  induction t with
  | nil => simp [Table.find]
  | cons e t ih =>
    rw [List.filter_cons]
    by_cases he : e.1 = a
    · subst he
      by_cases hp : p e.1
      · simp [hp, Table.find]
      · simp only [hp, Bool.false_eq_true, if_false] at ih ⊢
        exact ih
    · have skip : Table.find (e :: t) a = Table.find t a := by simp [Table.find, he]
      rw [skip]
      split
      · rw [← ih]
        simp [Table.find, he]
      · exact ih

/-- The desk table with new records for the addresses named that have none. -/
def deskTable (named : List Nat) (t : Table Desk) : Table Desk :=
  named.foldl (fun (t : Table Desk) a => if (t.find a).isSome then t else t.put a .initial) t

theorem deskTable_sorted {named : List Nat} {t : Table Desk} (h : t.sorted = true) : (deskTable named t).sorted = true := by
  induction named generalizing t with
  | nil => exact h
  | cons b named ih =>
    refine ih ?_
    dsimp only
    split
    · exact h
    · exact Table.put_sorted h _ _

theorem deskTable_find {named : List Nat} {t : Table Desk} {a : Nat} {d : Desk} (h : (deskTable named t).find a = some d) :
    t.find a = some d ∨ d = Desk.initial := by
  induction named generalizing t with
  | nil => exact .inl h
  | cons b named ih =>
    rcases ih h with old | new
    · dsimp only at old
      split at old
      · exact .inl old
      · rw [Table.find_put] at old
        split at old
        · exact .inr (Option.some.inj old).symm
        · exact .inl old
    · exact .inr new

theorem Law.Holds.after_syncDesks (hs : l.Holds s) : l.Holds (syncDesks s) := by
  refine hs.of_dbc (fun h => deskTable_sorted (Table.filter_sorted h _)) id
    fun _ h => ⟨h.lawful, h.once, h.calls, fun a d hd press => ?_⟩
  rcases deskTable_find hd with kept | new
  · rw [Table.find_filter_key fun b => s.addresses.contains b] at kept
    split at kept
    · exact h.pressed a d kept press
    · exact nomatch kept
  · simp [new, Desk.initial] at press

/-! ### The hall map (chapter 1) -/

theorem Law.Holds.after_takeDefineZone {z p a b : Nat} (hs : l.Holds s) : l.Holds (takeDefineZone z p a b s).1 := by
  unfold takeDefineZone
  split
  · split
    · exact hs
    · split
      · exact hs.after_setZone.after_done
      · dsimp only
        split
        · exact hs.after_readSeats
        · split
          · exact hs.after_readSeats
          · refine Law.Holds.after_done ?_
            split
            · exact hs.after_readSeats.after_setZone.after_retryTrigger
            · exact hs.after_readSeats.after_setZone
  · exact hs

theorem Law.Holds.after_takeOpenZone {z : Nat} (hs : l.Holds s) : l.Holds (takeOpenZone z s).1 := by
  unfold takeOpenZone
  split
  · exact hs
  · split
    · exact hs
    · refine Law.Holds.after_done ?_
      split
      · exact hs.after_setZone.after_retryTrigger
      · exact hs.after_setZone

theorem Law.Holds.after_takeCloseZone {z : Nat} (hs : l.Holds s) : l.Holds (takeCloseZone z s).1 := by
  unfold takeCloseZone
  split
  · exact hs
  · split
    · exact hs
    · exact hs.after_setZone.after_done

theorem Law.Holds.after_takeSetAdmission {z c a : Nat} (hs : l.Holds s) : l.Holds (takeSetAdmission z c a s).1 := by
  unfold takeSetAdmission
  split
  · split
    · exact hs
    · split
      · exact hs
      · refine Law.Holds.after_done ?_
        split
        · exact hs.after_setZone.after_retryTrigger
        · exact hs.after_setZone
  · exact hs

/-- While no seat is in use there are no calls and no long presses, whatever becomes of the map. -/
theorem Seated.of_vacant {seats seats' : Table Seat} {desks : Table Desk} {calls : List Call}
    (h : Seated seats desks calls) (hv : ∀ n t, seats.find n = some t → t.state.inUse = false)
    (hl : ∀ n t, seats'.find n = some t → t.lawful = true)
    (ho : ∀ n m t u a, seats'.find n = some t → seats'.find m = some u → t.desk = some a → u.desk = some a → n = m) :
    Seated seats' desks calls := by
  have none_occupied {n t} (hn : seats.find n = some t) (hocc : t.state = .occupied) : False := by
    simpa [hocc, SeatState.inUse] using hv n t hn
  refine ⟨hl, ho, fun c hc => ?_, fun a d hd press => ?_⟩
  · obtain ⟨t, ht, hocc⟩ := h.calls c hc
    exact (none_occupied ht hocc).elim
  · obtain ⟨n, t, ht, -, hocc⟩ := h.pressed a d hd press
    exact (none_occupied ht hocc).elim

theorem Table.find_of_any_false {α : Type} {t : Table α} {p : α → Bool} (h : t.any p = false) {k : Nat} {a : α}
    (hk : t.find k = some a) : p a = false := by
  induction t with
  | nil => exact nomatch hk
  | cons e t ih =>
    simp only [Table.any, List.any_cons, Bool.or_eq_false_iff] at h
    simp only [Table.find] at hk
    split at hk
    · exact Option.some.inj hk ▸ h.1
    · exact ih h.2 hk

/-- The seat table with a new row's seats. -/
def rowSeats (zone number first : Nat) (is : List Nat) (t : Table Seat) : Table Seat :=
  is.foldl (fun (t : Table Seat) i => t.put (first + i) (Seat.initial zone number (i + 1))) t

theorem rowSeats_sorted {z r f : Nat} {is : List Nat} {t : Table Seat} (h : t.sorted = true) :
    (rowSeats z r f is t).sorted = true := by
  induction is generalizing t with
  | nil => exact h
  | cons i is ih => exact ih (Table.put_sorted h _ _)

theorem rowSeats_find {z r f : Nat} {is : List Nat} {t : Table Seat} {n : Nat} {u : Seat}
    (h : (rowSeats z r f is t).find n = some u) : t.find n = some u ∨ ∃ i, u = Seat.initial z r i := by
  induction is generalizing t with
  | nil => exact .inl h
  | cons i is ih =>
    rcases ih h with old | new
    · rw [Table.find_put] at old
      split at old
      · exact .inr ⟨_, (Option.some.inj old).symm⟩
      · exact .inl old
    · exact .inr new

theorem Law.Holds.after_addRow {z r c f : Nat} (hs : l.Holds s) (hv : s.hmu.seats.any (·.state.inUse) = false) :
    l.Holds (addRow z r c f s) := by
  have added : l.Holds { s with hmu := { s.hmu with
      rows := s.hmu.rows ++ [⟨z, r, c, f⟩], seats := rowSeats z r f (List.range c) s.hmu.seats } } := by
    refine hs.of_seats (d := s.dbc) id rowSeats_sorted id id fun _ h => h.of_vacant
      (fun n t ht => Table.find_of_any_false hv ht) (fun n t ht => ?_) fun n m t u a hn hm ht hu => ?_
    · rcases rowSeats_find ht with old | ⟨i, rfl⟩
      · exact h.lawful n t old
      · rfl
    · rcases rowSeats_find hn with oldn | ⟨i, rfl⟩
      · rcases rowSeats_find hm with oldm | ⟨i, rfl⟩
        · exact h.once n m t u a oldn oldm ht hu
        · exact nomatch hu
      · exact nomatch ht
  exact added.of_upsets

theorem Law.Holds.after_takeDefineRow {z c : Nat} (hs : l.Holds s) : l.Holds (takeDefineRow z c s).1 := by
  unfold takeDefineRow
  split
  · exact hs
  · split
    · exact hs
    · dsimp only
      split
      · exact hs.after_readAllSeats
      · split
        · exact hs.after_readAllSeats
        next vacant =>
          split
          · exact hs.after_readAllSeats
          · exact (hs.after_readAllSeats.after_addRow (by simpa using vacant)).after_done

theorem Law.Holds.after_takeResetMap (hs : l.Holds s) : l.Holds (takeResetMap s).1 := by
  unfold takeResetMap
  dsimp only
  split
  · exact hs.after_readAllSeats
  · split
    · exact hs.after_readAllSeats
    next vacant =>
      have emptied : l.Holds { readAllSeats s with hmu := .reset } :=
        hs.after_readAllSeats.of_seats (fun _ => rfl) (fun _ => rfl) id id fun _ h => h.of_vacant
          (fun n t ht => Table.find_of_any_false (p := (·.state.inUse)) (by simpa using vacant) ht) (fun _ _ h => nomatch h)
          fun _ _ _ _ _ h => nomatch h
      exact Law.Holds.of_sal emptied.after_syncDesks

theorem Seat.withAvailability_lawful {t : Seat} {c : SeatClass} {d : Option Nat} {v : Nat} (h : t.lawful = true)
    (hd : addressOk d = true) (hu : ¬(t.state == .held || t.state == .occupied) = true) :
    ({ t with cls := c, desk := d }.withAvailability v).lawful = true
      ∧ ({ t with cls := c, desk := d }.withAvailability v).desk = d := by
  simp only [Seat.lawful, Bool.and_eq_true] at h
  obtain ⟨⟨⟨ho, hp⟩, hm⟩, -⟩ := h
  unfold Seat.withAvailability
  refine ⟨?_, by split <;> [split <;> rfl; rfl]⟩
  simp only [Bool.or_eq_true, beq_iff_eq, not_or] at hu
  have empty : t.occupant = none := by
    simpa [beq_false_of_ne hu.1, beq_false_of_ne hu.2] using ho
  split
  · split
    · simp_all [Seat.lawful, SeatState.inUse]
    · simp_all [Seat.lawful]
  · simp [Seat.lawful, SeatState.inUse, empty, hd]

theorem Law.Holds.after_takeSetSeat {n c v : Nat} {d : Option Nat} (hs : l.Holds s) :
    l.Holds (takeSetSeat n c d v s).1 := by
  unfold takeSetSeat
  split
  · exact hs
  · split
    · exact hs
    next values =>
      dsimp only
      split
      · exact hs.after_readSeat
      next t ht =>
        split
        · exact hs.after_readSeat
        · split
          · exact hs.after_readSeat
          next free =>
            split
            · exact hs.after_readSeat
            next unused =>
              refine (Law.Holds.after_syncDesks (hs.after_readSeat.after_putSeat fun hl old ho hlaw => ?_)).after_done
              obtain rfl : t = old := Option.some.inj (ht.symm.trans ho)
              have ok : addressOk d = true := by
                simp only [Bool.or_eq_true, not_or, Bool.not_eq_true', Bool.not_eq_false] at values
                exact values.2
              obtain ⟨lawful, desk⟩ := Seat.withAvailability_lawful (c := ‹SeatClass›) (v := v) hlaw ok unused
              refine ⟨lawful, .inr ⟨fun hocc => unused (by simp [hocc]), fun m u a hm ha hu => ?_⟩⟩
              by_contra hne
              subst hl
              have seats := ((readSeat n s).tablesSorted_iff.mp hs.after_readSeat.1).2.1
              obtain rfl : d = some a := desk.symm.trans ha
              exact free (List.any_eq_true.mpr ⟨(m, u), (Table.mem_iff_find seats m u).mpr hm, by simp [hne, hu]⟩)

theorem Law.Holds.after_takeClearSeat {n : Nat} (hs : l.Holds s) : l.Holds (takeClearSeat n s).1 := by
  unfold takeClearSeat
  dsimp only
  split
  · exact hs.after_readSeat
  · split
    · exact hs.after_readSeat
    · split
      · exact hs.after_readSeat
      · exact hs.after_readSeat.after_freeSeat.after_done

theorem Law.Holds.after_takeQuerySeat {n : Nat} (hs : l.Holds s) : l.Holds (takeQuerySeat n s).1 := by
  unfold takeQuerySeat
  dsimp only
  split
  · exact hs.after_readSeat
  · split
    · exact hs.after_readSeat
    · exact hs.after_readSeat.after_done

theorem Law.Holds.after_takeQueryZone {z : Nat} (hs : l.Holds s) : l.Holds (takeQueryZone z s).1 := by
  unfold takeQueryZone
  split
  · exact hs
  · split
    · exact hs
    · exact hs.after_readSeats.after_done

/-! ### The scan link (chapter 8) -/

theorem Law.Holds.after_formKeysFollow {f : Nat} (hs : l.Holds s) : l.Holds (formKeysFollow f s) :=
  hs.foldl fun _ _ h => h.after_removeKeys

theorem Law.Holds.after_takeDefineForm {f q : Nat} (hs : l.Holds s) : l.Holds (takeDefineForm f q s).1 := by
  unfold takeDefineForm
  split
  · exact hs
  · dsimp only
    split
    · exact hs.after_readResults
    · split
      · exact hs.after_readResults
      · split
        · exact hs.after_readResults
        · refine Law.Holds.after_done ?_
          split
          · exact Law.Holds.after_formKeysFollow hs.after_readResults.of_mru
          · exact hs.after_readResults.of_mru

theorem Law.Holds.after_scanAnswer {a : ScanAnswer} (hs : l.Holds s) : l.Holds (scanAnswer a s) := hs.of_mru

theorem Law.Holds.after_settleWait {k : FaultKind} {w : ResendWait} (hs : l.Holds s) : l.Holds (settleWait k w s) :=
  hs.after_takeFault

theorem Law.Holds.after_settleWaits {k : ScanKind} {r : Option Nat} (hs : l.Holds s) : l.Holds (settleWaits k r s) :=
  Law.Holds.foldl hs.of_mru fun _ _ h => h.after_settleWait

theorem Law.Holds.after_loseWaits (hs : l.Holds s) : l.Holds (loseWaits s) :=
  Law.Holds.foldl hs.of_mru fun _ _ h => h.after_settleWait

theorem Law.Holds.after_answerResend (hs : l.Holds s) : l.Holds (answerResend s) := hs.after_scanAnswer

theorem Law.Holds.after_scanBroken {k i : Nat} {e : Bool} (hs : l.Holds s) : l.Holds (scanBroken k i e s) := by
  unfold scanBroken
  split
  · exact hs
  · split
    · exact hs
    · unfold recordBroken
      dsimp only
      split
      · exact Law.Holds.after_answerResend hs.of_mru
      · exact Law.Holds.of_mru hs.of_mru

theorem Law.Holds.after_scanSilent {m : Bool} (hs : l.Holds s) : l.Holds (scanSilent m s) := by
  unfold scanSilent
  split
  · exact Law.Holds.after_answerResend hs.of_mru
  · split
    · exact hs.after_answerResend
    · exact hs

theorem Law.Holds.after_rejectFrame {b : Nat} {c : RejectCause} (hs : l.Holds s) : l.Holds (rejectFrame b c s) :=
  hs.after_setBuffer.after_scanAnswer.after_notify

/-- FRAME OPEN with no frame open (R143). -/
def openFrame (f n : Nat) (s : State) : State :=
  if (s.mru.forms.find f).isNone then scanAnswer (.reject .noForm (some n)) s
  else match s.freeBuffer with
    | none => scanAnswer .busy s
    | some b => setBuffer b ⟨.filling, some f, some n, [], false⟩ s

theorem frameOpens_eq (f n : Nat) (s : State) : frameOpens f n s =
    openFrame f n (match s.filling with | none => s | some b => setBuffer b .initial s) := rfl

theorem Law.Holds.after_openFrame {f n : Nat} (hs : l.Holds s) : l.Holds (openFrame f n s) := by
  unfold openFrame
  split
  · exact hs.after_scanAnswer
  · split
    · exact hs.after_scanAnswer
    · exact hs.after_setBuffer

theorem Law.Holds.after_frameOpens {f n : Nat} (hs : l.Holds s) : l.Holds (frameOpens f n s) := by
  rw [frameOpens_eq]
  refine Law.Holds.after_openFrame ?_
  split
  · exact hs
  · exact hs.after_setBuffer

theorem Law.Holds.after_rowArrives {i : Nat} {v : List Byte} (hs : l.Holds s) : l.Holds (rowArrives i v s) := by
  unfold rowArrives
  split
  · exact hs
  · dsimp only
    split
    · exact hs.after_rejectFrame
    · split
      · exact hs.after_rejectFrame
      · exact hs.after_setBuffer

theorem Law.Holds.after_frameCloses {n : Nat} (hs : l.Holds s) : l.Holds (frameCloses n s) := by
  unfold frameCloses
  split
  · exact hs.after_scanAnswer
  · dsimp only
    split
    · exact hs.after_rejectFrame
    · split
      · exact hs.after_rejectFrame
      · exact Law.Holds.after_scanAnswer hs.after_setBuffer.of_mru

theorem Law.Holds.after_scanRecord {k : ScanKind} {r : Option Nat} {f : State → State} (hs : l.Holds s)
    (hf : ∀ t, l.Holds t → l.Holds (f t)) : l.Holds (scanRecord k r f s) := by
  unfold scanRecord
  split
  · exact hs
  · exact hf _ hs.after_settleWaits

end Sys2Proof.Machine

/-! PROOFS. The laws of O18 and O19 through the marker, the repairs and CLEAR SITTING; an exception entry gets a number
that no entry of the list has (chapters 9 and 11). -/

namespace Sys2Proof.Machine

set_option Elab.async false

variable {l : Law} {s : State}

/-! ### The number of a new exception entry (R148) -/

/-- Where the search for a free number ends at one in use, it has looked at no free one. -/
theorem mem_of_freeNumber_mem {es : List SheetException} {fuel n : Nat}
    (h : freeNumber es fuel n ∈ es.map (·.number)) :
    ∀ i, i < fuel → (if i = 0 then n else (n + i) % 65536) ∈ es.map (·.number) := by
  induction fuel generalizing n with
  | zero => exact fun _ hi => absurd hi (Nat.not_lt_zero _)
  | succ fuel ih =>
    unfold freeNumber at h
    split at h
    next used =>
      intro i hi
      obtain ⟨e, he, hn⟩ := List.any_eq_true.mp used
      have hn : e.number = n := by simpa using hn
      cases i with
      | zero => exact List.mem_map.mpr ⟨e, he, hn⟩
      | succ i =>
        have next := ih h i (Nat.lt_of_succ_lt_succ hi)
        split at next
        next h0 => simpa [h0] using next
        · have same : ((n + 1) % 65536 + i) % 65536 = (n + (i + 1)) % 65536 := by omega
          simpa [same] using next
    next unused =>
      obtain ⟨e, he, hn⟩ := List.mem_map.mp h
      exact (unused (List.any_eq_true.mpr ⟨e, he, by simpa using hn⟩)).elim

theorem freeNumber_notMem {es : List SheetException} {n : Nat} (h : es.length < 32) :
    freeNumber es 33 n ∉ es.map (·.number) := by
  intro used
  have run : (List.range 32).map (fun i => (n + (i + 1)) % 65536) ⊆ es.map (·.number) := by
    intro m hm
    obtain ⟨i, hi, rfl⟩ := List.mem_map.mp hm
    simpa using mem_of_freeNumber_mem used (i + 1) (by have := List.mem_range.mp hi; omega)
  have nodup : ((List.range 32).map fun i => (n + (i + 1)) % 65536).Nodup :=
    List.Nodup.map_on (fun i hi j hj hij => by
      have := List.mem_range.mp hi
      have := List.mem_range.mp hj
      omega) List.nodup_range
  have long := (List.subperm_of_subset nodup run).length_le
  simp only [List.length_map, List.length_range] at long
  omega

theorem Law.Holds.after_joinExceptions {n f : Nat} {w : Failure} {o : List RowOutcome} (hs : l.Holds s)
    (room : s.mru.exceptions.length < 32) : l.Holds (joinExceptions n f w o s) := by
  refine Law.Holds.after_notify (hs.of_mru fun h => ?_)
  simp only [Mru.exceptionsLawful, distinct_iff_nodup, Bool.and_eq_true, decide_eq_true_eq, List.map_append,
    List.length_append, List.map_cons, List.map_nil, List.length_singleton] at h ⊢
  refine ⟨room, List.Nodup.append h.2 (List.nodup_singleton _) fun m hm hn => freeNumber_notMem (n := s.mru.counter) room ?_⟩
  exact List.mem_singleton.mp hn ▸ hm

theorem Law.Holds.after_leaveExceptions {n : Nat} (hs : l.Holds s) : l.Holds (leaveExceptions n s) := by
  refine hs.of_mru fun h => ?_
  simp only [Mru.exceptionsLawful, distinct_iff_nodup, Bool.and_eq_true, decide_eq_true_eq] at h ⊢
  exact ⟨(List.length_filter_le _ _).trans h.1, h.2.sublist (List.Sublist.map _ List.filter_sublist)⟩

theorem Law.Holds.after_modException {n : Nat} {f : SheetException → SheetException} (hs : l.Holds s)
    (hf : ∀ e, (f e).number = e.number) : l.Holds (modException n f s) :=
  hs.of_exceptions fun e => by
    split
    · exact hf e
    · rfl

/-! ### The marker (chapter 9) -/

theorem Law.Holds.after_takeSetMarking {m p q : Nat} (hs : l.Holds s) : l.Holds (takeSetMarking m p q s).1 := hs.of_mru

theorem Law.Holds.after_rescoreLater {p : Nat} (hs : l.Holds s) : l.Holds (rescoreLater p s) := by
  have pending : l.Holds (rescoreLater.pending p s) := by
    unfold rescoreLater.pending
    split
    · exact hs
    · exact hs.of_mru
  unfold rescoreLater
  split
  · split
    · exact hs.of_mru
    · exact pending
  · exact pending

theorem Law.Holds.after_writeResult {k : Nat} {r : ResultRecord} (hs : l.Holds s) : l.Holds (writeResult k r s) :=
  Law.Holds.of_upsets hs.of_mru

theorem Law.Holds.after_dropResult {k : Nat} (hs : l.Holds s) : l.Holds (dropResult k s) :=
  Law.Holds.of_upsets hs.of_mru

theorem Law.Holds.after_passOn (hs : l.Holds s) : l.Holds (passOn s) := by
  unfold passOn
  split
  · exact hs
  · split
    · exact hs
    · split
      · exact hs.of_mru
      · exact Law.Holds.after_notify hs.of_mru

theorem Law.Holds.after_startPass (hs : l.Holds s) : l.Holds (startPass s) := by
  unfold startPass
  split
  · exact hs.of_mru
  · exact hs

theorem Law.Holds.after_setMarker {m : Option MarkOp} (hs : l.Holds s) : l.Holds (setMarker m s) := hs.of_mru

theorem Law.Holds.after_takeRescore (hs : l.Holds s) : l.Holds (takeRescore s) := by
  unfold takeRescore
  dsimp only
  split
  · exact hs.after_startPass.after_passOn
  · split
    · exact hs.after_startPass.after_passOn
    · split
      · exact hs.after_startPass.after_passOn
      · exact hs.after_startPass.after_passOn.after_setMarker

theorem Law.Holds.after_takeWork (hs : l.Holds s) : l.Holds (takeWork s) := by
  unfold takeWork
  split
  · exact (Law.Holds.after_setBuffer hs.of_mru).after_setMarker
  · split
    · exact Law.Holds.after_setMarker (hs.after_modException (by simp))
    · exact hs.after_takeRescore

theorem Law.Holds.after_decodeStage {f : Nat} {o : List RowOutcome} (hs : l.Holds s) : l.Holds (decodeStage f o s).1 := by
  unfold decodeStage
  dsimp only
  split <;> exact hs.after_readDecoded

theorem Law.Holds.after_reachDecoded {f : Nat} {o : List RowOutcome} {g : Progress} (hs : l.Holds s) :
    l.Holds (reachDecoded f o g s).1 := by
  unfold reachDecoded
  split
  · exact hs.after_decodeStage
  · exact hs

theorem Law.Holds.after_reachSnapshot {f : Nat} {o : List RowOutcome} {g : Progress} (hs : l.Holds s) :
    l.Holds (reachSnapshot f o g s).1 := by
  have decoded := hs.after_decodeStage (f := f) (o := o)
  unfold reachSnapshot
  split
  · exact hs
  · exact hs
  · split
    next h => rwa [h] at decoded
    next h => rwa [h] at decoded

theorem Law.Holds.after_markerIdle (hs : l.Holds s) : l.Holds (markerIdle s) := hs.after_setMarker.after_releaseHeld

theorem Law.Holds.after_finishStages {n f : Nat} {o : List RowOutcome} {g : Progress} (hs : l.Holds s) :
    l.Holds (finishStages n f o g s).1 := by
  have reached := hs.after_reachSnapshot (f := f) (o := o) (g := g)
  unfold finishStages
  split
  next h => rwa [h] at reached
  next h =>
    rw [h] at reached
    exact Law.Holds.after_readDecoded reached

theorem Law.Holds.after_storeResult {k p : Nat} {r : ResultRecord} (hs : l.Holds s) : l.Holds (storeResult k p r s) := by
  unfold storeResult
  dsimp only
  split
  · exact hs.after_writeResult.after_rescoreLater
  · exact hs.after_writeResult

theorem Law.Holds.after_endSheet {b n f : Nat} {o : List RowOutcome} {m : Marked} (hs : l.Holds s) :
    l.Holds (endSheet b n f o m s) := by
  unfold endSheet
  split
  · exact hs.after_storeResult.after_setBuffer.after_notify
  · split
    next room =>
      refine hs.after_setBuffer.after_joinExceptions ?_
      unfold setBuffer
      split <;> exact room
    · exact Law.Holds.after_notify hs.after_setBuffer.of_mru

theorem Law.Holds.after_exceptionNotice {e : SheetException} {b : Bool} (hs : l.Holds s) :
    l.Holds (exceptionNotice e b s) := hs.after_notify

theorem Law.Holds.after_endRetry {e : SheetException} {m : Marked} (hs : l.Holds s) : l.Holds (endRetry e m s) := by
  unfold endRetry
  split
  · exact hs.after_storeResult.after_leaveExceptions.after_notify
  · dsimp only
    split
    · exact Law.Holds.after_exceptionNotice (hs.after_modException (by simp))
    · exact hs.after_modException fun _ => rfl

theorem Law.Holds.after_endOperation {w : MarkWork} {n f : Nat} {o : List RowOutcome} {m : Marked} (hs : l.Holds s) :
    l.Holds (endOperation w n f o m s) := by
  unfold endOperation
  refine Law.Holds.after_markerIdle ?_
  split
  · exact hs.after_endSheet
  · split
    · exact hs
    · exact hs.after_endRetry
  · exact hs

theorem Law.Holds.after_finishOperation {m : MarkOp} (hs : l.Holds s) : l.Holds (finishOperation m s) := by
  unfold finishOperation
  split
  · exact hs.after_markerIdle
  · exact hs.after_finishStages.after_endOperation

theorem Law.Holds.after_sheetEnds (hs : l.Holds s) : l.Holds (sheetEnds s) := by
  unfold sheetEnds
  split
  · exact hs.after_finishOperation
  · exact hs

theorem Law.Holds.after_retryEnds (hs : l.Holds s) : l.Holds (retryEnds s) := by
  unfold retryEnds
  split
  · exact hs.after_finishOperation
  · exact hs

theorem Law.Holds.after_advanceMarker {r : Nat} (hs : l.Holds s) : l.Holds (advanceMarker r s) := by
  unfold advanceMarker
  split
  · exact hs
  · split
    · exact hs
    next m _ _ _ f o _ =>
      split
      · exact hs
      · have reached : l.Holds (if r = 1 then reachDecoded f o m.work.progress s else
            ((reachSnapshot f o m.work.progress s).1, (reachSnapshot f o m.work.progress s).2.map .snapshot)).1 := by
          split
          · exact hs.after_reachDecoded
          · exact hs.after_reachSnapshot
        dsimp only
        split
        · exact Law.Holds.after_setMarker reached
        · exact Law.Holds.after_endOperation reached

theorem Law.Holds.after_markerTakesWork {r : Nat} (hs : l.Holds s) : l.Holds (markerTakesWork r s) := by
  unfold markerTakesWork
  refine Law.Holds.after_advanceMarker ?_
  split
  · exact hs.after_takeWork
  · exact hs

theorem Law.Holds.after_modPass {f : Pass → Pass} (hs : l.Holds s) : l.Holds (modPass f s) := hs.of_mru

theorem Law.Holds.after_removeSuspect {k : Nat} (hs : l.Holds s) : l.Holds (removeSuspect k s) :=
  hs.after_dropResult.after_notify.after_queueRetries.after_modPass

theorem Law.Holds.after_rescoreRecord {k p g : Nat} {old : ResultRecord} {key : Option (List KeyEntry)} (hs : l.Holds s) :
    l.Holds (rescoreRecord k p old key g s) := by
  unfold rescoreRecord
  dsimp only
  split
  · exact hs.after_readResult
  · split
    · split
      · exact hs.after_readResult.after_modPass
      · exact hs.after_readResult
    · split
      · exact hs.after_readResult
      · split
        · split
          · exact (Law.Holds.after_modPass hs.after_readResult.of_mru).after_rescoreLater
          · exact Law.Holds.after_modPass hs.after_readResult.of_mru
        · exact hs.after_readResult

theorem Law.Holds.after_rescoreEnds (hs : l.Holds s) : l.Holds (rescoreEnds s) := by
  unfold rescoreEnds
  split
  · refine Law.Holds.after_markerIdle (Law.Holds.after_passOn (Law.Holds.after_modPass ?_))
    split
    · split
      · exact hs.after_removeSuspect
      · exact hs
    · exact hs.after_rescoreRecord
  · exact hs

theorem Law.Holds.after_readPaperResults {p : Nat} (hs : l.Holds s) : l.Holds (readPaperResults p s) :=
  hs.foldl fun _ _ h => h.after_readResult

theorem Law.Holds.after_installKey {g : Staging} (hs : l.Holds s) : l.Holds (installKey g s) := by
  unfold installKey
  dsimp only
  split
  · exact (Law.Holds.after_queueRetries hs.after_readPaperResults.of_mru).after_rescoreLater
  · exact Law.Holds.after_queueRetries hs.after_readPaperResults.of_mru

theorem Law.Holds.after_startStaging {p v q m : Nat} (hs : l.Holds s) : l.Holds (startStaging p v q m s) := by
  unfold startStaging
  split
  · exact hs.of_mru
  · exact hs

theorem Law.Holds.after_takeKeyEntry {f r : Nat} {ps : List (Nat × Nat)} (hs : l.Holds s) :
    l.Holds (takeKeyEntry f r ps s).1 := by
  unfold takeKeyEntry
  split
  · exact hs
  · split
    · exact hs
    · split
      · exact hs
      · dsimp only
        split
        · exact hs.after_installKey
        · exact hs.of_mru

theorem Law.Holds.after_takeAssignSheet {e n v : Nat} (hs : l.Holds s) : l.Holds (takeAssignSheet e n v s).1 := by
  unfold takeAssignSheet
  split
  · exact hs
  · split
    · dsimp only
      split
      · exact hs.after_readSlot
      · split
        · exact hs.after_readSlot
        · split
          · exact hs.after_readSlot
          · split
            · exact hs.after_readSlot
            · split
              · exact hs.after_readSlot
              · split
                · exact hs.after_readSlot
                · split
                  · exact hs.after_readSlot
                  · split
                    · exact hs.after_readSlot
                    · exact hs.after_readSlot.after_writeResult.after_leaveExceptions.after_done
    · exact hs

theorem Law.Holds.after_takeDiscardSheet {e : Nat} (hs : l.Holds s) : l.Holds (takeDiscardSheet e s).1 := by
  unfold takeDiscardSheet
  split
  · exact hs
  · refine Law.Holds.after_done ?_
    split
    · exact hs.after_leaveExceptions.after_markerIdle
    · exact hs.after_leaveExceptions

theorem Law.Holds.after_takeReadException {e : Nat} (hs : l.Holds s) : l.Holds (takeReadException e s).1 := by
  unfold takeReadException
  split <;> exact hs

theorem Law.Holds.after_takeReadResult {n : Nat} (hs : l.Holds s) : l.Holds (takeReadResult n s).1 := by
  unfold takeReadResult
  split
  · exact hs
  · refine hs.after_withCandidate fun k x t h => ?_
    split
    · exact h
    · split
      · exact h
      · dsimp only
        split
        · exact h.after_readResult
        · exact h.after_readResult.after_done

/-! ### Fault Capture (chapter 11) -/

theorem Law.Holds.after_takeSetReporting {n : Nat} (hs : l.Holds s) : l.Holds (takeSetReporting n s).1 := by
  unfold takeSetReporting
  split
  · exact hs
  · exact hs.of_fcu

theorem Law.Holds.after_takeReadFault (hs : l.Holds s) : l.Holds (takeReadFault s).1 := hs.of_fcu

theorem Law.Holds.after_afterRepair {k : Nat} {w : Bool} {n : Option Nat} {ps : List Nat} (hs : l.Holds s) :
    l.Holds (afterRepair k w n ps s) := by
  have left : l.Holds (if w then s else leaveWaitList k s) := by
    split
    · exact hs
    · exact hs.after_leaveWaitList
  exact left.after_repairReport.after_queueRetries.foldl fun _ _ h => h.after_closeIfSettled

theorem Law.Holds.after_repairUsed {k : Nat} {f : CandidateFields} (hs : l.Holds s) : l.Holds (repairUsed k f s).1 := by
  unfold repairUsed
  split
  · exact hs
  · split
    · exact hs
    · split
      · exact hs
      · split
        · exact hs
        · split
          · exact hs
          · split
            · exact hs
            · dsimp only
              split
              · exact hs.after_readSeatsNamed
              · split
                · exact hs.after_readSeatsNamed
                · exact hs.after_readSeatsNamed.after_writeSlot.after_afterRepair.after_done

theorem Law.Holds.after_unuseSlot {k : Nat} (hs : l.Holds s) : l.Holds (unuseSlot k s) :=
  Law.Holds.of_upsets (hs.of_rsu fun h => Table.drop_sorted h _)

theorem Law.Holds.after_repairUnused {k : Nat} (hs : l.Holds s) : l.Holds (repairUnused k s).1 := by
  unfold repairUnused
  split
  · exact hs
  · split
    · exact hs
    · split
      · exact hs
      · dsimp only
        split
        · exact hs.after_readAllSeats
        · split
          · exact hs.after_readAllSeats
          · exact hs.after_readAllSeats.after_unuseSlot.after_afterRepair.after_done

theorem Law.Holds.after_takeRepairCandidate {k u : Nat} {f : Option CandidateFields} (hs : l.Holds s) :
    l.Holds (takeRepairCandidate k u f s).1 := by
  unfold takeRepairCandidate
  split
  · exact hs.after_repairUsed
  · exact hs.after_repairUnused
  · exact hs

end Sys2Proof.Machine

/-! PROOFS. The laws of O18 and O19 through REPAIR SEAT, CLEAR SITTING and the station link, and so through every step a
command takes. -/

namespace Sys2Proof.Machine

set_option Elab.async false

variable {l : Law} {s : State}

/-! ### REPAIR SEAT (R180) -/

theorem State.mem_addresses {a : Nat} (h : s.hmu.seats.sorted = true) (ha : a ∈ s.addresses) :
    ∃ n t, s.hmu.seats.find n = some t ∧ t.desk = some a := by
  obtain ⟨e, he, hd⟩ := List.mem_filterMap.mp ha
  exact ⟨e.1, e.2, (Table.mem_iff_find h _ _).mp he, hd⟩

/-- A seat is written whole, whatever it was; of the calls none stays of it unless it is OCCUPIED now, and of the long
presses none whose address no OCCUPIED seat names now. -/
theorem Seated.repaired {seats : Table Seat} {desks desks' : Table Desk} {calls calls' : List Call} {n : Nat} {new : Seat}
    (h : Seated seats desks calls) (hl : new.lawful = true)
    (ha : ∀ m u a, seats.find m = some u → new.desk = some a → u.desk = some a → m = n)
    (hc : ∀ c ∈ calls', c ∈ calls ∧ (c.seat = n → new.state = .occupied))
    (hp : ∀ a d, desks'.find a = some d → d.longPress.isSome = true →
      (∃ e, desks.find a = some e ∧ e.longPress.isSome = true)
        ∧ (∃ m v, (seats.put n new).find m = some v ∧ v.desk = some a) ∧ (new.desk = some a → new.state = .occupied)) :
    Seated (seats.put n new) desks' calls' := by
  have self : (seats.put n new).find n = some new := Table.find_put_self _ _ _
  refine ⟨fun m u hu => ?_, fun i j u v a hi hj hu hv => ?_, fun c hmem => ?_, fun a d hdesk press => ?_⟩
  · rw [Table.find_put] at hu
    split_ifs at hu with hm
    · exact Option.some.inj hu ▸ hl
    · exact h.lawful m u hu
  · rw [Table.find_put] at hi hj
    split_ifs at hi hj with h1 h2 h3
    · exact h1.trans h2.symm
    · exact h1.trans (ha j v a hj (Option.some.inj hi ▸ hu) hv).symm
    · exact (ha i u a hi (Option.some.inj hj ▸ hv) hu).trans h3.symm
    · exact h.once i j u v a hi hj hu hv
  · obtain ⟨old, now⟩ := hc c hmem
    by_cases hn : c.seat = n
    · exact ⟨new, hn ▸ self, now hn⟩
    · obtain ⟨t, ht, hocc⟩ := h.calls c old
      exact ⟨t, by rw [Table.find_put_of_ne _ _ hn]; exact ht, hocc⟩
  · obtain ⟨⟨e, he, hpress⟩, ⟨m, v, hm, hva⟩, now⟩ := hp a d hdesk press
    obtain ⟨i, u, hi, hua, hocc⟩ := h.pressed a e he hpress
    by_cases hin : i = n
    · by_cases hmn : m = n
      · subst hmn
        obtain rfl : new = v := Option.some.inj (self.symm.trans hm)
        exact ⟨m, new, self, hva, now hva⟩
      · rw [Table.find_put_of_ne _ _ hmn] at hm
        exact absurd (hin ▸ h.once m i v u a hm hi hva hua) hmn
    · exact ⟨i, u, by rw [Table.find_put_of_ne _ _ hin]; exact hi, hua, hocc⟩

/-- The seat table with a repaired record, and the desk table following its addresses. -/
def seatRewritten (n : Nat) (new : Seat) (s : State) : State :=
  syncDesks (mendRecord (.seat n) { s with hmu := { s.hmu with seats := s.hmu.seats.put n new } })

/-- What a repaired seat leaves at its desk and in the call list. -/
def Dbc.afterRepair (n : Nat) (new : Seat) (d : Dbc) : Dbc :=
  { d with
    desks := match new.desk with
      | none => d.desks
      | some a => d.desks.modify a (Desk.afterRepair new.state)
    calls := if new.state == .occupied then d.calls else d.calls.filter fun c => c.seat != n }

theorem writeRepairedSeat_eq (n : Nat) (new : Seat) (s : State) : writeRepairedSeat n new s =
    let t := { seatRewritten n new s with dbc := (seatRewritten n new s).dbc.afterRepair n new }
    if new.state == .free then retryTrigger t else t := by
  unfold writeRepairedSeat Dbc.afterRepair
  dsimp only
  cases new.desk with
  | none => cases new.state == .occupied <;> rfl
  | some a => cases new.state == .occupied <;> rfl

theorem Dbc.afterRepair_find (n : Nat) (new : Seat) (d : Dbc) (a : Nat) : (d.afterRepair n new).desks.find a =
    (d.desks.find a).map fun k => if new.desk = some a then k.afterRepair new.state else k := by
  unfold Dbc.afterRepair
  cases hd : new.desk with
  | none => simp
  | some b =>
    simp only [Table.find_modify, Option.some.injEq]
    by_cases h : a = b
    · simp [h]
    · simp [h, Ne.symm h]

theorem Dbc.afterRepair_sorted {n : Nat} {new : Seat} {d : Dbc} (h : d.desks.sorted = true) :
    (d.afterRepair n new).desks.sorted = true := by
  unfold Dbc.afterRepair
  cases new.desk with
  | none => exact h
  | some a => exact Table.modify_sorted h _ _

theorem Dbc.afterRepair_calls (n : Nat) (new : Seat) (d : Dbc) : ∃ p : Call → Bool,
    (d.afterRepair n new).calls = d.calls.filter p ∧ ∀ c, p c = true → c.seat = n → new.state = .occupied := by
  unfold Dbc.afterRepair
  dsimp only
  split
  next occ => exact ⟨fun _ => true, (List.filter_eq_self.mpr fun _ _ => rfl).symm, fun _ _ _ => eq_of_beq occ⟩
  · exact ⟨_, rfl, fun c hp hn => absurd hn (by simpa using hp)⟩

theorem seatRewritten_find {n : Nat} {new : Seat} (h : s.hmu.seats.sorted = true) {a : Nat} {d : Desk}
    (hd : (seatRewritten n new s).dbc.desks.find a = some d) (press : d.longPress.isSome = true) :
    (∃ e, s.dbc.desks.find a = some e ∧ e.longPress.isSome = true)
      ∧ ∃ m v, (s.hmu.seats.put n new).find m = some v ∧ v.desk = some a := by
  rcases deskTable_find hd with kept | fresh
  · rw [Table.find_filter_key fun b => State.addresses _ |>.contains b] at kept
    split at kept
    next named => exact ⟨⟨d, kept, press⟩, State.mem_addresses (Table.put_sorted h _ _) (by simpa using named)⟩
    · exact nomatch kept
  · simp [fresh, Desk.initial] at press

theorem Law.Holds.after_writeRepairedSeat {n : Nat} {new : Seat} (hs : l.Holds s) (hl : new.lawful = true)
    (ha : l = .seated → ∀ m u a, s.seat? m = some u → new.desk = some a → u.desk = some a → m = n) :
    l.Holds (writeRepairedSeat n new s) := by
  have written : l.Holds { seatRewritten n new s with dbc := (seatRewritten n new s).dbc.afterRepair n new } := by
    obtain ⟨p, hcalls, only⟩ := Dbc.afterRepair_calls n new (seatRewritten n new s).dbc
    refine Law.Holds.of_upsets (hs.of_seats (h := { s.hmu with seats := s.hmu.seats.put n new }) id
      (fun h => Table.put_sorted h _ _) (fun h => Dbc.afterRepair_sorted (deskTable_sorted (Table.filter_sorted h _)))
      (fun h => callsLawful_filter h hcalls) fun hlaw hk => ?_)
    subst hlaw
    refine hk.repaired hl (ha rfl) (fun c hmem => ?_) fun a k hfind press => ?_
    · rw [hcalls, List.mem_filter] at hmem
      exact ⟨hmem.1, only c hmem.2⟩
    · rw [Dbc.afterRepair_find] at hfind
      obtain ⟨e, he, rfl⟩ := Option.map_eq_some_iff.mp hfind
      have kept : e.longPress.isSome = true ∧ (new.desk = some a → new.state = .occupied) := by
        unfold Desk.afterRepair at press
        split_ifs at press <;> simp_all
      obtain ⟨was, named⟩ := seatRewritten_find (s.tablesSorted_iff.mp hs.1).2.1 he kept.1
      exact ⟨was, named, kept.2⟩
  rw [writeRepairedSeat_eq]
  dsimp only
  split
  · exact written.after_retryTrigger
  · exact written

theorem repairedSeat_lawful {n : Nat} {old : Seat} {f : SeatFields} {c : SeatClass} {st : SeatState}
    (h : seatFieldsOk n f st = true) : (repairedSeat old f c st).lawful = true := by
  simp only [seatFieldsOk, Bool.and_eq_true] at h
  obtain ⟨⟨⟨⟨⟨⟨⟨-, ha⟩, -⟩, -⟩, -⟩, -⟩, ho⟩, hp⟩ := h
  cases hu : st.inUse with
  | true => simp_all [Seat.lawful, repairedSeat]
  | false => simp_all [Seat.lawful, repairedSeat]

theorem Law.Holds.after_takeRepairSeat {n : Nat} {f : SeatFields} (hs : l.Holds s) : l.Holds (takeRepairSeat n f s).1 := by
  unfold takeRepairSeat
  split
  · split
    · exact hs
    next values =>
      split
      · exact hs
      · split
        · exact hs
        · have read := hs.after_readAllSeats.after_readSlots
          dsimp only
          split
          · exact read
          · split
            · exact read
            next free =>
              refine (read.after_writeRepairedSeat (repairedSeat_lawful (by simpa using values))
                fun hl m u a hm hd hu => ?_).after_done
              by_contra hne
              subst hl
              have seats := (State.tablesSorted_iff _).mp read.1 |>.2.1
              have hd : f.desk = some a := hd
              simp only [State.seatConflict, Bool.or_eq_true, not_or] at free
              exact free.1.1.1.1 (by
                rw [hd]
                exact List.any_eq_true.mpr ⟨(m, u), (Table.mem_iff_find seats m u).mpr hm, by simp [hne, hu]⟩)
  · exact hs

/-! ### CLEAR SITTING (R99) -/

theorem Seat.cleared_lawful {t : Seat} (h : t.lawful = true) : t.cleared.lawful = true := by
  simp only [Seat.lawful, Bool.and_eq_true] at h
  unfold Seat.cleared
  split <;> simp [Seat.lawful, SeatState.inUse, h.2]

theorem clearedSlots_sorted {t : Table Slot} (h : t.sorted = true) : (clearedSlots t).sorted = true :=
  Table.mapAll_sorted (Table.filter_sorted h _) fun _ x => x.cleared

theorem Law.Holds.after_clearTables (hs : l.Holds s) : l.Holds (clearTables s) := by
  have seats : l.Holds { s with hmu := (clearTables s).hmu, dbc := (clearTables s).dbc } := by
    refine hs.of_seats id (fun h => Table.mapAll_sorted h fun _ t => t.cleared)
      (fun h => Table.mapAll_sorted h fun _ d => d.cleared) (fun _ => rfl) fun _ h => ⟨fun n t hn => ?_,
        fun n m t u a hn hm ht hu => ?_, fun _ hc => (List.not_mem_nil hc).elim, fun a d hd press => ?_⟩
    · change (s.hmu.seats.mapAll fun _ t => t.cleared).find n = _ at hn
      rw [Table.find_mapAll] at hn
      obtain ⟨e, he, rfl⟩ := Option.map_eq_some_iff.mp hn
      exact Seat.cleared_lawful (h.lawful n e he)
    · change (s.hmu.seats.mapAll fun _ t => t.cleared).find n = _ at hn
      change (s.hmu.seats.mapAll fun _ t => t.cleared).find m = _ at hm
      rw [Table.find_mapAll] at hn hm
      obtain ⟨e, he, rfl⟩ := Option.map_eq_some_iff.mp hn
      obtain ⟨f, hf, rfl⟩ := Option.map_eq_some_iff.mp hm
      exact h.once n m e f a he hf ht hu
    · change (s.dbc.desks.mapAll fun _ d => d.cleared).find a = _ at hd
      rw [Table.find_mapAll] at hd
      obtain ⟨e, -, rfl⟩ := Option.map_eq_some_iff.mp hd
      exact nomatch press
  have rest := (((seats.of_rsu (m := (clearTables s).rsu) clearedSlots_sorted).of_sal (m := (clearTables s).sal)
    fun _ => Nat.zero_le _).of_ssu (m := (clearTables s).ssu) fun h => Table.mapAll_sorted h fun _ r => r.cleared).of_clu
    (m := (clearTables s).clu)
  exact (rest.of_mru (m := (clearTables s).mru) fun _ => rfl).of_upsets

theorem Law.Holds.after_takeClearSitting (hs : l.Holds s) : l.Holds (takeClearSitting s).1 := by
  unfold takeClearSitting
  split
  · exact hs
  · have cleared := hs.after_readAllSeats.after_clearTables.foldl (xs := s.ssu.papers.keysWhere fun r => r.state != .defined)
      (f := fun s p => notify .paperState [u8 p, u8 PaperState.defined.ctorIdx, u24 s.htb.time] s) fun _ _ h => h.after_notify
    exact cleared.after_answerDoor.after_answerDoor.after_loseWaits.after_markerIdle

/-! ### Requests and the station link (chapter 10) -/

theorem Law.Holds.after_runRequest {i : Instr} (hs : l.Holds s) : l.Holds (runRequest s i).1 := by
  cases i with
  | defineZone => exact hs.after_takeDefineZone
  | openZone => exact hs.after_takeOpenZone
  | closeZone => exact hs.after_takeCloseZone
  | setAdmission => exact hs.after_takeSetAdmission
  | defineRow => exact hs.after_takeDefineRow
  | setSeat => exact hs.after_takeSetSeat
  | clearSeat => exact hs.after_takeClearSeat
  | resetMap => exact hs.after_takeResetMap
  | querySeat => exact hs.after_takeQuerySeat
  | queryZone => exact hs.after_takeQueryZone
  | setAllowance => exact hs.after_takeSetAllowance
  | admitCandidate => exact hs.after_takeAdmit
  | place => exact hs.of_sal
  | withdraw => exact hs.after_takeWithdraw
  | queryCandidate => exact hs.after_takeQueryCandidate
  | setBooklets => exact hs.after_takeSetBooklets
  | definePaper => exact hs.after_takeDefinePaper
  | setZoneOrder => exact hs.after_takeSetZoneOrder
  | setWarnings => exact hs.after_takeSetWarnings
  | openPaper => exact hs.after_takeOpenPaper
  | startPaper => exact hs.after_takeStartPaper
  | endPaper => exact hs.after_takeEndPaper
  | hold => exact hs.after_takeHold
  | release => exact hs.after_takeRelease
  | setContactSense => exact hs.after_takeSetContactSense
  | breakGrant => exact hs.after_takeBreakGrant
  | finishCandidate => exact hs.after_takeFinishCandidate
  | grantTime => exact hs.after_takeGrantTime
  | setTime => exact hs.after_takeSetTime
  | calibrate => exact hs.after_takeCalibrate
  | setTrim => exact hs.after_takeSetTrim
  | clearSitting => exact hs.after_takeClearSitting
  | queryPaper => exact hs.after_takeQueryPaper
  | setButtonSense => exact hs.after_takeSetButtonSense
  | answerCall => exact hs.after_takeAnswerCall
  | setLamp => exact hs.after_takeSetLamp
  | collectorOn => exact hs.after_takeCollectorOn
  | collectorOff => exact hs.after_takeCollectorOff
  | takeRound => exact hs.after_takeTakeRound
  | defer => exact hs.after_takeDefer
  | collectDirect => exact hs.after_takeCollectDirect
  | queryReconcile => exact hs.after_takeQueryReconcile
  | queryQueue => exact hs.after_takeQueryQueue
  | defineForm => exact hs.after_takeDefineForm
  | setMarking => exact hs.after_takeSetMarking
  | assignSheet => exact hs.after_takeAssignSheet
  | discardSheet => exact hs.after_takeDiscardSheet
  | readException => exact hs.after_takeReadException
  | readResult => exact hs.after_takeReadResult
  | setReporting => exact hs.after_takeSetReporting
  | readFault => exact hs.after_takeReadFault
  | repairSeat => exact hs.after_takeRepairSeat
  | repairCandidate => exact hs.after_takeRepairCandidate
  | _ => exact hs

theorem Law.Holds.after_finishTaking {k : Nat} {r : Response} (hs : l.Holds r.1) : l.Holds (finishTaking k r) := by
  obtain ⟨t, a⟩ := r
  cases a with
  | none => exact Law.Holds.of_sli hs
  | some a => exact Law.Holds.after_addReply hs

theorem Law.Holds.after_takeRequest {i : Instr} (hs : l.Holds s) : l.Holds (takeRequest i s) := by
  unfold takeRequest
  split
  · exact hs.of_sli
  · exact hs.after_runRequest.after_finishTaking

theorem Law.Holds.after_runEntry {h : BatchHeader} {e : BatchEntry} (hs : l.Holds s) : l.Holds (runEntry h e s).1 := by
  unfold runEntry
  split
  · exact hs.after_takeCandidateEntry
  · exact hs.after_takeConfirmEntry
  · exact hs.after_takeKeyEntry
  · exact hs

theorem Law.Holds.after_handEntry {t : BatchTaken} {e : BatchEntry × Bool} (hs : l.Holds s) :
    l.Holds (handEntry t e s).1 := by
  unfold handEntry
  split
  · exact hs
  · split
    · exact hs
    · split
      · exact hs
      · exact hs.after_runEntry

theorem Law.Holds.after_handEntries {es : List (BatchEntry × Bool)} {t : BatchTaken} (hs : l.Holds s) :
    l.Holds (handEntries es s t).1 := by
  induction es generalizing s t with
  | nil => exact hs
  | cons e es ih => exact ih hs.after_handEntry

theorem Law.Holds.after_startBatch {h : BatchHeader} (hs : l.Holds s) : l.Holds (startBatch h s) := by
  cases h with
  | loadKey => exact hs.after_startStaging
  | _ => exact hs

theorem Law.Holds.after_takeBatch {b : Batch} (hs : l.Holds s) : l.Holds (takeBatch b s).1 := by
  have started (c : Bool) : l.Holds (if c then startBatch b.header s else s) := by
    split
    · exact hs.after_startBatch
    · exact hs
  exact Law.Holds.after_handEntries (started _)

theorem Law.Holds.after_setReceive {r : Receive} (hs : l.Holds s) : l.Holds (setReceive r s) := hs.of_sli
theorem Law.Holds.after_setTaken {t : Option Taken} (hs : l.Holds s) : l.Holds (setTaken t s) := hs.of_sli
theorem Law.Holds.after_setWaiting {w : Option Waiting} (hs : l.Holds s) : l.Holds (setWaiting w s) := hs.of_sli

theorem Law.Holds.after_takeWholeBatch {b : Batch} (hs : l.Holds s) : l.Holds (takeWholeBatch b s) :=
  hs.after_takeBatch.after_addReply

theorem Law.Holds.after_takeWaitingRequest (hs : l.Holds s) : l.Holds (takeWaitingRequest s) := by
  unfold takeWaitingRequest
  split
  · exact hs.after_setWaiting.after_takeRequest
  · exact hs.after_setWaiting.after_takeWholeBatch
  · exact hs

theorem Law.Holds.after_takeArriving (hs : l.Holds s) : l.Holds (takeArriving s) := by
  unfold takeArriving
  split
  · split
    · exact hs.after_setReceive.after_takeBatch.after_setTaken
    · exact hs
  · exact hs

theorem Law.Holds.after_takeNext (hs : l.Holds s) : l.Holds (takeNext s) := by
  unfold takeNext
  split
  · exact hs.after_takeWaitingRequest
  · exact hs.after_takeArriving

theorem Law.Holds.after_loseCharacters (hs : l.Holds s) : l.Holds (loseCharacters s) := by
  unfold loseCharacters
  split
  · exact hs.after_setReceive
  · exact hs

theorem Law.Holds.after_breakRecord (hs : l.Holds s) : l.Holds (breakRecord s) := by
  unfold breakRecord
  split
  · exact hs.after_setReceive.after_setTaken.after_addReply
  · exact hs.after_setReceive

theorem Law.Holds.after_arrive {k : Nat} {f : State → State} (hs : l.Holds s)
    (hf : ∀ t, l.Holds t → l.Holds (f t)) : l.Holds (arrive k f s) := by
  unfold arrive
  split
  · exact hs.after_loseCharacters
  · dsimp only
    split
    · exact hs.after_breakRecord.after_setReceive
    · exact hf _ hs.after_breakRecord

theorem Law.Holds.after_placeRequest {k : Nat} {w : Waiting} {f : State → State} (hs : l.Holds s)
    (hf : ∀ t, l.Holds t → l.Holds (f t)) : l.Holds (placeRequest k w f s) := by
  unfold placeRequest
  split
  · exact hf _ hs
  · split
    · exact hs.after_setWaiting
    · exact hs.after_addReply

theorem Law.Holds.after_receiveRequest {i : Instr} (hs : l.Holds s) : l.Holds (receiveRequest i s) :=
  hs.after_arrive fun _ h => h.after_placeRequest fun _ h => h.after_takeRequest

theorem Law.Holds.after_receiveHeader {h : BatchHeader} {c : Bool} {n : Nat} {b : Bool} (hs : l.Holds s) :
    l.Holds (receiveHeader h c n b s) := hs.after_arrive fun _ h => h.after_setReceive.after_takeArriving

theorem Law.Holds.after_receiveEntry {e : BatchEntry} {c : Bool} {n : Nat} (hs : l.Holds s) :
    l.Holds (receiveEntry e c n s) := by
  unfold receiveEntry
  split
  · exact hs.after_loseCharacters
  · split
    · split
      · exact hs
      · dsimp only
        split
        · exact hs.after_setReceive.after_handEntry.after_setTaken
        · exact hs.after_setReceive
    · exact hs

theorem Law.Holds.after_judgeBatch {b : Batch} {ok : Bool} (hs : l.Holds s) : l.Holds (judgeBatch b ok s) := by
  unfold judgeBatch
  split
  · exact hs.after_addReply
  · split
    · exact hs.after_addReply
    · exact hs.after_placeRequest fun _ h => h.after_takeWholeBatch

theorem Law.Holds.after_receiveEnd {ok : Bool} (hs : l.Holds s) : l.Holds (receiveEnd ok s) := by
  unfold receiveEnd
  split
  · exact hs.after_loseCharacters
  · split
    · split
      · exact hs
      · dsimp only
        split
        · exact hs.after_setReceive.after_setTaken.after_addReply
        · exact hs.after_setReceive.after_judgeBatch
    · exact hs

theorem Law.Holds.after_receiveLead {k : Nat} (hs : l.Holds s) : l.Holds (receiveLead k s) := by
  unfold receiveLead
  split
  · exact hs.after_loseCharacters
  · exact hs.after_breakRecord.after_setReceive

theorem Law.Holds.after_answerBad {k : Nat} {ok : Bool} (hs : l.Holds s) : l.Holds (answerBad k ok s) :=
  hs.after_arrive fun _ h => h.after_addReply

theorem Law.Holds.after_receiveWarnings {p : Nat} {ts : List Nat} (hs : l.Holds s) : l.Holds (receiveWarnings p ts s) := by
  unfold receiveWarnings
  split
  · exact hs.after_receiveRequest
  · exact hs.after_answerBad

theorem Law.Holds.after_receiveBatch {h : BatchHeader} {c b ok : Bool} {n : Nat} {es : List (BatchEntry × Bool)}
    (hs : l.Holds s) : l.Holds (receiveBatch h c n b es ok s) :=
  (hs.after_receiveHeader.foldl fun _ _ h => h.after_receiveEntry).after_receiveEnd

theorem Law.Holds.after_receiveRecord {cs : List Byte} (hs : l.Holds s) : l.Holds (receiveRecord cs s) := by
  unfold receiveRecord
  split
  · dsimp only
    split
    · exact hs
    · split
      · exact hs.after_receiveBatch
      · exact hs.after_receiveBatch
      · exact hs.after_receiveBatch
      · split
        · exact hs.after_receiveRequest
        · exact hs.after_answerBad
  · exact hs

theorem Law.Holds.after_startOutput (hs : l.Holds s) : l.Holds (startOutput s) := by
  unfold startOutput
  split
  · exact hs
  · split
    · exact hs.of_sli
    · exact hs.of_sli
    · exact hs.of_sli
    · exact hs

theorem Law.Holds.after_recordLeaves (hs : l.Holds s) : l.Holds (recordLeaves s) := by
  unfold recordLeaves
  split
  · exact hs
  · exact hs.of_sli
  · exact hs.of_sli
  · exact hs.of_sli fun h => (List.length_drop ▸ Nat.sub_le _ _ : _ ≤ _).trans h

theorem Law.Holds.after_recordSent (hs : l.Holds s) : l.Holds (recordSent s) := by
  unfold recordSent
  split
  · exact hs.after_recordLeaves.after_startOutput
  · exact hs

end Sys2Proof.Machine

/-! PROOFS. What every step keeps: O18 and O19. -/

namespace Sys2Proof.Machine

set_option Elab.async false

variable {l : Law} {s : State}

/-! ### A hall second, and the steps that fall due -/

/-- A hall second keeps every law but the values of D and the phase it changes. -/
theorem Law.Holds.after_second (hl : l.Untimed) (hs : l.Holds s) : l.Holds (makeHallSecond s) :=
  Law.Holds.after_makeHallSecond (by
    cases l with
    | time d p => exact hl.elim
    | _ => exact hs)

theorem time_after_second (h : s.htb.lawful = true) (hr : s.secondReached = true) :
    (Law.time s.htb.second.trim s.htb.second.phase).Holds (makeHallSecond s) :=
  Law.Holds.after_makeHallSecond ⟨Htb.second_lawful h (by simpa [State.secondReached] using hr), rfl, rfl⟩

theorem Law.Holds.after_settle (hl : l.Untimed) (hs : l.Holds s) : l.Holds (settle s) := by
  have second {t : State} (ht : l.Holds t) : l.Holds (settleSecond t) := by
    unfold settleSecond
    split
    · exact (ht.after_second hl).after_takeAllDue
    · exact ht
  exact (second hs.after_loseReference.after_takeAllDue).after_takeWaitingRequest.after_takeAllDue.after_takeArriving
    |>.after_takeAllDue.after_startOutput

/-- Settled, the time base is lawful and its phase below D. -/
theorem settle_time (h : s.htb.lawful = true) :
    ∃ d p, p < d ∧ (Law.time d p).Holds (settle s) := by
  have lost : (Law.time s.htb.trim s.htb.phase).Holds (takeAllDue (loseReference s)) :=
    Law.Holds.after_takeAllDue (Law.Holds.after_loseReference ⟨h, rfl, rfl⟩)
  have second : ∃ d p, p < d ∧ (Law.time d p).Holds (settleSecond (takeAllDue (loseReference s))) := by
    obtain ⟨hlaw, -, -⟩ := lost
    generalize takeAllDue (loseReference s) = t at hlaw
    unfold settleSecond
    split
    next reached =>
      refine ⟨_, _, ?_, (time_after_second hlaw reached).after_takeAllDue⟩
      have lawful := Htb.second_lawful hlaw (by simpa [State.secondReached] using reached)
      obtain ⟨-, -, hphase, -⟩ := (Htb.lawful_iff _).mp hlaw
      have floor := (inTrimRange_iff _).mp ((Htb.lawful_iff _).mp lawful).1
      change t.htb.phase - t.htb.trim < _
      omega
    next early =>
      exact ⟨_, _, by simpa [State.secondReached] using early, hlaw, rfl, rfl⟩
  obtain ⟨d, p, hp, ht⟩ := second
  exact ⟨d, p, hp, ht.after_takeWaitingRequest.after_takeAllDue.after_takeArriving.after_takeAllDue.after_startOutput⟩

/-! ### What a tick leaves -/

theorem Htb.tick_trim (h : Htb) : h.tick.trim = h.trim := by
  unfold Htb.tick
  cases h.cal <;> rfl

theorem Htb.tick_pendingTrim (h : Htb) : h.tick.pendingTrim = h.pendingTrim := by
  unfold Htb.tick
  cases h.cal <;> rfl

theorem Htb.tick_phase (h : Htb) : h.tick.phase = h.phase + 16 := by
  unfold Htb.tick
  cases h.cal <;> rfl

theorem Htb.tick_time (h : Htb) : h.tick.time = h.time := by
  unfold Htb.tick
  cases h.cal <;> rfl

/-! ### Every command -/

/-- How a command acts: on the settled state, or as a step the part takes of itself. -/
inductive Acts (s : State) : State → Prop where
  | settled (f : State → State) (h : ∀ (l : Law) t, l.Holds t → l.Holds (f t)) : Acts s (settled f s)
  | itself (f : State → State) (h : ∀ (l : Law) t, l.Holds t → l.Holds (f t)) : Acts s (f s)
  | second : Acts s (hallSecondStep s)
  | tick (u : List Upset) : Acts s (Machine.settled (crystalTick u) s)
  | reset (r : Nat) : Acts s (State.resetWith r s.pending)

theorem Acts.request (i : Instr) : Acts s (Machine.settled (receiveRequest i) s) := .settled _ fun _ _ h => h.after_receiveRequest

theorem Acts.due (d : Due) : Acts s (takeDueNow d s) := .itself _ fun _ _ h => h.after_takeDueNow

theorem exec_acts (i : Instr) (s : State) : ∃ t, exec i s = .next t ∧ Acts s t := by
  cases i with
  | fullReset r1 r0 => exact ⟨_, rfl, .reset _⟩
  | linkReset => exact ⟨_, rfl, .settled _ fun _ _ h => h.of_sli⟩
  | recordGap => exact ⟨_, rfl, .settled _ fun _ _ h => h.after_breakRecord⟩
  | framingFault => exact ⟨_, rfl, .settled _ fun _ _ h => h.after_breakRecord⟩
  | badRecord => exact ⟨_, rfl, .settled _ fun _ _ h => h.after_receiveRecord⟩
  | waitingRequestTaken => exact ⟨_, rfl, .itself _ fun _ _ h => h.after_takeNext⟩
  | recordSent => exact ⟨_, rfl, .settled _ fun _ _ h => h.after_recordSent⟩
  | loadCandidates => exact ⟨_, rfl, .settled _ fun _ _ h => h.after_receiveHeader⟩
  | loadCandidatesEntry => exact ⟨_, rfl, .settled _ fun _ _ h => h.after_receiveEntry⟩
  | confirm => exact ⟨_, rfl, .settled _ fun _ _ h => h.after_receiveHeader⟩
  | confirmEntry => exact ⟨_, rfl, .settled _ fun _ _ h => h.after_receiveEntry⟩
  | loadKey => exact ⟨_, rfl, .settled _ fun _ _ h => h.after_receiveHeader⟩
  | loadKeyEntry => exact ⟨_, rfl, .settled _ fun _ _ h => h.after_receiveEntry⟩
  | batchRecordEnd => exact ⟨_, rfl, .settled _ fun _ _ h => h.after_receiveEnd⟩
  | setWarnings => exact ⟨_, rfl, .settled _ fun _ _ h => h.after_receiveWarnings⟩
  | cardRecord => exact ⟨_, rfl, .settled _ fun _ _ h => h.after_cardArrives⟩
  | arbiterChoice => exact ⟨_, rfl, .settled _ fun _ _ h => h.after_chooseRequest⟩
  | searchSeat => exact ⟨_, rfl, .settled _ fun _ _ h => h.after_searchStep⟩
  | allocationOutcome => exact ⟨_, rfl, .settled _ fun _ _ h => h.after_outcomeStep⟩
  | hallSecond => exact ⟨_, rfl, .second⟩
  | referencePulse => exact ⟨_, rfl, .settled _ fun _ _ h => h.after_referencePulseTaken⟩
  | calibrationLost => exact ⟨_, rfl, .itself _ fun _ _ h => h.after_loseReference⟩
  | contactGoesActive => exact ⟨_, rfl, .settled _ fun _ _ h => h.after_contactSample⟩
  | contactClear => exact ⟨_, rfl, .settled _ fun _ _ h => h.after_contactSample⟩
  | contactLevel => exact ⟨_, rfl, .settled _ fun _ _ h => h.after_contactSample⟩
  | clockExpiry => exact ⟨_, rfl, .due _⟩
  | breakOverrun => exact ⟨_, rfl, .due _⟩
  | notSeated => exact ⟨_, rfl, .due _⟩
  | readingEnd => exact ⟨_, rfl, .due _⟩
  | admissionCloses => exact ⟨_, rfl, .due _⟩
  | writingEnd => exact ⟨_, rfl, .due _⟩
  | scheduledStart => exact ⟨_, rfl, .due _⟩
  | clockWarning => exact ⟨_, rfl, .due _⟩
  | warning => exact ⟨_, rfl, .due _⟩
  | pulseEnd => exact ⟨_, rfl, .due _⟩
  | deskPoll => exact ⟨_, rfl, .settled _ fun _ _ h => h.after_pollNext⟩
  | deskReply => exact ⟨_, rfl, .settled _ fun _ _ h => h.after_deskReplies⟩
  | replyTimeout => exact ⟨_, rfl, .settled _ fun _ _ h => h.after_replyTimesOut⟩
  | finishWindowExpiry => exact ⟨_, rfl, .due _⟩
  | lampItemExpiry => exact ⟨_, rfl, .due _⟩
  | roundTimeout => exact ⟨_, rfl, .due _⟩
  | frameOpen => exact ⟨_, rfl, .settled _ fun _ _ h => h.after_scanRecord fun _ h => h.after_frameOpens⟩
  | row => exact ⟨_, rfl, .settled _ fun _ _ h => h.after_scanRecord fun _ h => h.after_rowArrives⟩
  | frameClose => exact ⟨_, rfl, .settled _ fun _ _ h => h.after_scanRecord fun _ h => h.after_frameCloses⟩
  | scanRecordBroken => exact ⟨_, rfl, .settled _ fun _ _ h => h.after_scanBroken⟩
  | scanGap => exact ⟨_, rfl, .settled _ fun _ _ h => h.after_scanSilent⟩
  | markerTakesWork => exact ⟨_, rfl, .settled _ fun _ _ h => h.after_markerTakesWork⟩
  | sheetOperationEnd => exact ⟨_, rfl, .settled _ fun _ _ h => h.after_sheetEnds⟩
  | retryEnd => exact ⟨_, rfl, .settled _ fun _ _ h => h.after_retryEnds⟩
  | rescoreStepEnd => exact ⟨_, rfl, .settled _ fun _ _ h => h.after_rescoreEnds⟩
  | crystalTick u => exact ⟨_, rfl, .tick u⟩
  | recordBrokenByLead => exact ⟨_, rfl, .settled _ fun _ _ h => h.after_receiveLead⟩
  | _ => exact ⟨_, rfl, .request _⟩

/-- A law other than the time base's is kept by whatever a command does, and holds after full reset. -/
theorem Acts.keeps {t : State} (ha : Acts s t) (hl : l.Untimed) (hs : l.Holds s) : l.Holds t := by
  have ticked {t : State} (u : List Upset) (ht : l.Holds t) : l.Holds (crystalTick u t) := by
    cases l with
    | time d p => exact hl.elim
    | _ => exact ht
  cases ha with
  | settled f h => exact h l _ (hs.after_settle hl)
  | itself f h => exact h l s hs
  | second =>
    unfold hallSecondStep
    split
    · exact hs.after_second hl
    · exact hs
  | tick u => exact ticked u (hs.after_settle hl)
  | reset r =>
    cases l with
    | time d p => exact hl.elim
    | notices => exact ⟨Nat.zero_le 64, Nat.zero_le 8⟩
    | waitList => exact Nat.zero_le 32
    | calls => rfl
    | exceptions => rfl
    | seated =>
      have empty : Seated [] [] [] :=
        ⟨fun _ _ h => (Option.some_ne_none _ h.symm).elim, fun _ _ _ _ _ h => (Option.some_ne_none _ h.symm).elim,
          fun _ h => (List.not_mem_nil h).elim, fun _ _ h => (Option.some_ne_none _ h.symm).elim⟩
      exact ⟨rfl, empty⟩

theorem Acts.keeps_time {t : State} (ha : Acts s t) (h : s.htb.lawful = true) : t.htb.lawful = true := by
  obtain ⟨d, p, hp, ht⟩ := settle_time h
  cases ha with
  | settled f hf => exact (hf _ _ ht).1
  | itself f hf => exact (hf (.time s.htb.trim s.htb.phase) s ⟨h, rfl, rfl⟩).1
  | second =>
    unfold hallSecondStep
    split
    next reached => exact (time_after_second h reached).1
    · exact h
  | tick u =>
    obtain ⟨hlaw, rfl, rfl⟩ := ht
    change (settle s).htb.tick.lawful = true
    obtain ⟨htrim, hpend, -, htime⟩ := (Htb.lawful_iff _).mp hlaw
    rw [Htb.lawful_iff, Htb.tick_trim, Htb.tick_pendingTrim, Htb.tick_phase, Htb.tick_time]
    exact ⟨htrim, hpend, by omega, htime⟩
  | reset r => rfl

theorem step_acts {t : State} (h : step s = .next t) : s = t ∨ ∃ r, Acts { s with pending := r } t := by
  unfold step at h
  split at h
  · exact .inl (Host.Outcome.next.inj h)
  next c rest _ =>
    obtain ⟨u, hu, ha⟩ := exec_acts c { s with pending := rest }
    exact .inr ⟨rest, Host.Outcome.next.inj (hu.symm.trans h) ▸ ha⟩

theorem Law.Holds.after_step {t : State} (hl : l.Untimed) (hs : l.Holds s) (h : step s = .next t) : l.Holds t := by
  rcases step_acts h with rfl | ⟨r, ha⟩
  · exact hs
  · exact ha.keeps hl hs.of_pending

/-- Settles O18: the laws hold with the phase below D once every step due is taken (`settle_time`), and only a tick raises
the phase from there. -/
theorem timeBaseLawsAreKept : Obligations.TimeBaseLawsAreKept := by
  unfold Obligations.TimeBaseLawsAreKept
  intro s t hs h
  rcases step_acts h with rfl | ⟨r, ha⟩
  · exact hs
  · exact ha.keeps_time hs

/-- Settles O19: each part is a `Law`, which every step keeps; the last, of calls and long presses, in the form `Seated`. -/
theorem noticeQueueNeverExceeds64 : Obligations.NoticeQueueNeverExceeds64 := by
  unfold Obligations.NoticeQueueNeverExceeds64
  refine ⟨⟨⟨⟨Nat.zero_le _, Nat.zero_le _⟩, fun s t hn hh h => ?_⟩, fun s t hs h => ?_, fun s t hs h => ?_,
    fun s t hs h => ?_⟩, fun s t hs hc h => ?_⟩
  · exact Law.Holds.after_step (l := .notices) trivial ⟨hn, hh⟩ h
  · exact Law.Holds.after_step (l := .waitList) trivial hs h
  · exact Law.Holds.after_step (l := .calls) trivial hs h
  · exact Law.Holds.after_step (l := .exceptions) trivial hs h
  · obtain ⟨sorted, seated⟩ := Law.Holds.after_step (l := .seated) trivial (seated_of_lawful hs hc) h
    exact seated.callsSeated sorted

end Sys2Proof.Machine

/-! PROOFS. A step and the command in front (O1); the values and the laws after full reset (O51, O59). -/

namespace Sys2Proof.Machine

set_option Elab.async false

/-- Settles O1. -/
theorem stepRunsFrontCommand : Obligations.StepRunsFrontCommand := by
  unfold Obligations.StepRunsFrontCommand
  refine ⟨fun c rest s => rfl, fun s h => ?_⟩
  unfold step
  rw [h]

theorem exec_fullReset (a b : Bool) (s : State) :
    exec (.fullReset a b) s = .next (State.resetWith (baseRate a b) s.pending) := rfl

theorem baseRate_eq (a b : Bool) : baseRate a b =
    if a then if b then 460800 else 230400 else if b then 115200 else 57600 := by
  cases a <;> cases b <;> rfl

/-- Settles O51: the reset state is written out in the model, but for the rate that the straps give. -/
theorem fullResetValues : Obligations.FullResetValues := by
  unfold Obligations.FullResetValues
  refine ⟨fun a b s => ⟨_, exec_fullReset a b s, ?_⟩, fun s h => ?_⟩
  · rw [baseRate_eq]
    repeat' constructor
  · rw [exec_fullReset, h]
    rfl

/-- The laws speak of no link record and no command that waits, so the state after any full reset obeys them as
`State.reset` does. -/
theorem resetWith_lawful (r : Nat) (p : List Instr) : let t := State.resetWith r p
    t.htb.lawful = true ∧ t.sli.notices.length ≤ 64 ∧ t.fcu.held.length ≤ 8 ∧ t.tablesSorted = true
    ∧ t.sal.wait.length ≤ 32 ∧ t.dbc.callsLawful = true ∧ t.callsSeated = true ∧ t.mru.exceptionsLawful = true
    ∧ t.seatsLawful = true ∧ t.rowsLawful = true ∧ t.spacingLawful = true ∧ t.waitLawful = true
    ∧ t.clocksLawful = true ∧ t.resultsLawful = true ∧ t.collectionLawful = true ∧ t.entriesLawful = true :=
  ⟨rfl, Nat.zero_le 64, Nat.zero_le 8, rfl, Nat.zero_le 32, rfl, rfl, rfl, rfl, rfl, rfl, rfl, rfl, rfl, rfl, rfl⟩

/-- Settles O59. -/
theorem invariantsHoldAtReset : Obligations.InvariantsHoldAtReset := by
  unfold Obligations.InvariantsHoldAtReset
  rintro t (rfl | ⟨a, b, s, h⟩)
  · exact resetWith_lawful _ _
  · obtain rfl := Host.Outcome.next.inj h
    exact resetWith_lawful _ _

end Sys2Proof.Machine

/-! PROOFS. The requests on the hall map: DEFINE ZONE (O3), DEFINE ROW and RESET MAP (O4), SET SEAT (O5), CLEAR SEAT
(O6), QUERY SEAT and QUERY ZONE (O7). Each request is one lemma per outcome; the statements put them together. -/

namespace Sys2Proof.Machine

set_option Elab.async false

variable {s : State}

/-! ### Tests over a table -/

theorem Table.any_iff {α : Type} {t : Table α} {p : α → Bool} : t.any p = true ↔ ∃ e ∈ t, p e.2 = true :=
  List.any_eq_true

theorem Table.any_eq_false {α : Type} {t : Table α} {p : α → Bool} : t.any p = false ↔ ∀ e ∈ t, p e.2 = false := by
  simp [Table.any]

theorem getElem?_eq_none_of_le {α : Type} {l : List α} {n : Nat} (h : l.length ≤ n) : l[n]? = none :=
  List.getElem?_eq_none_iff.mpr h

/-! ### DEFINE ZONE (R2) -/

theorem Spacing.ofCode_eq_none {n : Nat} (h : 3 ≤ n) : Spacing.ofCode n = Option.none := getElem?_eq_none_of_le h

theorem takeDefineZone_bad {z sp a b : Nat} (h : 8 ≤ z ∨ 3 ≤ sp ∨ 3 ≤ a ∨ 3 ≤ b) :
    takeDefineZone z sp a b s = refuse s .badValue := by
  unfold takeDefineZone
  split
  next p c d hp hc hd =>
    have hz : Config.zoneCount ≤ z := by
      rcases h with hz | hsp | ha | hb
      · exact hz
      · exact absurd hp (by simp [Spacing.ofCode_eq_none hsp])
      · exact absurd hc (by simp [AdmissionCode.ofCode_eq_none_iff.mpr ha])
      · exact absurd hd (by simp [AdmissionCode.ofCode_eq_none_iff.mpr hb])
    rw [if_pos hz]
  · rfl

section
variable {z sp a b : Nat} {sp' : Spacing} {a' b' : AdmissionCode} {r : Zone} (hsp : Spacing.ofCode sp = some sp')
  (ha : AdmissionCode.ofCode a = some a') (hb : AdmissionCode.ofCode b = some b') (hz : z < 8)
include hsp ha hb hz

theorem takeDefineZone_new (hn : s.zone? z = none) :
    takeDefineZone z sp a b s = done (s.withZone z ⟨.closed, sp', a', b'⟩) [] := by
  simp only [takeDefineZone, hsp, ha, hb, hn]
  rw [if_neg (show ¬Config.zoneCount ≤ z from Nat.not_le.mpr hz)]
  rfl

theorem takeDefineZone_inUse (hc : s.clean = true) (hr : s.zone? z = some r)
    (hu : (s.hmu.seats.any fun t => t.zone == z && t.state.inUse) = true) :
    takeDefineZone z sp a b s = refuse s .wrongState := by
  simp [takeDefineZone, hsp, ha, hb, hr, readSeats_clean hc, hu, Config.zoneCount, Nat.not_le.mpr hz]

theorem takeDefineZone_changed (hc : s.clean = true) (hr : s.zone? z = some r)
    (hu : (s.hmu.seats.any fun t => t.zone == z && t.state.inUse) = false) :
    takeDefineZone z sp a b s = done ((s.withZone z ⟨r.state, sp', a', b'⟩).triggerIf
      (r.standard != a' || r.arranged != b')) [] := by
  simp only [takeDefineZone, hsp, ha, hb, hr, readSeats_clean hc, hu, bne_self_eq_false, Bool.false_eq_true, if_false]
  rw [if_neg (show ¬Config.zoneCount ≤ z from Nat.not_le.mpr hz)]
  rfl

end

theorem SeatState.inUse_iff (st : SeatState) : st.inUse = true ↔ st = .held ∨ st = .occupied ∨ st = .vacated := by
  cases st <;> simp [SeatState.inUse]

theorem SeatState.not_inUse_iff (st : SeatState) : st.inUse = false ↔ st = .free ∨ st = .unavailable := by
  cases st <;> simp [SeatState.inUse]

/-- Settles O3. -/
theorem defineZoneRequest : Obligations.DefineZoneRequest := by
  unfold Obligations.DefineZoneRequest
  intro s z sp a b hs hc
  rw [exec_defineZone_ready hs]
  refine ⟨fun h => by rw [takeDefineZone_bad h, finishTaking_refuse], fun sp' a' b' hz hsp ha hb => ⟨fun hn => ?_,
    fun r hr => ⟨fun hu => ?_, fun hu => ?_⟩⟩⟩
  · rw [takeDefineZone_new hsp ha hb hz hn, finishTaking_done]
  · obtain ⟨n, t, hmem, hzone, hstate⟩ := hu
    rw [takeDefineZone_inUse hsp ha hb hz hc hr, finishTaking_refuse]
    exact Table.any_iff.mpr ⟨(n, t), hmem, by simp [hzone, t.state.inUse_iff.mpr hstate]⟩
  · rw [takeDefineZone_changed hsp ha hb hz hc hr, finishTaking_done]
    refine Table.any_eq_false.mpr fun e he => ?_
    cases hzone : e.2.zone == z with
    | false => rfl
    | true => simp [e.2.state.not_inUse_iff.mpr (hu e.1 e.2 he (eq_of_beq hzone))]

/-! ### DEFINE ROW (R4) -/

theorem takeDefineRow_bad {z c : Nat} (h : 8 ≤ z ∨ c = 0 ∨ 32 < c) : takeDefineRow z c s = refuse s .badValue := by
  unfold takeDefineRow
  rw [if_pos]
  simp only [Bool.or_eq_true, decide_eq_true_eq]
  simp only [Config.zoneCount]
  omega

section
variable {z c : Nat} (hz : z < 8) (hc1 : 1 ≤ c) (hc32 : c ≤ 32)
include hz hc1 hc32

theorem takeDefineRow_range : ¬(Config.zoneCount ≤ z || c < 1 || 32 < c) = true := by
  simp only [Bool.or_eq_true, decide_eq_true_eq]
  simp only [Config.zoneCount]
  omega

theorem takeDefineRow_undefined (hn : s.zone? z = none) : takeDefineRow z c s = refuse s .notFound := by
  unfold takeDefineRow
  rw [if_neg (takeDefineRow_range hz hc1 hc32), hn]

variable (hc : s.clean = true) (hd : (s.zone? z).isSome = true)
include hc hd

theorem takeDefineRow_suspect (hu : s.hmu.seats.any (·.suspect) = true) : takeDefineRow z c s = refuse s .suspect := by
  obtain ⟨r, hr⟩ := Option.isSome_iff_exists.mp hd
  unfold takeDefineRow
  rw [if_neg (takeDefineRow_range hz hc1 hc32), hr]
  simp [readAllSeats_clean hc, hu]

variable (hn : s.hmu.seats.any (·.suspect) = false)
include hn

theorem takeDefineRow_inUse (hu : s.hmu.seats.any (·.state.inUse) = true) :
    takeDefineRow z c s = refuse s .wrongState := by
  obtain ⟨r, hr⟩ := Option.isSome_iff_exists.mp hd
  unfold takeDefineRow
  rw [if_neg (takeDefineRow_range hz hc1 hc32), hr]
  simp [readAllSeats_clean hc, hn, hu]

variable (hv : s.hmu.seats.any (·.state.inUse) = false)
include hv

theorem takeDefineRow_full (hf : 16 ≤ (s.rowsOf z).length ∨ 64 ≤ s.hmu.rows.length ∨ 512 < s.hmu.seats.length + c) :
    takeDefineRow z c s = refuse s .full := by
  obtain ⟨r, hr⟩ := Option.isSome_iff_exists.mp hd
  unfold takeDefineRow
  rw [if_neg (takeDefineRow_range hz hc1 hc32), hr]
  simp only [readAllSeats_clean hc, hn, hv, Bool.false_eq_true, if_false]
  rw [if_pos]
  simp only [Bool.or_eq_true, decide_eq_true_eq]
  simp only [Config.zoneRowLimit, Config.rowLimit, Config.seatLimit]
  omega

theorem takeDefineRow_room (h1 : (s.rowsOf z).length < 16) (h2 : s.hmu.rows.length < 64)
    (h3 : s.hmu.seats.length + c ≤ 512) : takeDefineRow z c s =
      done (addRow z ((s.rowsOf z).length + 1) c s.hmu.seats.length s)
        [u8 ((s.rowsOf z).length + 1), u16 s.hmu.seats.length] := by
  obtain ⟨r, hr⟩ := Option.isSome_iff_exists.mp hd
  unfold takeDefineRow
  rw [if_neg (takeDefineRow_range hz hc1 hc32), hr]
  simp only [readAllSeats_clean hc, hn, hv, Bool.false_eq_true, if_false]
  rw [if_neg]
  simp only [Bool.or_eq_true, decide_eq_true_eq]
  simp only [Config.zoneRowLimit, Config.rowLimit, Config.seatLimit]
  omega

end

/-- The seats of a new row, and what of the table they leave. -/
theorem rowSeats_range_find (z r f c m : Nat) (t : Table Seat) : (rowSeats z r f (List.range c) t).find m =
    if f ≤ m ∧ m < f + c then some (Seat.initial z r (m - f + 1)) else t.find m := by
  induction c with
  | zero => rw [if_neg (by omega)]; rfl
  | succ c ih =>
    have last : rowSeats z r f (List.range (c + 1)) t =
        (rowSeats z r f (List.range c) t).put (f + c) (Seat.initial z r (c + 1)) := by
      simp [rowSeats, List.range_succ, List.foldl_append]
    rw [last, Table.find_put, ih]
    split_ifs with h1 h2 h3 h3 h2
    · simp [h1]
    · omega
    · rfl
    · omega
    · omega
    · rfl

theorem addRow_clean (hc : s.clean = true) (z r c f : Nat) : addRow z r c f s =
    { s with hmu := { s.hmu with rows := s.hmu.rows ++ [⟨z, r, c, f⟩], seats := rowSeats z r f (List.range c) s.hmu.seats } } := by
  have hu := (State.clean_iff s).mp hc
  unfold addRow
  rw [hu]
  simp only [List.filter_nil]
  rw [← hu]
  rfl

/-! ### RESET MAP (R18) -/

section
variable (hc : s.clean = true)
include hc

theorem takeResetMap_suspect (hu : s.hmu.seats.any (·.suspect) = true) : takeResetMap s = refuse s .suspect := by
  simp [takeResetMap, readAllSeats_clean hc, hu]

theorem takeResetMap_inUse (hn : s.hmu.seats.any (·.suspect) = false) (hu : s.hmu.seats.any (·.state.inUse) = true) :
    takeResetMap s = refuse s .wrongState := by
  simp [takeResetMap, readAllSeats_clean hc, hn, hu]

theorem takeResetMap_vacant (hn : s.hmu.seats.any (·.suspect) = false) (hv : s.hmu.seats.any (·.state.inUse) = false) :
    takeResetMap s = done (leaveZones (syncDesks { s with hmu := .reset })) [] := by
  simp [takeResetMap, readAllSeats_clean hc, hn, hv]

end

/-- With no seat left no address is named: every desk record goes, and the exchange on the bus is void. -/
theorem syncDesks_noSeats (s : State) : syncDesks { s with hmu := .reset } = { s with
    hmu := .reset
    dbc := { s.dbc with desks := [], exchange := s.dbc.exchange.map fun x => { x with void := true } } } := by
  simp [syncDesks, State.addresses, Hmu.reset, Dbc.polledAs]

/-- Settles O4. -/
theorem mapIsBuiltAndEmptied : Obligations.MapIsBuiltAndEmptied := by
  unfold Obligations.MapIsBuiltAndEmptied
  refine ⟨fun s z c hs hc => ?row, fun s hs hc => ?reset⟩
  case row =>
    rw [exec_defineRow_ready hs]
    refine ⟨fun h => by rw [takeDefineRow_bad h, finishTaking_refuse], fun hz h1 h32 => ⟨fun hn => ?_, fun hd hu => ?_,
      fun hd hn => ⟨fun hu => ?_, fun hv => ⟨fun hf => ?_, fun f1 f2 f3 => ?_⟩⟩⟩⟩
    · rw [takeDefineRow_undefined hz h1 h32 hn, finishTaking_refuse]
    · rw [takeDefineRow_suspect hz h1 h32 hc hd (Table.any_iff.mpr hu), finishTaking_refuse]
    · rw [takeDefineRow_inUse hz h1 h32 hc hd (Table.any_eq_false.mpr hn) (Table.any_iff.mpr hu), finishTaking_refuse]
    · rw [takeDefineRow_full hz h1 h32 hc hd (Table.any_eq_false.mpr hn) (Table.any_eq_false.mpr hv) hf, finishTaking_refuse]
    · refine ⟨rowSeats z ((s.rowsOf z).length + 1) s.hmu.seats.length (List.range c) s.hmu.seats, ?_, fun i hi => ?_,
        fun m hm => ?_⟩
      · rw [takeDefineRow_room hz h1 h32 hc hd (Table.any_eq_false.mpr hn) (Table.any_eq_false.mpr hv) f1 f2 f3,
          finishTaking_done, addRow_clean hc]
      · rw [rowSeats_range_find, if_pos (by omega)]
        simp [Seat.initial]
      · rw [rowSeats_range_find, if_neg (by omega)]
        rfl
  case reset =>
    rw [exec_resetMap_ready hs]
    refine ⟨fun hu => ?_, fun hn => ⟨fun hu => ?_, fun hv => ?_⟩⟩
    · rw [takeResetMap_suspect hc (Table.any_iff.mpr hu), finishTaking_refuse]
    · rw [takeResetMap_inUse hc (Table.any_eq_false.mpr hn) (Table.any_iff.mpr hu), finishTaking_refuse]
    · rw [takeResetMap_vacant hc (Table.any_eq_false.mpr hn) (Table.any_eq_false.mpr hv), finishTaking_done,
        syncDesks_noSeats]
      have gone (g : Stage) : g.zonesGone = (match g with
          | .searching q => .searching (if q.entered = true then { q with zones := q.zones.tail, entered := false } else q)
          | .found _ _ _ q => .searching (if q.entered = true then { q with zones := q.zones.tail, entered := false } else q)
          | .preplaced n => .preplaced n
          | .noSeat => .noSeat) := by cases g <;> rfl
      simp only [leaveZones, gone]
      rfl

end Sys2Proof.Machine

/-! PROOFS. The requests on one seat: SET SEAT (O5), CLEAR SEAT (O6), QUERY SEAT and QUERY ZONE (O7). -/

namespace Sys2Proof.Machine

set_option Elab.async false

variable {s : State}

/-! ### A write of a seat that nobody leaves -/

/-- A seat's write that takes no occupant from it leaves its desk and its calls alone. -/
theorem seatChanged_same {old new : Seat} (ho : new.occupant = old.occupant)
    (hl : old.state ≠ .occupied ∨ new.state = .occupied) (n : Nat) (s : State) : seatChanged n old new s = s := by
  unfold seatChanged
  have stays : (old.state == .occupied && new.state != .occupied) = false := by
    rcases hl with hl | hl <;> simp [hl]
  simp only [stays, ho]
  cases old.desk <;> simp

theorem putSeat_same {n : Nat} {old new : Seat} (h : s.seat? n = some old) (ho : new.occupant = old.occupant)
    (hl : old.state ≠ .occupied ∨ new.state = .occupied) :
    putSeat n new s = (s.withSeat n new).triggerIf (new.state == .free && old.state != .free) := by
  simp only [putSeat, h]
  rw [seatChanged_same ho hl]
  rfl

/-! ### SET SEAT (R16) -/

theorem addressOk_eq_false {d : Option Nat} (h : d = some 0 ∨ ∃ x, d = some x ∧ 511 < x) : addressOk d = false := by
  rcases h with rfl | ⟨x, rfl, hx⟩
  · rfl
  · simp only [addressOk, Bool.and_eq_false_iff, decide_eq_false_iff_not]
    exact .inr (Nat.not_le.mpr hx)

theorem addressOk_of {d : Option Nat} (h : ∀ x, d = some x → 1 ≤ x ∧ x ≤ 511) : addressOk d = true := by
  cases d with
  | none => rfl
  | some x =>
    simp only [addressOk, Bool.and_eq_true, decide_eq_true_eq]
    exact h x rfl

theorem SeatClass.ofCode_eq_none {n : Nat} (h : 4 ≤ n) : SeatClass.ofCode n = none := getElem?_eq_none_of_le h

theorem takeSetSeat_bad {n c a : Nat} {d : Option Nat}
    (h : 4 ≤ c ∨ 1 < a ∨ d = some 0 ∨ ∃ x, d = some x ∧ 511 < x) : takeSetSeat n c d a s = refuse s .badValue := by
  unfold takeSetSeat
  split
  · rfl
  next cls hcls =>
    refine if_pos ?_
    rcases h with hc | ha | hd
    · exact absurd hcls (by simp [SeatClass.ofCode_eq_none hc])
    · simp [ha]
    · simp [addressOk_eq_false hd]

section
variable {n c a : Nat} {d : Option Nat} {cls : SeatClass} (hcls : SeatClass.ofCode c = some cls) (ha : a ≤ 1)
  (hd : addressOk d = true) (hc : s.clean = true)
include hcls ha hd hc

theorem takeSetSeat_unknown (hn : s.seat? n = none) : takeSetSeat n c d a s = refuse s .notFound := by
  simp [takeSetSeat, hcls, Nat.not_lt.mpr ha, hd, readSeat_clean hc, hn]

variable {r : Seat} (hr : s.seat? n = some r)
include hr

theorem takeSetSeat_suspect (hu : r.suspect = true) : takeSetSeat n c d a s = refuse s .suspect := by
  simp [takeSetSeat, hcls, Nat.not_lt.mpr ha, hd, readSeat_clean hc, hr, hu]

variable (hu : r.suspect = false)
include hu

theorem takeSetSeat_conflict (ht : s.addressTaken n d = true) : takeSetSeat n c d a s = refuse s .conflict := by
  simp [takeSetSeat, hcls, Nat.not_lt.mpr ha, hd, readSeat_clean hc, hr, hu, ht]

variable (ht : s.addressTaken n d = false)
include ht

theorem takeSetSeat_taken (hst : r.state = .held ∨ r.state = .occupied) :
    takeSetSeat n c d a s = refuse s .wrongState := by
  simp [takeSetSeat, hcls, Nat.not_lt.mpr ha, hd, readSeat_clean hc, hr, hu, ht, hst]

theorem takeSetSeat_written (hh : r.state ≠ .held) (ho : r.state ≠ .occupied) :
    takeSetSeat n c d a s =
      done (syncDesks (putSeat n ({ r with cls := cls, desk := d }.withAvailability a) s)) [] := by
  simp [takeSetSeat, hcls, Nat.not_lt.mpr ha, hd, readSeat_clean hc, hr, hu, ht, hh, ho]

end

theorem Seat.withAvailability_zero (r : Seat) (c : SeatClass) (d : Option Nat) :
    { r with cls := c, desk := d }.withAvailability 0 =
      { r with cls := c, desk := d, state := if r.state = .unavailable then .free else r.state } := by
  unfold Seat.withAvailability
  by_cases h : r.state = .unavailable <;> simp [h]

theorem Seat.withAvailability_one (r : Seat) (c : SeatClass) (d : Option Nat) :
    { r with cls := c, desk := d }.withAvailability 1 =
      { r with cls := c, desk := d, state := .unavailable, lastPaper := none, override := false } := rfl

/-- Settles O5. -/
theorem setSeatRequest : Obligations.SetSeatRequest := by
  unfold Obligations.SetSeatRequest
  intro s n c d a hs hc
  rw [exec_setSeat_ready hs]
  refine ⟨fun h => by rw [takeSetSeat_bad h, finishTaking_refuse], fun cls hcls ha hd => ?_⟩
  have ok := addressOk_of hd
  refine ⟨fun hn => ?_, fun r hr => ⟨fun hu => ?_, fun hu ht => ?_, fun hu ht => ⟨fun hst => ?_, fun hh ho => ⟨?_, ?_⟩⟩⟩⟩
  · rw [takeSetSeat_unknown hcls ha ok hc hn, finishTaking_refuse]
  · rw [takeSetSeat_suspect hcls ha ok hc hr hu, finishTaking_refuse]
  · rw [takeSetSeat_conflict hcls ha ok hc hr hu ht, finishTaking_refuse]
  · rw [takeSetSeat_taken hcls ha ok hc hr hu ht hst, finishTaking_refuse]
  · rintro rfl
    rw [takeSetSeat_written hcls ha ok hc hr hu ht hh ho, finishTaking_done, Seat.withAvailability_zero,
      putSeat_same hr (by rfl) (.inl ho)]
    have freed : ((if r.state = .unavailable then SeatState.free else r.state) == .free && r.state != .free) =
        (r.state == .unavailable) := by cases hst : r.state <;> rfl
    rw [freed]
  · rintro rfl
    rw [takeSetSeat_written hcls ha ok hc hr hu ht hh ho, finishTaking_done, Seat.withAvailability_one,
      putSeat_same hr (by rfl) (.inl ho)]
    rfl

/-! ### CLEAR SEAT (R17) -/

section
variable {n : Nat} (hc : s.clean = true)
include hc

theorem takeClearSeat_unknown (hn : s.seat? n = none) : takeClearSeat n s = refuse s .notFound := by
  simp [takeClearSeat, readSeat_clean hc, hn]

variable {r : Seat} (hr : s.seat? n = some r)
include hr

theorem takeClearSeat_suspect (hu : r.suspect = true) : takeClearSeat n s = refuse s .suspect := by
  simp [takeClearSeat, readSeat_clean hc, hr, hu]

theorem takeClearSeat_wrongState (hu : r.suspect = false) (hst : r.state ≠ .vacated) :
    takeClearSeat n s = refuse s .wrongState := by
  simp [takeClearSeat, readSeat_clean hc, hr, hu, hst]

theorem takeClearSeat_vacated (hu : r.suspect = false) (hst : r.state = .vacated) (ho : r.occupant = none) :
    takeClearSeat n s =
      done (retryTrigger (s.withSeat n { r with state := .free, lastPaper := none, override := false })) [] := by
  have freed : r.freed = { r with state := .free, lastPaper := none, override := false } := by simp [Seat.freed, ho]
  have written : freeSeat n s = retryTrigger (s.withSeat n r.freed) := by
    simp only [freeSeat, hr]
    rw [putSeat_same hr (by simp [Seat.freed, ho]) (.inl (by simp [hst]))]
    simp [Seat.freed, hst, State.triggerIf]
  simp [takeClearSeat, readSeat_clean hc, hr, hu, hst, written, freed]

end

/-- Settles O6. -/
theorem clearSeatRequest : Obligations.ClearSeatRequest := by
  unfold Obligations.ClearSeatRequest
  intro s n hs hc
  rw [exec_clearSeat_ready hs]
  refine ⟨fun hn => ?_, fun r hr => ⟨fun hu => ?_, fun hu hst => ?_, fun hu hst ho => ?_⟩⟩
  · rw [takeClearSeat_unknown hc hn, finishTaking_refuse]
  · rw [takeClearSeat_suspect hc hr hu, finishTaking_refuse]
  · rw [takeClearSeat_wrongState hc hr hu hst, finishTaking_refuse]
  · rw [takeClearSeat_vacated hc hr hu hst ho, finishTaking_done]

/-! ### QUERY SEAT and QUERY ZONE (R20) -/

theorem State.withheld_eq (s : State) (t : Seat) :
    s.withheld t = (t.state == .free && !(t.desk.map s.online).getD false) := by
  unfold State.withheld State.deskWithholds
  cases t.desk <;> rfl

section
variable (hc : s.clean = true)
include hc

theorem takeQuerySeat_unknown {n : Nat} (hn : s.seat? n = none) : takeQuerySeat n s = refuse s .notFound := by
  simp [takeQuerySeat, readSeat_clean hc, hn]

theorem takeQuerySeat_suspect {n : Nat} {r : Seat} (hr : s.seat? n = some r) (hu : r.suspect = true) :
    takeQuerySeat n s = refuse s .suspect := by
  simp [takeQuerySeat, readSeat_clean hc, hr, hu]

theorem takeQuerySeat_reply {n : Nat} {r : Seat} (hr : s.seat? n = some r) (hu : r.suspect = false) :
    takeQuerySeat n s = done s ([u16 n] ++ (labelOf r).map u8 ++ [u8 r.cls.ctorIdx, o16 r.desk, u8 r.state.ctorIdx,
      o16 r.occupant, o8 r.lastPaper, flag r.used, flag r.override, flag (s.withheld r)]) := by
  simp only [takeQuerySeat, readSeat_clean hc, hr, hu, Bool.false_eq_true, if_false, labelFields]

theorem takeQueryZone_reply {z : Nat} {r : Zone} (hz : z < 8) (hr : s.zone? z = some r) : takeQueryZone z s =
    done s ([u8 r.state.ctorIdx, u8 r.spacing.ctorIdx, u8 r.standard.ctorIdx, u8 r.arranged.ctorIdx, u16 (s.seatCount z)]
      ++ listField (fun w => [u8 w.number, u8 w.count, u16 w.first]) (s.rowsOf z)
      ++ [SeatState.unavailable, .free, .held, .occupied, .vacated].map (fun st =>
          u16 (s.hmu.seats.count fun t => t.zone == z && !t.suspect && t.state == st))
      ++ [u16 (s.hmu.seats.count fun t => t.zone == z && t.suspect),
          u16 (s.hmu.seats.count fun t => t.zone == z && !t.suspect && s.withheld t)]) := by
  simp only [takeQueryZone, hr, readSeats_clean hc]
  rw [if_neg (show ¬Config.zoneCount ≤ z from Nat.not_le.mpr hz)]

end

theorem takeQueryZone_outside {z : Nat} (hz : 8 ≤ z) : takeQueryZone z s = refuse s .badValue := if_pos hz

theorem takeQueryZone_undefined {z : Nat} (hz : z < 8) (hn : s.zone? z = none) : takeQueryZone z s = refuse s .notFound := by
  simp only [takeQueryZone, hn]
  rw [if_neg (show ¬Config.zoneCount ≤ z from Nat.not_le.mpr hz)]

/-- Settles O7. -/
theorem seatAndZoneQueries : Obligations.SeatAndZoneQueries := by
  unfold Obligations.SeatAndZoneQueries
  intro s hs hc
  simp only [exec_querySeat_ready hs, exec_queryZone_ready hs, ← State.withheld_eq]
  refine ⟨fun n => ⟨fun hn => ?_, fun r hr => ⟨fun hu => ?_, fun hu => ?_⟩⟩, fun z => ⟨fun hz => ?_, fun hz hn => ?_,
    fun r hz hr => ?_⟩⟩
  · rw [takeQuerySeat_unknown hc hn, finishTaking_refuse]
  · rw [takeQuerySeat_suspect hc hr hu, finishTaking_refuse]
  · rw [takeQuerySeat_reply hc hr hu, finishTaking_done]
  · rw [takeQueryZone_outside hz, finishTaking_refuse]
  · rw [takeQueryZone_undefined hz hn, finishTaking_refuse]
  · rw [takeQueryZone_reply hc hz hr, finishTaking_done]

end Sys2Proof.Machine

/-! PROOFS. The station's requests on candidates: SET ALLOWANCE and SET BOOKLETS (O8), QUERY CANDIDATE (O9), ADMIT (O10). -/

namespace Sys2Proof.Machine

set_option Elab.async false

variable {s : State} {k number v : Nat} {x : Slot}

/-! ### SET ALLOWANCE and SET BOOKLETS (R27, R120) -/

theorem Slot.eq_write_of_readable (hx : x.suspect = false) (f : Candidate → Candidate) (h : s.slot? k = some x) :
    modCand k f s = s.withSlot k (f x.cand) x.clock := modSlot_eq_withSlot h hx f id

section
variable (hc : s.clean = true) (hf : s.finds number k x)
include hc hf

theorem takeSetAllowance_wrongState (h : x.cand.state = .finished ∨ x.cand.state = .collected ∨ x.cand.state = .absent
      ∨ x.cand.state = .withdrawn ∨ (x.clock.state ≠ .none ∧ x.clock.state ≠ .reading)) :
    takeSetAllowance number v s = refuse s .wrongState := by
  rw [takeSetAllowance, withCandidate_finds hc hf]
  refine if_pos ?_
  rcases h with h | h | h | h | h <;> simp [CandidateState.over, h]

theorem takeSetAllowance_written (h : x.cand.state = .expected ∨ x.cand.state = .waiting ∨ x.cand.state = .admitted
      ∨ x.cand.state = .seated) (hk : x.clock.state = .none ∨ x.clock.state = .reading) :
    takeSetAllowance number v s =
      doneOr (100 < v) (s.withSlot k { x.cand with allowance := min v 100 } x.clock) [] := by
  have ⟨_, _, hslot, hx⟩ := hf
  have notOver : x.cand.state.over = false := by rcases h with h | h | h | h <;> simp [CandidateState.over, h]
  rw [takeSetAllowance, withCandidate_finds hc hf, Slot.eq_write_of_readable hx _ hslot]
  refine if_neg ?_
  rcases hk with hk | hk <;> simp [notOver, hk]

theorem takeSetBooklets_wrongState (h : x.cand.state = .collected ∨ x.cand.state = .absent ∨ x.cand.state = .withdrawn) :
    takeSetBooklets number v s = refuse s .wrongState := by
  rw [takeSetBooklets, withCandidate_finds hc hf]
  refine if_pos ?_
  rcases h with h | h | h <;> simp [h]

theorem takeSetBooklets_written (h : x.cand.state = .expected ∨ x.cand.state = .waiting ∨ x.cand.state = .admitted
      ∨ x.cand.state = .seated) :
    takeSetBooklets number v s =
      doneOr (8 < v) (s.withSlot k { x.cand with issued := min v 8 } x.clock) [u8 (min v 8)] := by
  have ⟨_, _, hslot, hx⟩ := hf
  rw [takeSetBooklets, withCandidate_finds hc hf]
  dsimp only
  rw [Slot.eq_write_of_readable hx _ hslot]
  rcases h with h | h | h | h <;> simp [h]

theorem takeSetBooklets_finished (h : x.cand.state = .finished) : takeSetBooklets number v s =
    doneOr (8 < v) (setExpected k (min v 8) (s.withSlot k { x.cand with issued := min v 8 } x.clock)) [u8 (min v 8)] := by
  have ⟨_, _, hslot, hx⟩ := hf
  rw [takeSetBooklets, withCandidate_finds hc hf]
  dsimp only
  rw [Slot.eq_write_of_readable hx _ hslot]
  simp [h]

end

theorem setExpected_rest (k n : Nat) (s : State) : setExpected k n s = { s with clu := (setExpected k n s).clu } := rfl

theorem ringsOf_setExpected (k n z : Nat) (s : State) : (setExpected k n s).ringsOf z = { s.ringsOf z with
    urgent := (s.ringsOf z).urgent.map (Entry.expecting k n), main := (s.ringsOf z).main.map (Entry.expecting k n) } := by
  simp only [State.ringsOf, setExpected, Table.find_mapAll]
  cases s.clu.rings.find z <;> rfl

theorem collectorOf_setExpected (k n c : Nat) (s : State) : (setExpected k n s).collectorOf c =
    { s.collectorOf c with round := (s.collectorOf c).round.map (Entry.expecting k n) } := by
  simp only [State.collectorOf, setExpected, Table.find_mapAll]
  cases s.clu.collectors.find c <;> rfl

theorem Entry.expecting_eq (k n : Nat) :
    Entry.expecting k n = fun e => if e.slot = k then { e with booklets := n } else e := by
  funext e
  simp [Entry.expecting]

/-- Settles O8. -/
theorem allowanceAndBookletRequests : Obligations.AllowanceAndBookletRequests := by
  unfold Obligations.AllowanceAndBookletRequests
  intro s number v hs hc
  simp only [exec_setAllowance_ready hs, exec_setBooklets_ready hs]
  refine ⟨fun h => ?_, fun h hn => ?_, fun k x h hn hk hx => ?_, fun k x hf => ⟨fun h => ?_, fun h hk => ?_, fun h => ?_,
    fun h => ?_, fun h => ?_, fun _ => ⟨rfl, fun z => ?_, fun c => ?_⟩⟩⟩
  · rw [takeSetAllowance, takeSetBooklets, withCandidate_out h, withCandidate_out h, finishTaking_refuse,
      finishTaking_refuse]
    exact ⟨rfl, rfl⟩
  · rw [takeSetAllowance, takeSetBooklets, withCandidate_unknown h hn, withCandidate_unknown h hn, finishTaking_refuse,
      finishTaking_refuse]
    exact ⟨rfl, rfl⟩
  · rw [takeSetAllowance, takeSetBooklets, withCandidate_suspect hc h hn hk hx, withCandidate_suspect hc h hn hk hx,
      finishTaking_refuse, finishTaking_refuse]
    exact ⟨rfl, rfl⟩
  · rw [takeSetAllowance_wrongState hc hf h, finishTaking_refuse]
  · rw [takeSetAllowance_written hc hf h hk, finishTaking_doneOr]
  · rw [takeSetBooklets_wrongState hc hf h, finishTaking_refuse]
  · rw [takeSetBooklets_written hc hf h, finishTaking_doneOr]
  · rw [takeSetBooklets_finished hc hf h, finishTaking_doneOr]
  · rw [ringsOf_setExpected, Entry.expecting_eq]
    rfl
  · rw [collectorOf_setExpected, Entry.expecting_eq]
    rfl

/-! ### QUERY CANDIDATE (R39) -/

/-- Settles O9. -/
theorem queryCandidateRequest : Obligations.QueryCandidateRequest := by
  unfold Obligations.QueryCandidateRequest
  intro s number hs hc
  simp only [exec_queryCandidate_ready hs, takeQueryCandidate]
  refine ⟨fun h => ?_, fun h hn => ?_, fun k x h hn hk hx => ?_, fun k x hf => ?_⟩
  · rw [withCandidate_out h, finishTaking_refuse]
  · rw [withCandidate_unknown h hn, finishTaking_refuse]
  · rw [withCandidate_suspect hc h hn hk hx, finishTaking_refuse]
  · rw [withCandidate_finds hc hf, finishTaking_done]
    have listed : (positionOf k s.sal.wait).isSome = s.sal.wait.contains k := by
      unfold positionOf
      split <;> simp_all
    simp only [listed]
    simp only [positionOf, State.seatWithLabel, Clock.fields, List.append_assoc, List.cons_append,
      List.nil_append]

/-! ### ADMIT (R29) -/

theorem readNumber_clean (hc : s.clean = true) (n : Nat) : readNumber n s = s := by
  unfold readNumber
  split
  · rfl
  · exact readSlot_clean hc _

theorem admissionChecks_unknown (hn : s.slotOf number = none) :
    s.admissionChecks number = .error (.unknown, .notFound) := by
  simp [State.admissionChecks, hn]

section
variable (hf : s.slotOf number = some k) (hk : s.slot? k = some x)
include hf hk

theorem admissionChecks_suspect (hx : x.suspect = true) :
    s.admissionChecks number = .error (.suspect, .suspect) := by
  simp [State.admissionChecks, hf, hk, hx]

variable (hx : x.suspect = false)
include hx

theorem admissionChecks_wrongState (h : x.cand.state ≠ .expected ∨ x.cand.source.isSome = true) :
    s.admissionChecks number = .error (.wrongState, .wrongState) := by
  have fails : x.rewritable = false := by rcases h with h | h <;> simp [Slot.rewritable, h]
  simp [State.admissionChecks, hf, hk, hx, fails]

variable (he : x.cand.state = .expected) (hs : x.cand.source = none)
include he hs

theorem admissionChecks_held (hh : s.ssu.held = true) :
    s.admissionChecks number = .error (.hallHeld, .hallHeld) := by
  simp [State.admissionChecks, hf, hk, hx, Slot.rewritable, he, hs, hh]

variable {r : Paper} (hh : s.ssu.held = false) (hr : s.paper? x.cand.paper = some r)
include hh hr

theorem admissionChecks_notOpen (hd : r.state = .defined) :
    s.admissionChecks number = .error (.notOpen, .wrongState) := by
  simp [State.admissionChecks, hf, hk, hx, Slot.rewritable, he, hs, hh, hr, hd]

theorem admissionChecks_closed
    (hd : r.state = .overtime ∨ r.state = .closed ∨ (r.state = .writing ∧ 60 * r.late ≤ r.elapsed)) :
    s.admissionChecks number = .error (.closed, .tooLate) := by
  have shut : r.admits = false ∧ r.state ≠ .defined := by
    rcases hd with hd | hd | ⟨hd, hl⟩
    · simp [Paper.admits, hd]
    · simp [Paper.admits, hd]
    · simp [Paper.admits, hd, Nat.not_lt.mpr hl]
  simp [State.admissionChecks, hf, hk, hx, Slot.rewritable, he, hs, hh, hr, shut]

theorem admissionChecks_ok
    (hd : r.state = .admitting ∨ r.state = .reading ∨ (r.state = .writing ∧ r.elapsed < 60 * r.late)) :
    s.admissionChecks number = .ok k := by
  have openTo : r.admits = true ∧ r.state ≠ .defined := by
    rcases hd with hd | hd | ⟨hd, hl⟩
    · simp [Paper.admits, hd]
    · simp [Paper.admits, hd]
    · simp [Paper.admits, hd, hl]
  simp [State.admissionChecks, hf, hk, hx, Slot.rewritable, he, hs, hh, hr, openTo]

end

theorem takeAdmit_refused (hc : s.clean = true) (hn : number ≤ 99999999) {d : DoorReason} {r : Reason}
    (h : s.admissionChecks number = .error (d, r)) : takeAdmit number s = refuse s r := by
  simp only [takeAdmit, readNumber_clean hc, h]
  exact if_neg (show ¬Config.maxNumber < number from Nat.not_lt.mpr hn)

theorem takeAdmit_ok (hc : s.clean = true) (hn : number ≤ 99999999) (h : s.admissionChecks number = .ok k) :
    takeAdmit number s =
      ({ modCand k (fun c => { c with source := some .station }) s with
          sal := { s.sal with reqStation := some (.allocation k) } }, none) := by
  simp only [takeAdmit, readNumber_clean hc, h]
  rw [if_neg (show ¬Config.maxNumber < number from Nat.not_lt.mpr hn)]
  rfl

/-- Settles O10. -/
theorem admitRequest : Obligations.AdmitRequest := by
  unfold Obligations.AdmitRequest
  intro s number hs hc
  rw [exec_admitCandidate_ready hs]
  refine ⟨fun h => ?_, fun h hn => ?_, fun k x h hn hk hx => ?_, fun k x ⟨hn, hf, hk, hx⟩ => ⟨fun h => ?_,
    fun he hsrc => ⟨fun hh => ?_, fun r hh hr => ⟨fun hd => ?_, fun hd => ?_, fun hd => ?_⟩⟩⟩⟩
  · rw [takeAdmit, if_pos (show Config.maxNumber < number from h), finishTaking_refuse]
  · rw [takeAdmit_refused hc h (admissionChecks_unknown hn), finishTaking_refuse]
  · rw [takeAdmit_refused hc h (admissionChecks_suspect hn hk hx), finishTaking_refuse]
  · rw [takeAdmit_refused hc hn (admissionChecks_wrongState hf hk hx h), finishTaking_refuse]
  · rw [takeAdmit_refused hc hn (admissionChecks_held hf hk hx he hsrc hh), finishTaking_refuse]
  · rw [takeAdmit_refused hc hn (admissionChecks_notOpen hf hk hx he hsrc hh hr hd), finishTaking_refuse]
  · rw [takeAdmit_refused hc hn (admissionChecks_closed hf hk hx he hsrc hh hr hd), finishTaking_refuse]
  · rw [takeAdmit_ok hc hn (admissionChecks_ok hf hk hx he hsrc hh hr hd), finishTaking_none,
      Slot.eq_write_of_readable hx _ hk]
    rfl

end Sys2Proof.Machine

/-! PROOFS. WITHDRAW (O12), a card at a door port (O11), and an entry of a LOAD CANDIDATES record (O13). -/

namespace Sys2Proof.Machine

set_option Elab.async false

variable {s : State} {k number : Nat} {x : Slot}

/-! ### A retry trigger and a change of a seat, as changes of their blocks -/

/-- A retry trigger as a change of the allocator alone (R52). -/
def Sal.triggered (l : Sal) : Sal :=
  match l.retry with
  | .idle => if l.wait.isEmpty then l else { l with retry := .pending, reqRetry := true }
  | .pending => l
  | .walking => { l with again := true }

theorem retryTrigger_eq (s : State) : retryTrigger s = { s with sal := s.sal.triggered } := by
  unfold retryTrigger Sal.triggered
  split
  next h =>
    simp only [h]
    split <;> rfl
  next h => simp only [h]
  next h => simp only [h]

theorem putSeat_eq {n : Nat} {old new : Seat} (h : s.seat? n = some old) :
    putSeat n new s = State.triggerIf { s.withSeat n new with dbc := s.dbc.afterSeat n old new }
      (new.state == .free && old.state != .free) := by
  simp only [putSeat, h, seatChanged_eq]
  rfl

/-- A HELD seat given back becomes FREE, which is a retry trigger (R11). -/
theorem freeSeat_held {n : Nat} {r : Seat} (h : s.seat? n = some r) (hr : r.state = .held) :
    freeSeat n s = { s.withSeat n r.freed with
      dbc := s.dbc.afterSeat n r r.freed
      sal := s.sal.triggered } := by
  simp only [freeSeat, h]
  rw [putSeat_eq h, hr]
  exact retryTrigger_eq _

/-! ### WITHDRAW (R37) -/

section
variable (hc : s.clean = true) (hf : s.finds number k x)
include hc hf

theorem takeWithdraw_busy (h : x.cand.source.isSome = true) : takeWithdraw number s = refuse s .busy := by
  rw [takeWithdraw, withCandidate_finds hc hf]
  exact if_pos h

variable (hn : x.cand.source = none)
include hn

theorem takeWithdraw_wrongState (h : x.cand.state = .finished ∨ x.cand.state = .collected ∨ x.cand.state = .absent
      ∨ x.cand.state = .withdrawn ∨ (x.cand.state = .seated ∧ x.clock.state = .none)) :
    takeWithdraw number s = refuse s .wrongState := by
  rw [takeWithdraw, withCandidate_finds hc hf]
  rcases h with h | h | h | h | ⟨h, hk⟩
  · simp [hn, h, CandidateState.present]
  · simp [hn, h, CandidateState.present]
  · simp [hn, h, CandidateState.present]
  · simp [hn, h, CandidateState.present]
  · simp [hn, h, hk, CandidateState.present]

theorem takeWithdraw_started (h : x.cand.state = .waiting ∨ x.cand.state = .admitted ∨ x.cand.state = .seated)
    (hk : x.clock.state ≠ .none) : takeWithdraw number s = done (acceptFinish k .withdrawn s) [] := by
  rw [takeWithdraw, withCandidate_finds hc hf]
  rcases h with h | h | h <;> simp [hn, h, hk, CandidateState.present]

/-- A candidate whose clock has not begun, and who holds no seat. -/
theorem takeWithdraw_seatless (h : x.cand.state = .expected ∨ (x.cand.state = .waiting ∧ x.clock.state = .none)) :
    takeWithdraw number s = done (withdrawBefore k x s) [] := by
  rw [takeWithdraw, withCandidate_finds hc hf]
  rcases h with h | ⟨h, hk⟩
  · simp [hn, h]
  · simp [hn, h, hk, CandidateState.present]

section
variable {n : Nat} (h : x.cand.state = .admitted) (hk : x.clock.state = .none) (hs : x.cand.seat = some n)
include h hk hs

theorem takeWithdraw_admitted : takeWithdraw number s =
    if (s.seat? n).map (·.suspect) == some true then refuse s .suspect
    else if (s.seat? n).map (·.state) != some .held then refuse s .wrongState
    else done (withdrawBefore k x s) [] := by
  rw [takeWithdraw, withCandidate_finds hc hf]
  simp [hn, h, hk, hs, CandidateState.present, readSeat_clean hc]

theorem takeWithdraw_held {r : Seat} (hr : s.seat? n = some r) (hu : r.suspect = false) (hst : r.state = .held) :
    takeWithdraw number s = done (withdrawBefore k x s) [] := by
  rw [takeWithdraw_admitted hc hf hn h hk hs, hr]
  simp [hu, hst]

theorem takeWithdraw_seatSuspect {r : Seat} (hr : s.seat? n = some r) (hu : r.suspect = true) :
    takeWithdraw number s = refuse s .suspect := by
  rw [takeWithdraw_admitted hc hf hn h hk hs, hr]
  simp [hu]

theorem takeWithdraw_notHeld (hr : ∀ r, s.seat? n = some r → r.suspect = false ∧ r.state ≠ .held) :
    takeWithdraw number s = refuse s .wrongState := by
  rw [takeWithdraw_admitted hc hf hn h hk hs]
  cases hs : s.seat? n with
  | none => simp
  | some r => simp [hr r hs]

end

end

theorem withdrawBefore_seatless (hf : s.finds number k x) (h : x.cand.seat = none) : withdrawBefore k x s =
    { s.withSlot k { x.cand with state := .withdrawn, seat := none, walk := none } x.clock with sal := s.sal.left k } := by
  have ⟨_, _, hslot, hx⟩ := hf
  unfold withdrawBefore
  rw [Slot.eq_write_of_readable hx _ hslot, h]
  rfl

theorem withdrawBefore_held (hf : s.finds number k x) {n : Nat} {r : Seat} (h : x.cand.seat = some n)
    (hs : s.seat? n = some r) (hr : r.state = .held) : withdrawBefore k x s =
    { (s.withSlot k { x.cand with state := .withdrawn, seat := none, walk := none } x.clock).withSeat n r.freed with
      dbc := s.dbc.afterSeat n r r.freed
      sal := (s.sal.left k).triggered } := by
  have ⟨_, _, hslot, hx⟩ := hf
  unfold withdrawBefore
  rw [Slot.eq_write_of_readable hx _ hslot, h]
  exact freeSeat_held (s := leaveWaitList k (s.withSlot k _ _)) hs hr

/-- Settles O12. -/
theorem withdrawRequest : Obligations.WithdrawRequest := by
  unfold Obligations.WithdrawRequest
  intro s number hs hc
  rw [exec_withdraw_ready hs]
  refine ⟨fun h => ?_, fun h hn => ?_, fun k x h hn hk hx => ?_, fun k x hf => ⟨fun h => ?_, fun hn => ⟨fun h => ?_,
    fun h hseat => ?_, fun n r h hk hseat hr hu hheld => ?_, fun n h hk hseat => ⟨fun r hr hu => ?_, fun hr => ?_,
    fun r hr hu hheld => ?_⟩, fun h hk => ?_⟩⟩⟩
  · rw [takeWithdraw, withCandidate_out h, finishTaking_refuse]
  · rw [takeWithdraw, withCandidate_unknown h hn, finishTaking_refuse]
  · rw [takeWithdraw, withCandidate_suspect hc h hn hk hx, finishTaking_refuse]
  · rw [takeWithdraw_busy hc hf h, finishTaking_refuse]
  · rw [takeWithdraw_wrongState hc hf hn h, finishTaking_refuse]
  · rw [takeWithdraw_seatless hc hf hn h, withdrawBefore_seatless hf hseat, finishTaking_done]
  · rw [takeWithdraw_held hc hf hn h hk hseat hr hu hheld, withdrawBefore_held hf hseat hr hheld, finishTaking_done]
    refine ⟨_, rfl, (Table.find_put ..).trans (if_pos rfl), fun m hm => (Table.find_put ..).trans (if_neg hm), rfl, ?_,
      rfl, rfl, rfl, rfl, rfl, rfl, ?_, rfl, rfl⟩
    · rw [retryTrigger_eq]
    · simp [Dbc.afterSeat, hheld]
  · rw [takeWithdraw_seatSuspect hc hf hn h hk hseat hr hu, finishTaking_refuse]
  · rw [takeWithdraw_notHeld hc hf hn h hk hseat (by simp [hr]), finishTaking_refuse]
  · rw [takeWithdraw_notHeld hc hf hn h hk hseat (by simp [hr, hu, hheld]), finishTaking_refuse]
  · rw [takeWithdraw_started hc hf hn h hk, finishTaking_done]

/-! ### A card at a door port (R28, R29, R185) -/

section
variable {n3 n2 n1 n0 ck : Byte}

theorem sumsToZero_card : sumsToZero [n3, n2, n1, n0, ck] = decide (n3 + n2 + n1 + n0 + ck = 0) := by
  simp [sumsToZero, byteSum, beq_eq_decide]

theorem numberOf_card : numberOf (List.take 4 [n3, n2, n1, n0, ck]) =
    ((n3.toNat * 256 + n2.toNat) * 256 + n1.toNat) * 256 + n0.toNat := by
  simp [numberOf]

theorem exec_card (hs : s.calm = true) (d : Nat) :
    exec (.cardRecord d n3 n2 n1 n0 ck) s = .next (cardArrives d [n3, n2, n1, n0, ck] s) :=
  congrArg _ (settled_calm hs _)

end

section
variable {d : Nat} {frame : List Byte}

theorem cardArrives_readAgain (h : (s.port d).card = none) (hf : sumsToZero frame = false) :
    cardArrives d frame s = setPort d { s.port d with out := some .readAgain } s := by
  simp [cardArrives, h, hf]

theorem cardArrives_busy (h : (s.port d).card.isSome = true) :
    cardArrives d frame s =
      doorNotice d (numberOf (frame.take 4)) .busy (setPort d { s.port d with out := some .busy } s) := by
  simp [cardArrives, h]

@[simp] theorem setPort_clean (d : Nat) (p : Port) (s : State) : (setPort d p s).clean = s.clean := by
  unfold setPort
  split <;> rfl

@[simp] theorem setPort_admissionChecks (d : Nat) (p : Port) (s : State) (n : Nat) :
    (setPort d p s).admissionChecks n = s.admissionChecks n := by
  unfold setPort
  split <;> rfl

@[simp] theorem setPort_port (d : Nat) (p : Port) (s : State) : (setPort d p s).port d = p := by
  unfold setPort State.port
  split <;> rfl

@[simp] theorem setPort_setPort (d : Nat) (p q : Port) (s : State) : setPort d q (setPort d p s) = setPort d q s := by
  unfold setPort
  split <;> rfl

variable (hc : s.clean = true) (h : (s.port d).card = none) (hf : sumsToZero frame = true)
include hc h hf

theorem cardArrives_refused {why : DoorReason} {r : Reason}
    (ha : s.admissionChecks (numberOf (frame.take 4)) = .error (why, r)) :
    cardArrives d frame s =
      doorNotice d (numberOf (frame.take 4)) (.refused why) (setPort d ⟨none, some (.refused why)⟩ s) := by
  have hread : readNumber (numberOf (frame.take 4)) (setPort d ⟨some (numberOf (frame.take 4)), (s.port d).out⟩ s) = _ :=
    readNumber_clean (by rw [setPort_clean, hc]) _
  simp only [cardArrives, h, hf, hread, setPort_admissionChecks, ha, answerDoor, setPort_port, setPort_setPort]
  rfl

theorem cardArrives_ok (ha : s.admissionChecks (numberOf (frame.take 4)) = .ok k) :
    cardArrives d frame s =
      let s := setPort d ⟨some (numberOf (frame.take 4)), (s.port d).out⟩ s
      if d = 0 then
        let s := modCand k (fun c => { c with source := some .door0 }) s
        { s with sal := { s.sal with reqDoor0 := some k } }
      else
        let s := modCand k (fun c => { c with source := some .door1 }) s
        { s with sal := { s.sal with reqDoor1 := some k } } := by
  have hread : readNumber (numberOf (frame.take 4)) (setPort d ⟨some (numberOf (frame.take 4)), (s.port d).out⟩ s) = _ :=
    readNumber_clean (by rw [setPort_clean, hc]) _
  simp only [cardArrives, h, hf, hread, setPort_admissionChecks, ha]
  rfl

end

/-- Settles O11. -/
theorem doorCardIsTaken : Obligations.DoorCardIsTaken := by
  unfold Obligations.DoorCardIsTaken
  intro s n3 n2 n1 n0 ck hs hc
  simp only [exec_card hs, ← numberOf_card (n3 := n3) (n2 := n2) (n1 := n1) (n0 := n0) (ck := ck)]
  generalize hn : numberOf (List.take 4 [n3, n2, n1, n0, ck]) = number
  refine ⟨fun h hz => ?_, fun h hz => ?_, fun c h => ?_, fun c h => ?_, fun hz => ?_, ?_⟩
  · rw [cardArrives_readAgain (d := 0) h (by rw [sumsToZero_card, decide_eq_false hz]), ← h]
    rfl
  · rw [cardArrives_readAgain (d := 1) h (by rw [sumsToZero_card, decide_eq_false hz]), ← h]
    rfl
  · rw [cardArrives_busy (d := 0) (Option.isSome_of_eq_some h), hn, ← h]
    rfl
  · rw [cardArrives_busy (d := 1) (Option.isSome_of_eq_some h), hn, ← h]
    rfl
  · have refused {why : DoorReason} {r : Reason} (ha : s.admissionChecks number = .error (why, r)) :
        (s.rsu.door0.card = none → (.next (cardArrives 0 [n3, n2, n1, n0, ck] s) : Answered) =
          .next (notify .doorAnswer ([u8 0, u32 number, u8 2, u8 why.ctorIdx] ++ labelFields none ++ [o16 (s.slotOf number)])
            { s with rsu := { s.rsu with door0 := ⟨none, some (.refused why)⟩ } }))
        ∧ (s.rsu.door1.card = none → (.next (cardArrives 1 [n3, n2, n1, n0, ck] s) : Answered) =
          .next (notify .doorAnswer ([u8 1, u32 number, u8 2, u8 why.ctorIdx] ++ labelFields none ++ [o16 (s.slotOf number)])
            { s with rsu := { s.rsu with door1 := ⟨none, some (.refused why)⟩ } })) := by
      have sum : sumsToZero [n3, n2, n1, n0, ck] = true := by rw [sumsToZero_card, decide_eq_true hz]
      refine ⟨fun h => ?_, fun h => ?_⟩
      · rw [cardArrives_refused (d := 0) hc h sum (by rw [hn, ha]), hn]
        rfl
      · rw [cardArrives_refused (d := 1) hc h sum (by rw [hn, ha]), hn]
        rfl
    refine ⟨fun hu => refused (admissionChecks_unknown hu), fun k x hk hx => ⟨fun hu =>
      refused (admissionChecks_suspect hk hx hu), fun hu h => refused (admissionChecks_wrongState hk hx hu h),
      fun hu he hsrc => ⟨fun hh => refused (admissionChecks_held hk hx hu he hsrc hh), fun r hh hr =>
      ⟨fun hd => refused (admissionChecks_notOpen hk hx hu he hsrc hh hr hd), fun hd =>
      refused (admissionChecks_closed hk hx hu he hsrc hh hr hd)⟩⟩⟩⟩
  · intro k x r hz hk hx hu he hsrc hh hr hd
    have sum : sumsToZero [n3, n2, n1, n0, ck] = true := by rw [sumsToZero_card, decide_eq_true hz]
    have ok := admissionChecks_ok hk hx hu he hsrc hh hr hd
    refine ⟨fun h => ?_, fun h => ?_⟩
    · rw [cardArrives_ok (d := 0) hc h sum (by rw [hn, ok]), hn]
      dsimp only
      rw [if_pos rfl, Slot.eq_write_of_readable (s := setPort 0 ⟨some number, (s.port 0).out⟩ s) hu _ hx]
      rfl
    · rw [cardArrives_ok (d := 1) hc h sum (by rw [hn, ok]), hn]
      dsimp only
      rw [if_neg Nat.one_ne_zero, Slot.eq_write_of_readable (s := setPort 1 ⟨some number, (s.port 1).out⟩ s) hu _ hx]
      rfl

/-! ### An entry of a LOAD CANDIDATES record (R25, R26, R170) -/

/-- An entry of a record that is being taken is handed on as it completes. -/
theorem receiveEntry_taken {b : Batch} {t : BatchTaken} {e : BatchEntry} {ok : Bool} {size : Nat} (hd : s.deaf = false)
    (hr : s.sli.receive = .inBatch b false) (hb : b.header.holds e = true) (hl : size ≤ b.left) (h0 : b.left ≠ 0)
    (ht : s.sli.taken = some (.batch t)) : receiveEntry e ok size s =
      (setTaken (some (.batch (handEntry t (e, ok) (setReceive (.inBatch { b with left := b.left - size } false) s)).2))
        (handEntry t (e, ok) (setReceive (.inBatch { b with left := b.left - size } false) s)).1) := by
  simp [receiveEntry, hd, hr, hb, hl, h0, ht]

theorem handEntry_broken {t : BatchTaken} (h : t.stopped = false) (e : BatchEntry) (s : State) :
    handEntry t (e, false) s = (s, { t with stopped := true }) := by
  simp [handEntry, h]

theorem handEntry_candidate {t : BatchTaken} (h : t.stopped = false) (hr : t.refusal = none)
    (hh : t.header = .loadCandidates) (k n p c a : Nat) (m b z : Option Nat) (s : State) :
    handEntry t (.candidate k n p c a m b z, true) s =
      ((takeCandidateEntry k n p c a m b z s).1,
        { t with answers := t.answers ++ [(takeCandidateEntry k n p c a m b z s).2] }) := by
  simp [handEntry, h, hr, hh, runEntry]

section
variable {p c a : Nat} {m b z : Option Nat}

theorem beyond_iff {limit : Nat} : beyond limit z = true ↔ ∃ n, z = some n ∧ limit < n := by
  cases z <;> simp [beyond]

theorem takeCandidateEntry_bad (h : 2 ≤ c ∨ 576 ≤ k ∨ 99999999 < number ∨ 16 ≤ p ∨ ∃ n, z = some n ∧ 511 < n) :
    takeCandidateEntry k number p c a m b z s = (s, .no .badValue) := by
  unfold takeCandidateEntry
  split
  · rfl
  next cls hcls =>
    rw [if_pos]
    rw [← beyond_iff] at h
    have hc : c < 2 := (List.getElem?_eq_some_iff.mp hcls).1
    simp only [Bool.or_eq_true, decide_eq_true_eq]
    simp only [Config.slotCount, Config.maxNumber, Config.paperCount]
    have := h.resolve_left (Nat.not_le.mpr hc)
    tauto

variable {cls : CandidateClass} (hcls : CandidateClass.ofCode c = some cls) (hk : k < 576) (hn : number ≤ 99999999)
  (hp : p < 16) (hz : ∀ n, z = some n → n ≤ 511)
include hk hn hp hz

theorem takeCandidateEntry_inside :
    ¬(Config.slotCount ≤ k || Config.maxNumber < number || Config.paperCount ≤ p || beyond 511 z) = true := by
  simp only [Bool.or_eq_true, decide_eq_true_eq, beyond_iff]
  rintro (h | ⟨n, h1, h2⟩)
  · simp only [Config.slotCount, Config.maxNumber, Config.paperCount] at h
    omega
  · exact absurd (hz n h1) (Nat.not_le.mpr h2)

include hcls

theorem takeCandidateEntry_undefined (h : s.paper? p = none) :
    takeCandidateEntry k number p c a m b z s = (s, .no .notFound) := by
  simp only [takeCandidateEntry, hcls, h]
  rw [if_neg (takeCandidateEntry_inside hk hn hp hz)]

variable {r : Paper} (hr : s.paper? p = some r)
include hr

theorem takeCandidateEntry_closed (h : r.state = .overtime ∨ r.state = .closed) :
    takeCandidateEntry k number p c a m b z s = (s, .no .wrongState) := by
  simp only [takeCandidateEntry, hcls, hr]
  rw [if_neg (takeCandidateEntry_inside hk hn hp hz), if_pos (by rcases h with h | h <;> simp [h])]

variable (h1 : r.state ≠ .overtime) (h2 : r.state ≠ .closed)
include h1 h2

/-- The test of the slot's own record and of the other numbers, once the paper takes entries. -/
theorem takeCandidateEntry_open : takeCandidateEntry k number p c a m b z s =
    if (s.slot? k).map (·.suspect) == some true then (s, .no .suspect)
    else if (s.slot? k).map (·.rewritable) == some false then (s, .no .wrongState)
    else if List.any s.rsu.slots fun e => e.1 != k && e.2.shadow.number == some number then (s, .no .duplicate)
    else (writeSlot k (loadedCandidate number p cls a m b z r) .zero s,
      .doneOr (100 < a || beyond 60 m || beyond 8 b) [u8 (loadedCandidate number p cls a m b z r).state.ctorIdx]) := by
  simp only [takeCandidateEntry, hcls, hr]
  rw [if_neg (takeCandidateEntry_inside hk hn hp hz), if_neg (by simp [h1, h2])]

theorem takeCandidateEntry_suspect (hx : s.slot? k = some x) (hu : x.suspect = true) :
    takeCandidateEntry k number p c a m b z s = (s, .no .suspect) := by
  rw [takeCandidateEntry_open hcls hk hn hp hz hr h1 h2, hx]
  simp [hu]

theorem takeCandidateEntry_wrongState (hx : s.slot? k = some x) (hu : x.suspect = false)
    (h : x.cand.state ≠ .expected ∨ x.cand.source.isSome = true) :
    takeCandidateEntry k number p c a m b z s = (s, .no .wrongState) := by
  have fails : x.rewritable = false := by rcases h with h | h <;> simp [Slot.rewritable, h]
  rw [takeCandidateEntry_open hcls hk hn hp hz hr h1 h2, hx]
  simp [hu, fails]

variable (hslot : ∀ x, s.slot? k = some x → x.suspect = false ∧ x.cand.state = .expected ∧ x.cand.source = none)
include hslot

theorem takeCandidateEntry_rewritable : takeCandidateEntry k number p c a m b z s =
    if List.any s.rsu.slots fun e => e.1 != k && e.2.shadow.number == some number then (s, .no .duplicate)
    else (writeSlot k (loadedCandidate number p cls a m b z r) .zero s,
      .doneOr (100 < a || beyond 60 m || beyond 8 b) [u8 (loadedCandidate number p cls a m b z r).state.ctorIdx]) := by
  rw [takeCandidateEntry_open hcls hk hn hp hz hr h1 h2]
  cases hx : s.slot? k with
  | none => rfl
  | some x =>
    obtain ⟨hu, he, hsrc⟩ := hslot x hx
    simp [hu, Slot.rewritable, he, hsrc]

theorem takeCandidateEntry_duplicate (h : ∃ e ∈ s.rsu.slots, e.1 ≠ k ∧ e.2.shadow.number = some number) :
    takeCandidateEntry k number p c a m b z s = (s, .no .duplicate) := by
  rw [takeCandidateEntry_rewritable hcls hk hn hp hz hr h1 h2 hslot]
  exact if_pos (List.any_eq_true.mpr (by simpa using h))

theorem takeCandidateEntry_written (h : ∀ e ∈ s.rsu.slots, e.1 ≠ k → e.2.shadow.number ≠ some number) :
    takeCandidateEntry k number p c a m b z s = (writeSlot k (loadedCandidate number p cls a m b z r) .zero s,
      .doneOr (100 < a || beyond 60 m || beyond 8 b) [u8 (loadedCandidate number p cls a m b z r).state.ctorIdx]) := by
  rw [takeCandidateEntry_rewritable hcls hk hn hp hz hr h1 h2 hslot]
  refine if_neg fun found => ?_
  obtain ⟨e, he, hm⟩ := List.any_eq_true.mp found
  simp only [Bool.and_eq_true, bne_iff_ne, beq_iff_eq] at hm
  exact h e he hm.1 hm.2

end

/-- Settles O13. -/
theorem rosterEntryIsTaken : Obligations.RosterEntryIsTaken := by
  unfold Obligations.RosterEntryIsTaken
  intro s b t k number p c a m bk z hs hd hr hb hl ht hh hstop href after noted
  have taken (ok : Bool) : exec (.loadCandidatesEntry k number p c a m bk z ok) s = .next
      (setTaken (some (.batch (handEntry t (.candidate k number p c a m bk z, ok)
          (setReceive (.inBatch { b with left := b.left - 14 } false) s)).2))
        (handEntry t (.candidate k number p c a m bk z, ok)
          (setReceive (.inBatch { b with left := b.left - 14 } false) s)).1) := by
    refine congrArg _ ((settled_calm hs _).trans (receiveEntry_taken hd hr (by rw [hb]; rfl) hl (by omega) ht))
  refine ⟨?_, fun h => ?_, fun cls hcls hk hn hp hz => ?_⟩
  · rw [taken, handEntry_broken hstop]
    rfl
  · rw [taken, handEntry_candidate hstop href hh, takeCandidateEntry_bad h]
    rfl
  · have outcome (o : State × Answer) (ho : takeCandidateEntry k number p c a m bk z
          (setReceive (.inBatch { b with left := b.left - 14 } false) s) = o) :
        exec (.loadCandidatesEntry k number p c a m bk z true) s = .next
          (setTaken (some (.batch { t with answers := t.answers ++ [o.2] })) o.1) := by
      rw [taken, handEntry_candidate hstop href hh, ho]
    refine ⟨fun hp' => ?_, fun r hr => ⟨fun h => ?_, fun h1 h2 => ⟨fun x hx => ⟨fun hu => ?_, fun hu h => ?_⟩,
      fun hslot => ⟨fun hdup => ?_, fun hfree => ?_⟩⟩⟩⟩
    · exact outcome _ (takeCandidateEntry_undefined hcls hk hn hp hz hp')
    · exact outcome _ (takeCandidateEntry_closed hcls hk hn hp hz hr h)
    · exact outcome _ (takeCandidateEntry_suspect hcls hk hn hp hz hr h1 h2 hx hu)
    · exact outcome _ (takeCandidateEntry_wrongState hcls hk hn hp hz hr h1 h2 hx hu h)
    · exact outcome _ (takeCandidateEntry_duplicate hcls hk hn hp hz hr h1 h2 hslot hdup)
    · refine (outcome _ (takeCandidateEntry_written hcls hk hn hp hz hr h1 h2 hslot hfree)).trans ?_
      have code : (loadedCandidate number p cls a m bk z r).state.ctorIdx = if r.admissionPast then 6 else 0 := by
        unfold loadedCandidate
        cases r.admissionPast <;> rfl
      rw [code]
      rfl

end Sys2Proof.Machine

/-! PROOFS. SET ZONE ORDER and SET WARNINGS (O24), retry triggers and walks (O17). -/

namespace Sys2Proof.Machine

set_option Elab.async false

variable {s : State}

/-- What each step of a fold leaves unchanged, the fold leaves unchanged. -/
theorem foldl_keeps {α β γ : Type} (p : β → γ) {f : β → α → β} (h : ∀ b a, p (f b a) = p b) (l : List α) (b : β) :
    p (l.foldl f b) = p b := by
  induction l generalizing b with
  | nil => rfl
  | cons a l ih => exact (ih _).trans (h b a)

/-! ### The wait list and a walk (R51, R53) -/

theorem Sal.leave_none {l : Sal} {gone : List Nat} (h : ∀ m ∈ l.wait, m ∉ gone) : l.leave gone = l := by
  have any : l.wait.any gone.contains = false := by simpa using h
  simp [Sal.leave, any]

section
variable {l : Sal} {gone : List Nat} (h : ∃ m ∈ l.wait, m ∈ gone)
include h

theorem Sal.leave_any : l.wait.any gone.contains = true := by simpa using h

theorem Sal.leave_stays (hw : l.retry ≠ .walking ∨ (∃ a, l.serving = some a ∧ a.requester = .retry)
      ∨ (∃ m ∈ l.wait.filter fun m => !gone.contains m, m ∈ l.span)) :
    l.leave gone =
      { l with wait := l.wait.filter fun m => !gone.contains m, span := l.span.filter fun m => !gone.contains m } := by
  simp only [Sal.leave, Sal.leave_any h, Bool.not_true, Bool.false_eq_true, if_false]
  refine if_neg fun ends => ?_
  simp only [Bool.and_eq_true, beq_iff_eq, Bool.not_eq_true', Sal.trying, Sal.untried, List.isEmpty_iff,
    List.filter_eq_nil_iff] at ends
  obtain ⟨⟨walking, idle⟩, none⟩ := ends
  rcases hw with hw | ⟨a, ha, hr⟩ | ⟨m, hm, hs⟩
  · exact hw walking
  · simp [ha, hr] at idle
  · refine none m hm ?_
    have := (List.mem_filter.mp hm).2
    simpa [hs] using this

theorem Sal.leave_ends (hw : l.retry = .walking) (ha : ∀ a, l.serving = some a → a.requester ≠ .retry)
    (hs : ∀ m ∈ l.wait.filter fun m => !gone.contains m, m ∉ l.span) :
    l.leave gone = Sal.walkEnded
      { l with wait := l.wait.filter fun m => !gone.contains m, span := l.span.filter fun m => !gone.contains m } := by
  simp only [Sal.leave, Sal.leave_any h, Bool.not_true, Bool.false_eq_true, if_false]
  refine if_pos ?_
  have idle : l.trying = false := by
    cases hserv : l.serving with
    | none => simp [Sal.trying, hserv]
    | some a => simp [Sal.trying, hserv, ha a hserv]
  simp only [hw, idle, Sal.untried, Bool.and_eq_true, beq_iff_eq, Bool.not_false, List.isEmpty_iff,
    List.filter_eq_nil_iff, true_and]
  intro m hm
  have := hs m hm
  simp [this]

end

theorem Sal.walkEnded_again {l : Sal} (ha : l.again = true) (hw : l.wait ≠ []) :
    l.walkEnded = { l with span := [], again := false, retry := .pending, reqRetry := true } := by
  simp [Sal.walkEnded, ha, hw]

theorem Sal.walkEnded_idle {l : Sal} (h : l.again = false ∨ l.wait = []) :
    l.walkEnded = { l with span := [], again := false, retry := .idle, reqRetry := false } := by
  rcases h with h | h <;> simp [Sal.walkEnded, h]

theorem filter_not_contains_singleton (l : List Nat) (k : Nat) :
    (l.filter fun m => !([k] : List Nat).contains m) = l.filter (· != k) := by
  refine List.filter_congr fun _ _ => ?_
  simp [bne, beq_eq_decide]

theorem Sal.left_notMem {l : Sal} {k : Nat} (h : k ∉ l.wait) : l.left k = l :=
  Sal.leave_none fun m hm hk => h (List.mem_singleton.mp hk ▸ hm)

section
variable {l : Sal} {k : Nat} (h : k ∈ l.wait)
include h

theorem Sal.left_stays (hw : l.retry ≠ .walking ∨ (∃ a, l.serving = some a ∧ a.requester = .retry)
      ∨ (∃ m ∈ l.wait, m ≠ k ∧ m ∈ l.span)) :
    l.left k = { l with wait := l.wait.filter (· != k), span := l.span.filter (· != k) } := by
  rw [← filter_not_contains_singleton, ← filter_not_contains_singleton]
  refine Sal.leave_stays ⟨k, h, List.mem_singleton.mpr rfl⟩ (hw.imp_right (Or.imp_right ?_))
  rintro ⟨m, hm, hk, hs⟩
  exact ⟨m, List.mem_filter.mpr ⟨hm, by simpa using hk⟩, hs⟩

theorem Sal.left_ends (hw : l.retry = .walking) (ha : ∀ a, l.serving = some a → a.requester ≠ .retry)
    (hs : ∀ m ∈ l.wait, m ≠ k → m ∉ l.span) :
    l.left k = Sal.walkEnded { l with wait := l.wait.filter (· != k), span := l.span.filter (· != k) } := by
  rw [← filter_not_contains_singleton, ← filter_not_contains_singleton]
  refine Sal.leave_ends ⟨k, h, List.mem_singleton.mpr rfl⟩ hw ha fun m hm => ?_
  obtain ⟨hmem, hk⟩ := List.mem_filter.mp hm
  exact hs m hmem (by simpa using hk)

end

/-! ### Papers: SET ZONE ORDER and SET WARNINGS (R75) -/

section
variable {p : Nat} {act : Paper → Response}

theorem withPaper_outside (hp : 16 ≤ p) : withPaper p s act = refuse s .badValue := if_pos hp

theorem withPaper_undefined (hp : p < 16) (hn : s.paper? p = none) : withPaper p s act = refuse s .notFound := by
  rw [withPaper, if_neg (show ¬Config.paperCount ≤ p from Nat.not_le.mpr hp), hn]

theorem withPaper_defined {r : Paper} (hp : p < 16) (hr : s.paper? p = some r) : withPaper p s act = act r := by
  rw [withPaper, if_neg (show ¬Config.paperCount ≤ p from Nat.not_le.mpr hp), hr]

end

theorem zoneOrderOk_iff (l : List Nat) :
    zoneOrderOk l = true ↔ l ≠ [] ∧ l.length ≤ 8 ∧ (∀ z ∈ l, z < 8) ∧ l.Nodup := by
  simp only [zoneOrderOk, Bool.and_eq_true, Bool.not_eq_true', List.isEmpty_eq_false_iff, decide_eq_true_eq, List.all_eq_true,
    distinct_iff_nodup, and_assoc]
  rfl

theorem zoneOrder_refused {p : Nat} {l : List Nat} (h : 16 ≤ p ∨ zoneOrderOk l = false) :
    takeSetZoneOrder p l s = refuse s .badValue := by
  cases hl : zoneOrderOk l with
  | false => simp [takeSetZoneOrder, hl]
  | true => simp [takeSetZoneOrder, hl, withPaper_outside (h.resolve_right (by simp [hl]))]

section
variable {p : Nat} {l : List Nat} (hp : p < 16) (hl : zoneOrderOk l = true)
include hp hl

theorem takeSetZoneOrder_undefined (hn : s.paper? p = none) : takeSetZoneOrder p l s = refuse s .notFound := by
  simp [takeSetZoneOrder, hl, withPaper_undefined hp hn]

theorem takeSetZoneOrder_written {r : Paper} (hr : s.paper? p = some r) : takeSetZoneOrder p l s =
    done ((s.withPaperRecord p { r with zoneOrder := l }).triggerIf (r.zoneOrder != l)) [] := by
  simp only [takeSetZoneOrder, hl, withPaper_defined hp hr, modPaper_eq_withPaperRecord hr]
  rfl

end

theorem insertBy_perm {α : Type} (key : α → Nat) (a : α) (l : List α) : (insertBy key a l).Perm (a :: l) := by
  induction l with
  | nil => exact .refl _
  | cons b l ih =>
    unfold insertBy
    split
    · exact .refl _
    · exact (ih.cons b).trans (.swap a b l)

theorem sortBy_perm {α : Type} (key : α → Nat) (l : List α) : (sortBy key l).Perm l := by
  induction l with
  | nil => exact .refl _
  | cons a l ih => exact (insertBy_perm key a _).trans (ih.cons a)

theorem insertBy_sorted {α : Type} {key : α → Nat} {l : List α} (h : l.Pairwise fun x y => key x ≤ key y) (a : α) :
    (insertBy key a l).Pairwise fun x y => key x ≤ key y := by
  induction l with
  | nil => exact List.pairwise_singleton ..
  | cons b l ih =>
    obtain ⟨hb, hl⟩ := List.pairwise_cons.mp h
    unfold insertBy
    split
    next hlt =>
      refine List.pairwise_cons.mpr ⟨fun x hx => ?_, h⟩
      rcases List.mem_cons.mp hx with rfl | hx
      · exact Nat.le_of_lt hlt
      · exact (Nat.le_of_lt hlt).trans (hb x hx)
    next hge =>
      refine List.pairwise_cons.mpr ⟨fun x hx => ?_, ih hl⟩
      rcases List.mem_cons.mp ((insertBy_perm key a l).mem_iff.mp hx) with rfl | hx
      · exact Nat.not_lt.mp hge
      · exact hb x hx

theorem sortBy_sorted {α : Type} (key : α → Nat) (l : List α) : (sortBy key l).Pairwise fun x y => key x ≤ key y := by
  induction l with
  | nil => exact .nil
  | cons a l ih => exact insertBy_sorted ih a

theorem descending_perm (l : List Nat) : (descending l).Perm l := (List.reverse_perm _).trans (sortBy_perm id l)

theorem descending_sorted {l : List Nat} (h : l.Nodup) : (descending l).Pairwise (· > ·) := by
  have sorted := (sortBy_sorted id l).and ((sortBy_perm id l).nodup_iff.mpr h)
  exact List.pairwise_reverse.mpr (sorted.imp fun h => Nat.lt_of_le_of_ne h.1 h.2)

/-- The values SET WARNINGS takes: 1 to 60, none twice (R75). -/
theorem warningsOk_iff (l : List Nat) : (!l.all (fun t => 1 ≤ t && t ≤ 60) || !distinct l) = false ↔
    (∀ t ∈ l, 1 ≤ t ∧ t ≤ 60) ∧ l.Nodup := by
  simp [← distinct_iff_nodup]

theorem takeSetWarnings_bad {p : Nat} {l : List Nat} (h : 16 ≤ p ∨ ¬((∀ t ∈ l, 1 ≤ t ∧ t ≤ 60) ∧ l.Nodup)) :
    takeSetWarnings p l s = refuse s .badValue := by
  rw [← warningsOk_iff, Bool.not_eq_false] at h
  unfold takeSetWarnings
  split
  · rfl
  next ok => exact withPaper_outside (h.resolve_right ok)

section
variable {p : Nat} {l : List Nat} (hp : p < 16) (hl : (∀ t ∈ l, 1 ≤ t ∧ t ≤ 60) ∧ l.Nodup)
include hp hl

theorem takeSetWarnings_undefined (hn : s.paper? p = none) : takeSetWarnings p l s = refuse s .notFound := by
  rw [takeSetWarnings, (warningsOk_iff l).mpr hl, withPaper_undefined hp hn]
  rfl

variable {r : Paper} (hr : s.paper? p = some r)
include hr

theorem takeSetWarnings_wrongState (h : r.state = .writing ∨ r.state = .overtime ∨ r.state = .closed) :
    takeSetWarnings p l s = refuse s .wrongState := by
  rw [takeSetWarnings, (warningsOk_iff l).mpr hl, withPaper_defined hp hr]
  rcases h with h | h | h <;> simp [h]

theorem takeSetWarnings_written (h : r.state = .defined ∨ r.state = .admitting ∨ r.state = .reading) :
    takeSetWarnings p l s = doneOr ((descending (l.filter (· < r.duration))).length < l.length)
      (s.withPaperRecord p { r with warnings := descending (l.filter (· < r.duration)) }) [] := by
  rw [takeSetWarnings, (warningsOk_iff l).mpr hl, withPaper_defined hp hr, (descending_perm _).length_eq]
  rcases h with h | h | h <;> simp [h, modPaper_eq_withPaperRecord hr]

end

/-- SET WARNINGS of more than four thresholds is no record of its kind (R168, R183). -/
theorem exec_setWarnings_long (hs : s.ready = true) (p : Nat) {l : List Nat} (hl : 4 < l.length) :
    exec (.setWarnings p l) s = .next (s.refused 50 .badRecord) := by
  obtain ⟨hc, ht, hw, hr, hd⟩ := (State.ready_iff s).mp hs
  refine congrArg Host.Outcome.next ((settled_calm hc _).trans ?_)
  simp [receiveWarnings, Nat.not_le.mpr hl, answerBad, arrive, hd, breakRecord_idle hr]
  rfl

/-- Settles O24. -/
theorem zoneOrderAndWarningRequests : Obligations.ZoneOrderAndWarningRequests := by
  unfold Obligations.ZoneOrderAndWarningRequests
  intro s p l hs
  refine ⟨fun h => ?_, fun hp hl hn => ?_, fun r hp hl hr => ?_, fun h => exec_setWarnings_long hs p h, fun h4 h => ?_,
    fun hp h4 hl hn => ?_, fun r hp h4 hl hr => ⟨fun h => ?_, fun h => ?_⟩⟩
  · rw [exec_setZoneOrder_ready hs, zoneOrder_refused, finishTaking_refuse]
    rwa [← Bool.not_eq_true, zoneOrderOk_iff]
  · rw [exec_setZoneOrder_ready hs, takeSetZoneOrder_undefined hp ((zoneOrderOk_iff l).mpr hl) hn, finishTaking_refuse]
  · rw [exec_setZoneOrder_ready hs, takeSetZoneOrder_written hp ((zoneOrderOk_iff l).mpr hl) hr, finishTaking_done]
  · rw [exec_setWarnings_ready hs p h4, takeSetWarnings_bad h, finishTaking_refuse]
  · rw [exec_setWarnings_ready hs p h4, takeSetWarnings_undefined hp hl hn, finishTaking_refuse]
  · rw [exec_setWarnings_ready hs p h4, takeSetWarnings_wrongState hp hl hr h, finishTaking_refuse]
  · rw [exec_setWarnings_ready hs p h4, takeSetWarnings_written hp hl hr h, finishTaking_doneOr]
    exact ⟨_, descending_perm _, descending_sorted (hl.2.filter _), rfl⟩

/-! ### What leaves the allocator, and what triggers a retry (R52) -/

theorem finishRecord_sal (k : Nat) (why : FinishReason) (g : Slot → Clock) (s : State) :
    (finishRecord k why g s).sal = s.sal := by
  unfold finishRecord
  split
  · rfl
  · simp

theorem finishSlots_sal (ks : List Nat) (why : FinishReason) (g : Slot → Clock) (s : State) :
    (finishSlots ks why g s).sal = s.sal.leave ks := by
  unfold finishSlots leaveTogether
  rw [foldl_keeps State.sal fun s k => finishRecord_sal k why g s]

theorem putSeat_freed_sal {n : Nat} {old new : Seat} (h : s.seat? n = some old) (ho : old.state ≠ .free)
    (hn : new.state = .free) : (putSeat n new s).sal = (retryTrigger s).sal := by
  rw [putSeat_eq h]
  simp [hn, ho, State.triggerIf, retryTrigger_eq]

/-- A trigger looks at the allocator alone. -/
theorem triggered_sal {u : State} (h : u.sal = s.sal) : (u.triggerIf true).sal = (retryTrigger s).sal := by
  rw [State.triggerIf, if_pos rfl, retryTrigger_eq, retryTrigger_eq, h]

theorem deskOnline_sal (a : Nat) (d : Desk) (s : State) : (deskOnline a d s).sal = (retryTrigger s).sal := by
  unfold deskOnline deskNotice
  rw [retryTrigger_eq, retryTrigger_eq]
  dsimp only
  split
  · rw [notify_sal, modDesk_sal]
  · rw [modDesk_sal]

theorem settleWait_sal (k : FaultKind) (w : ResendWait) (s : State) : (settleWait k w s).sal = s.sal := by
  unfold settleWait
  simp

theorem loseWaits_sal (s : State) : (loseWaits s).sal = s.sal :=
  foldl_keeps State.sal (fun s w => settleWait_sal .lost w s) _ _

theorem releaseHeld_sal (s : State) : (releaseHeld s).sal = s.sal :=
  foldl_keeps State.sal (f := fun s (f : FaultReport) => notify .fault f.fields s)
    (fun s f => notify_sal s .fault f.fields) _ _

theorem setPort_sal (d : Nat) (p : Port) (s : State) : (setPort d p s).sal = s.sal := by
  unfold setPort
  split <;> rfl

theorem answerDoor_sal (d : Nat) (a : DoorAnswer) (s : State) : (answerDoor d a s).sal = s.sal := by
  unfold answerDoor doorNotice
  split
  · rfl
  · simp [setPort_sal]

theorem clearedNotices_sal (ps : List Nat) (s : State) : (clearedNotices ps s).sal = s.sal :=
  foldl_keeps State.sal (fun s _ => notify_sal s .paperState _) _ _

/-- CLEAR SITTING where nothing forbids it: the allocator is at its first values, but for the requester served last. -/
theorem takeClearSitting_sal (hh : s.ssu.held = false) (hp : s.ssu.papers.any (fun r => r.state.underWay) = false) :
    ∃ t, takeClearSitting s = done t [] ∧ t.sal = (readAllSeats s).sal.cleared := by
  unfold takeClearSitting
  simp only [hh, hp, Bool.or_self, Bool.false_eq_true, if_false]
  refine ⟨_, rfl, ?_⟩
  rw [markerIdle, releaseHeld_sal]
  calc (setMarker none (loseWaits _)).sal = _ := loseWaits_sal _
    _ = _ := answerDoor_sal ..
    _ = _ := answerDoor_sal ..
    _ = _ := clearedNotices_sal ..
    _ = _ := rfl

/-- Settles O17. -/
theorem retryTriggerActs : Obligations.RetryTriggerActs := by
  unfold Obligations.RetryTriggerActs
  refine ⟨⟨⟨?trigger, fun s a b => ⟨_, rfl, rfl, rfl⟩, fun s hs => ?link, fun s hs hh hp => ?clear, fun s n old new h ho hn =>
    putSeat_freed_sal h ho hn, fun s z r hs hz hr hst => ?openZone, fun s z r hs hz hr hst => ?setCode,
    fun s p r hs hp hr hz => ?order, fun s a d => deskOnline_sal a d s⟩, fun l k => ⟨Sal.left_notMem, fun h =>
    ⟨Sal.left_stays h, fun hw ha hs => ?left⟩⟩⟩, fun l gone => ⟨Sal.leave_none, fun h =>
    ⟨Sal.leave_stays h, fun hw ha hs => ?leave⟩⟩, fun s ks why g => finishSlots_sal ks why g s⟩
  case trigger =>
    intro s
    simp only [retryTrigger_eq]
    refine ⟨fun h hw => ?_, fun h hw => ?_, fun h => ?_, fun h => ?_⟩ <;> simp [Sal.triggered, *]
  case link => exact ⟨_, congrArg Host.Outcome.next (settled_calm hs _), rfl⟩
  case clear =>
    have quiet : s.ssu.papers.any (fun r => r.state.underWay) = false := by
      refine Table.any_eq_false.mpr fun e he => ?_
      rcases hp e he with h | h | h <;> simp [PaperState.underWay, h]
    obtain ⟨t, ht, hsal⟩ := takeClearSitting_sal hh quiet
    rw [exec_clearSitting_ready hs, ht, finishTaking_done]
    exact ⟨_, rfl, congrArg Sal.retry hsal, congrArg Sal.again hsal⟩
  case openZone =>
    rw [exec_openZone_ready hs, takeOpenZone_eq, withDefinedZone_defined hz hr, finishTaking_done, hst]
    exact ⟨_, rfl, triggered_sal rfl⟩
  case setCode =>
    rw [exec_setAdmission_ready hs, takeSetAdmission_eq (cls := .standard) (code := .admits) rfl rfl,
      withDefinedZone_defined hz hr, finishTaking_done, show (r.code .standard != .admits) = true from bne_iff_ne.mpr hst]
    exact ⟨_, rfl, triggered_sal rfl⟩
  case order =>
    rw [exec_setZoneOrder_ready hs, takeSetZoneOrder_written hp ((zoneOrderOk_iff _).mpr (by simp)) hr, finishTaking_done,
      bne_iff_ne.mpr hz]
    exact ⟨_, rfl, triggered_sal rfl⟩
  case left =>
    rw [Sal.left_ends h hw ha hs]
    refine ⟨fun ⟨again, m, hm, hk⟩ => Sal.walkEnded_again again ?_, fun hnone => Sal.walkEnded_idle ?_⟩
    · exact List.ne_nil_of_mem (List.mem_filter.mpr ⟨hm, by simpa using hk⟩)
    · exact hnone.imp_right fun all => List.filter_eq_nil_iff.mpr fun m hm => by simp [all m hm]
  case leave =>
    rw [Sal.leave_ends h hw ha hs]
    refine ⟨fun again hne => ?_, fun hnone => ?_⟩
    · rw [Sal.walkEnded_again]
      · exact again
      · exact hne
    · rw [Sal.walkEnded_idle]
      exact hnone

end Sys2Proof.Machine

/-! PROOFS. The time base: SET TIME (O21), SET TRIM, CALIBRATE and the calibration's steps (O22). -/

namespace Sys2Proof.Machine

set_option Elab.async false

variable {s : State}

/-! ### SET TIME (R64) -/

theorem takeSetTime_bad {v : Nat} (h : 86400 ≤ v) : takeSetTime v s = refuse s .badValue := if_pos h

theorem takeSetTime_written {v : Nat} (h : v < 86400) : takeSetTime v s =
    done { s with
      htb := { s.htb with time := v, timeSet := true }
      due := s.due ++ (if s.htb.timeSet then s.startsDue fun i => s.htb.time < i && i ≤ v else []).map Due.scheduledStart }
      [u24 s.htb.time, u24 v, flag s.htb.timeSet] := by
  rw [takeSetTime, if_neg (show ¬Config.daySeconds ≤ v from Nat.not_le.mpr h)]
  rfl

/-- The papers whose start instant an interval of the clock holds, as the papers of the table that meet the test. -/
theorem startsDue_eq (s : State) (f : Nat → Bool) : s.startsDue f =
    (s.ssu.papers.filter fun e => e.2.state == .admitting &&
      (e.2.scheduled.map fun c => f ((c + 86400 - 60 * e.2.reading) % 86400)).getD false).map (·.1) := by
  simp only [State.startsDue, Table.keysWhere, Paper.instant, Option.map_map]
  rfl

theorem startsDue_empty {f : Nat → Bool} (h : ∀ n, f n = false) : s.startsDue f = [] := by
  have never (c : Option Nat) (g : Nat → Nat) : (c.map fun n => f (g n)).getD false = false := by
    cases c <;> simp [h]
  rw [startsDue_eq, List.filter_eq_nil_iff.mpr]
  · rfl
  · intro e _
    rw [never]
    simp

/-- Settles O21. -/
theorem setTimeRequest : Obligations.SetTimeRequest := by
  unfold Obligations.SetTimeRequest
  intro s v hs
  rw [exec_setTime_ready hs]
  refine ⟨fun h => ?_, fun h => ⟨fun hset => ?_, fun hset hv => ?_, fun hset hv => ?_⟩⟩
  · rw [takeSetTime_bad h, finishTaking_refuse]
  · rw [takeSetTime_written h, finishTaking_done, hset]
    simp
  · rw [takeSetTime_written h, finishTaking_done, startsDue_empty fun n => ?_]
    · simp
    · rw [Bool.and_eq_false_iff, decide_eq_false_iff_not, decide_eq_false_iff_not]
      omega
  · rw [takeSetTime_written h, finishTaking_done, hset, startsDue_eq]
    simp [List.map_map, Function.comp_def]

/-! ### Calibration (R65 to R70) -/

theorem abandonCalibration_idle {c : Nat} (h : s.htb.cal = .idle) : abandonCalibration c s = s := by
  simp [abandonCalibration, h]

theorem abandonCalibration_running {c : Nat} (h : s.htb.cal ≠ .idle) (hr : s.sli.notices.length < 64) :
    abandonCalibration c s = { s with
      htb := s.htb.calIdle
      sli := { s.sli with notices := s.sli.notices ++ [⟨.calibrationLost, s.htb.time,
        [u8 c, u8 s.htb.cal.ctorIdx, u16 s.htb.calLength, u16 s.htb.pulses]⟩] } } := by
  simp only [abandonCalibration, beq_iff_eq, if_neg h]
  exact notify_room (by exact hr) _ _

theorem takeCalibrate_bad {v : Nat} (h1 : v ≠ 16) (h2 : v ≠ 64) (h3 : v ≠ 256) :
    takeCalibrate v s = refuse s .badValue := by
  simp [takeCalibrate, h1, h2, h3]

section
variable {v : Nat} (hv : v = 16 ∨ v = 64 ∨ v = 256)
include hv

theorem takeCalibrate_busy (h : s.htb.cal ≠ .idle) : takeCalibrate v s = refuse s .busy := by
  rcases hv with rfl | rfl | rfl <;> simp [takeCalibrate, h]

theorem takeCalibrate_armed (h : s.htb.cal = .idle) : takeCalibrate v s =
    done { s with htb := { s.htb with cal := .armed, calLength := v, pulses := 0, ticks := 0, window := 0 } }
      [u16 v, u24 s.htb.trim] := by
  rcases hv with rfl | rfl | rfl <;> simp [takeCalibrate, h]

end

theorem exec_referencePulse (hs : s.calm = true) : exec .referencePulse s = .next (referencePulseTaken s) :=
  congrArg Host.Outcome.next (settled_calm hs _)

theorem finishCalibration_room (hr : s.sli.notices.length < 64) : finishCalibration s = { s with
    htb := { s.htb.calIdle with pendingTrim := some (clampTrim (measuredTrim s.htb.ticks s.htb.calLength)) }
    sli := { s.sli with notices := s.sli.notices ++ [⟨.calibrated, s.htb.time,
      [u16 s.htb.calLength, u24 s.htb.ticks, u24 s.htb.trim, u24 (clampTrim (measuredTrim s.htb.ticks s.htb.calLength)),
        flag (clampTrim (measuredTrim s.htb.ticks s.htb.calLength) != measuredTrim s.htb.ticks s.htb.calLength)]⟩] } } :=
  notify_room (by exact hr) _ _

/-- Settles O22. -/
theorem calibrationAndTrim : Obligations.CalibrationAndTrim := by
  unfold Obligations.CalibrationAndTrim
  refine ⟨fun s v hs => ?requests, fun s hs => ?pulses, fun s => ⟨fun h => ?kept, fun hc hw hr => ?lost⟩⟩
  case requests =>
    rw [exec_setTrim_ready hs, exec_calibrate_ready hs]
    refine ⟨fun hc => ?_, fun hc hr => ?_, fun h1 h2 h3 => ?_, fun hv => ⟨fun hc => ?_, fun hc => ?_⟩⟩
    · rw [takeSetTrim, abandonCalibration_idle hc, finishTaking_doneOr]
      rfl
    · rw [takeSetTrim, abandonCalibration_running hc hr, finishTaking_doneOr]
      rfl
    · rw [takeCalibrate_bad h1 h2 h3, finishTaking_refuse]
    · rw [takeCalibrate_busy hv hc, finishTaking_refuse]
    · rw [takeCalibrate_armed hv hc, finishTaking_done]
  case pulses =>
    rw [exec_referencePulse hs]
    refine ⟨fun h => ?_, fun h => ?_, fun h hn => ?_, fun h hn hr => ?_⟩
    · simp [referencePulseTaken, h]
    · simp [referencePulseTaken, h]
    · simp [referencePulseTaken, h, hn]
    · simp only [referencePulseTaken, h, hn, beq_self_eq_true, if_true]
      rw [finishCalibration_room (by exact hr)]
      rfl
  case kept =>
    have kept : s.referenceLost = false := by
      rw [State.referenceLost, Bool.and_eq_false_iff, bne_eq_false_iff_eq, decide_eq_false_iff_not]
      exact h.imp_right Nat.not_le.mpr
    exact congrArg Host.Outcome.next (if_neg (by simp [kept]))
  case lost =>
    have lost : s.referenceLost = true := by
      rw [State.referenceLost, Bool.and_eq_true, bne_iff_ne, decide_eq_true_eq]
      exact ⟨hc, hw⟩
    exact congrArg Host.Outcome.next ((if_pos lost).trans (abandonCalibration_running hc hr))

end Sys2Proof.Machine

/-! PROOFS. DEFINE PAPER (O23). -/

namespace Sys2Proof.Machine

set_option Elab.async false

variable {s : State}

/-! ### The values of a record (R73, R74) -/

theorem codeChar_iff (c : Nat) : codeChar c = true ↔ (65 ≤ c ∧ c ≤ 90) ∨ (48 ≤ c ∧ c ≤ 57) ∨ c = 32 := by
  simp [codeChar, or_assoc]

theorem ascending_iff (l : List Nat) : ascending l = true ↔ l.Pairwise (· < ·) := by
  rw [← List.isChain_iff_pairwise]
  induction l with
  | nil => simp [ascending]
  | cons a l ih =>
    cases l with
    | nil => simp [ascending]
    | cons b l => simp only [ascending, Bool.and_eq_true, decide_eq_true_eq, ih, List.isChain_cons_cons]

theorem paperFieldsOk_iff (f : PaperFields) : paperFieldsOk f = true ↔ f.code.length = 6
      ∧ (∀ c ∈ f.code, (65 ≤ c ∧ c ≤ 90) ∨ (48 ≤ c ∧ c ≤ 57) ∨ c = 32) ∧ f.form < 4 ∧ 1 ≤ f.versions ∧ f.versions ≤ 4
      ∧ f.reading ≤ 30 ∧ 10 ≤ f.duration ∧ f.duration ≤ 360 ∧ f.blackFirst ≤ 60 ∧ f.blackLast ≤ 30 ∧ f.penalty ≤ 32
      ∧ (∀ t, f.scheduled = some t → t < 86400)
      ∧ f.zoneOrder ≠ [] ∧ f.zoneOrder.length ≤ 8 ∧ (∀ z ∈ f.zoneOrder, z < 8) ∧ f.zoneOrder.Nodup
      ∧ f.sections.head? = some 1 ∧ f.sections.length ≤ 4 ∧ f.sections.Pairwise (· < ·) := by
  have sections : sectionsOk f.sections = true ↔
      f.sections.head? = some 1 ∧ f.sections.length ≤ 4 ∧ f.sections.Pairwise (· < ·) := by
    simp [sectionsOk, ascending_iff, and_assoc]
  unfold paperFieldsOk
  cases f.scheduled with
  | none =>
    simp only [Bool.and_eq_true, zoneOrderOk_iff, sections, beq_iff_eq, decide_eq_true_eq, List.all_eq_true, codeChar_iff,
      and_assoc, true_and, reduceCtorEq, false_imp_iff, implies_true]
    rfl
  | some t =>
    simp only [Bool.and_eq_true, zoneOrderOk_iff, sections, beq_iff_eq, decide_eq_true_eq, List.all_eq_true, codeChar_iff,
      and_assoc, Option.some.injEq, forall_eq']
    rfl

/-! ### The keys of versions that go (R157, log entry 53) -/

theorem keyOf_removeKeys {p q v : Nat} {gone : Nat → Bool} (hv : v < 4) : (removeKeys p gone s).keyOf q v =
    if q = p ∧ gone v = true then ⟨none, (s.keyOf q v).generation⟩ else s.keyOf q v := by
  have div : (q * 4 + v) / 4 = q := by omega
  have mod : (q * 4 + v) % 4 = v := by omega
  simp only [State.keyOf, removeKeys, Table.find_mapAll, div, mod, Bool.and_eq_true, beq_iff_eq]
  cases s.mru.keys.find (q * 4 + v) with
  | none => simp
  | some k => simp only [Option.map_some, Option.getD_some]

/-! ### The request (R74) -/

theorem takeDefinePaper_bad {p : Nat} {f : PaperFields} (h : 16 ≤ p ∨ paperFieldsOk f = false) :
    takeDefinePaper p f s = refuse s .badValue := by
  refine if_pos ?_
  rw [Bool.or_eq_true, decide_eq_true_eq, Bool.not_eq_true']
  exact h

section
variable {p : Nat} {f : PaperFields} (hp : p < 16) (hf : paperFieldsOk f = true)
include hp hf

theorem takeDefinePaper_inside : ¬(Config.paperCount ≤ p || !paperFieldsOk f) = true := by
  rw [Bool.or_eq_true, decide_eq_true_eq, hf, not_or]
  exact ⟨Nat.not_le.mpr hp, nofun⟩

theorem takeDefinePaper_noForm (hn : s.mru.forms.find f.form = none) :
    takeDefinePaper p f s = refuse s .notFound := by
  rw [takeDefinePaper, if_neg (takeDefinePaper_inside hp hf), hn]

variable {q : Nat} (hq : s.mru.forms.find f.form = some q)
include hq

theorem takeDefinePaper_beyond (h : q < f.sections.getLast?.getD 1) : takeDefinePaper p f s = refuse s .badValue := by
  simp only [takeDefinePaper, if_neg (takeDefinePaper_inside hp hf), hq]
  exact if_pos h

variable (hl : f.sections.getLast?.getD 1 ≤ q)
include hl

theorem takeDefinePaper_new (hn : s.paper? p = none) :
    takeDefinePaper p f s = doneOr (paperClamps f) (s.withPaperRecord p (paperRecord f [])) [] := by
  simp only [takeDefinePaper, if_neg (takeDefinePaper_inside hp hf), hq, hn]
  exact if_neg (Nat.not_lt.mpr hl)

variable {old : Paper} (ho : s.paper? p = some old)
include ho

theorem takeDefinePaper_wrongState (h : old.state ≠ .defined) : takeDefinePaper p f s = refuse s .wrongState := by
  simp only [takeDefinePaper, if_neg (takeDefinePaper_inside hp hf), hq, ho, bne_iff_ne, if_pos h]
  exact if_neg (Nat.not_lt.mpr hl)

theorem takeDefinePaper_again (h : old.state = .defined) : takeDefinePaper p f s =
    doneOr (paperClamps f || (paperRecord f old.warnings).warnings != old.warnings)
      ((paperKeysFollow p old (paperRecord f old.warnings) (s.withPaperRecord p (paperRecord f old.warnings))).triggerIf
        (old.zoneOrder != f.zoneOrder)) [] := by
  simp only [takeDefinePaper, if_neg (takeDefinePaper_inside hp hf), hq, ho, h]
  rw [if_neg (show ¬q < lastSection f.sections from Nat.not_lt.mpr hl)]
  rfl

end

theorem paperKeysFollow_kept {p : Nat} {old new : Paper} (hf : old.form = new.form) (hv : old.versions ≤ new.versions) :
    paperKeysFollow p old new s = s := by
  simp [paperKeysFollow, hf, Nat.not_lt.mpr hv]

theorem paperKeysFollow_gone {p : Nat} {old new : Paper} (h : old.form ≠ new.form ∨ new.versions < old.versions) :
    paperKeysFollow p old new s = removeKeys p (fun v => old.form != new.form || decide (new.versions ≤ v)) s := by
  unfold paperKeysFollow
  cases hf : old.form != new.form with
  | true => simp
  | false => simp [h.resolve_left (by simpa using hf)]

/-- Settles O23. -/
theorem definePaperRequest : Obligations.DefinePaperRequest := by
  unfold Obligations.DefinePaperRequest
  intro s p f hs
  rw [exec_definePaper_ready hs]
  refine ⟨paperFieldsOk_iff f, fun h => ?_, fun hp hf => ⟨fun hn => ?_, fun q hq => ⟨fun h => ?_, fun hl => ⟨fun hn => ?_,
    fun old ho => ⟨fun h => ?_, fun h hgone => ?_, fun h hform hv => ?_⟩⟩⟩⟩⟩
  · rw [takeDefinePaper_bad h, finishTaking_refuse]
  · rw [takeDefinePaper_noForm hp hf hn, finishTaking_refuse]
  · rw [takeDefinePaper_beyond hp hf hq h, finishTaking_refuse]
  · rw [takeDefinePaper_new hp hf hq hl hn, finishTaking_doneOr]
    rfl
  · rw [takeDefinePaper_wrongState hp hf hq hl ho h, finishTaking_refuse]
  · rw [takeDefinePaper_again hp hf hq hl ho h, finishTaking_doneOr, paperKeysFollow_gone hgone]
    exact ⟨_, rfl, fun q v hv => keyOf_removeKeys (s := s) (p := p)
      (gone := fun v => old.form != f.form || decide (f.versions ≤ v)) hv⟩
  · rw [takeDefinePaper_again hp hf hq hl ho h, finishTaking_doneOr, paperKeysFollow_kept (by exact hform) (by exact hv)]
    rfl

end Sys2Proof.Machine

/-! PROOFS. Tables by their records, and what checked reads leave unchanged; the hold contact (O28); BREAK GRANT and GRANT
TIME (O29). -/

namespace Sys2Proof.Table

set_option Elab.async false

variable {α : Type}

/-- Sorted tables with the same records are the same table. -/
theorem ext_find {t u : Table α} (ht : t.sorted = true) (hu : u.sorted = true) (h : ∀ k, t.find k = u.find k) : t = u := by
  have same : ∀ e, e ∈ t ↔ e ∈ u := fun e => by
    rw [mem_iff_find ht, mem_iff_find hu, h]
  have strict {v : Table α} (hv : v.sorted = true) : v.Nodup :=
    ((Machine.Table.sorted_iff_pairwise v).mp hv).imp fun {a b} hlt (he : a = b) => Nat.lt_irrefl _ (he ▸ hlt)
  refine ((List.perm_ext_iff_of_nodup (strict ht) (strict hu)).mpr same).eq_of_pairwise
    (fun a b _ _ h1 h2 => absurd (h1.trans h2) (Nat.lt_irrefl _)) ((Machine.Table.sorted_iff_pairwise t).mp ht)
    ((Machine.Table.sorted_iff_pairwise u).mp hu)

theorem put_put (t : Table α) (k : Nat) (a b : α) : (t.put k a).put k b = t.put k b := by
  induction t with
  | nil => simp [put]
  | cons e t ih =>
    obtain ⟨i, c⟩ := e
    rcases Nat.lt_trichotomy k i with h | h | h
    · simp [put, h]
    · simp [put, h]
    · simp [put, Nat.lt_asymm h, Nat.ne_of_gt h, ih]

theorem modify_eq_put {t : Table α} {k : Nat} {a : α} (h : t.find k = some a) (f : α → α) :
    t.modify k f = t.put k (f a) := by
  simp [modify, h]

theorem modify_eq_self {t : Table α} {k : Nat} (h : t.find k = none) (f : α → α) : t.modify k f = t := by
  simp [modify, h]

theorem find_foldl_modify (ks : List Nat) (f : Nat → α → α) (t : Table α) (m : Nat) (hn : ks.Nodup) :
    (ks.foldl (fun t k => t.modify k (f k)) t).find m = if m ∈ ks then (t.find m).map (f m) else t.find m := by
  induction ks generalizing t with
  | nil => rfl
  | cons k ks ih =>
    obtain ⟨hk, hn⟩ := List.nodup_cons.mp hn
    rw [List.foldl_cons, ih _ hn, find_modify]
    rcases eq_or_ne m k with rfl | hm
    · simp [hk]
    · simp [hm]

theorem keys_nodup {t : Table α} (h : t.sorted = true) (p : Nat × α → Bool) : ((t.filter p).map Prod.fst).Nodup := by
  have pairs := (Machine.Table.sorted_iff_pairwise t).mp h
  exact List.Pairwise.map _ (fun _ _ hlt => Nat.ne_of_lt hlt) (pairs.sublist List.filter_sublist)

/-- The indices of the records that meet a test. -/
theorem mem_keys_filter {t : Table α} (h : t.sorted = true) (p : Nat × α → Bool) (k : Nat) :
    k ∈ (t.filter p).map Prod.fst ↔ ∃ a, t.find k = some a ∧ p (k, a) = true := by
  constructor
  · intro hk
    obtain ⟨⟨i, a⟩, hmem, rfl⟩ := List.mem_map.mp hk
    obtain ⟨hmem, hp⟩ := List.mem_filter.mp hmem
    exact ⟨a, (mem_iff_find h _ _).mp hmem, hp⟩
  · rintro ⟨a, ha, hp⟩
    exact List.mem_map.mpr ⟨(k, a), List.mem_filter.mpr ⟨(mem_iff_find h _ _).mpr ha, hp⟩, rfl⟩

end Sys2Proof.Table

namespace Sys2Proof.Machine

set_option Elab.async false

variable {s : State} {k number : Nat} {x : Slot}

/-! ### What checked reads leave (R177) -/

theorem readRecord_keeps {β : Type} (p : State → β) {r : RecordRef}
    (hf : ∀ s a b i c, p (takeFault a b i c s) = p s) (hm : ∀ s, p (markSuspect r s) = p s)
    (hu : ∀ (s : State) u, p { s with upsets := u } = p s) (s : State) : p (readRecord r s) = p s := by
  have words (ws : List Nat) (s : State) : p (readWords r ws s) = p s := by
    induction ws generalizing s with
    | nil => rfl
    | cons w ws ih =>
      unfold readWords
      split
      · rw [hf, hm]
        exact hu ..
      · rw [ih, hf]
        exact hu ..
  unfold readRecord
  split
  · exact words _ _
  · rfl

theorem readRecord_ssu (r : RecordRef) (s : State) : (readRecord r s).ssu = s.ssu :=
  readRecord_keeps State.ssu (fun s a b i c => takeFault_ssu s a b i c) (fun s => by cases r <;> rfl) (fun _ _ => rfl) s

theorem readPaper_ssu (p : Nat) (s : State) : (readPaper p s).ssu = s.ssu :=
  foldl_keeps State.ssu (fun s k => readRecord_ssu (.candidate k) s) _ _

theorem readSlots_ssu (s : State) : (readSlots s).ssu = s.ssu :=
  foldl_keeps State.ssu (fun s k => readRecord_ssu (.candidate k) s) _ _

/-! ### The hold contact (R89, R90) -/

theorem raiseHold_again (h : s.ssu.held = true) (c : Bool) : raiseHold c s =
    notify .held [flag (s.ssu.srcStation || !c), flag (s.ssu.srcContact || c)] { s with ssu := { s.ssu with
      srcStation := s.ssu.srcStation || !c, srcContact := s.ssu.srcContact || c } } := by
  simp only [raiseHold, h, if_true]
  rfl

theorem Clock.holdNow_open {g : Clock} (h : g.state = .reading ∨ g.state = .running ∨ g.state = .paused) :
    g.holdNow = { g with state := .held, before := some g.state } := by
  unfold Clock.holdNow
  rcases h with h | h | h <;> rw [h]

theorem Clock.holdNow_other {g : Clock} (h1 : g.state ≠ .reading) (h2 : g.state ≠ .running) (h3 : g.state ≠ .paused) :
    g.holdNow = g := by
  unfold Clock.holdNow
  split
  · contradiction
  · contradiction
  · contradiction
  · rfl

/-- A hold raised with the hall not held (R90). -/
theorem raiseHold_raised (hh : s.ssu.held = false) (hc : s.clean = true) (hr : s.sli.notices.length < 64) (c : Bool) :
    HoldRaised s (raiseHold c s) c ∧ (raiseHold c s).due = s.due := by
  have raised : raiseHold c s = { s with
      ssu := { s.ssu with held := true, srcStation := !c, srcContact := c, holdLength := 0, signal := .hold true }
      rsu := { s.rsu with slots := s.rsu.slots.mapAll fun _ x =>
        if x.suspect then x else .write x.cand x.clock.holdNow x.suspect }
      sli := { s.sli with notices := s.sli.notices ++ [⟨.held, s.htb.time, [flag !c, flag c]⟩] } } := by
    simp only [raiseHold, hh, readSlots_clean hc, Bool.false_eq_true, if_false]
    exact notify_room (by exact hr) _ _
  have find (k : Nat) : (raiseHold c s).slot? k = (s.slot? k).map fun x =>
      if x.suspect then x else .write x.cand x.clock.holdNow x.suspect := by
    rw [raised]
    exact Table.find_mapAll s.rsu.slots k fun _ x => if x.suspect then x else .write x.cand x.clock.holdNow x.suspect
  refine ⟨⟨by rw [raised], by rw [raised], fun k x hx => ⟨fun hu => ?_, fun hu h => ?_, fun hu h1 h2 h3 => ?_⟩,
    fun k hk => ?_, ?_⟩, by rw [raised]⟩
  · simp [find, hx, hu]
  · simp [find, hx, hu, Clock.holdNow_open h]
  · simp [find, hx, hu, Clock.holdNow_other h1 h2 h3]
  · simp [find, hk]
  · rw [raised]
    exact ⟨rfl, rfl, rfl, rfl, rfl, rfl, rfl, rfl, rfl, rfl, rfl⟩

theorem contactSample_quiet (h : s.ssu.quiet = true) (a : Bool) : contactSample a s =
    notify .contactLevel [flag a] { s with ssu := { s.ssu with contact := a, quiet := false } } := by
  simp [contactSample, h]

section
variable (h : s.ssu.quiet = false)
include h

theorem contactSample_same {a : Bool} (ha : s.ssu.contact = a) : contactSample a s = s := by
  have same : ({ s with ssu := { s.ssu with contact := a, quiet := false } } : State) = s := by
    rw [← h, ← ha]
  have step : contactSample a s = { s with ssu := { s.ssu with contact := a, quiet := false } } := by
    cases a <;> simp [contactSample, h, ha]
  rw [step, same]

theorem contactSample_clear (hk : s.ssu.contact = true) : contactSample false s =
    notify .contactClear [] { s with ssu := { s.ssu with contact := false } } := by
  simp only [contactSample, h, hk, Bool.false_and, Bool.not_false, Bool.and_true, Bool.false_eq_true, if_false, if_true]

theorem contactSample_active (hk : s.ssu.contact = false) : contactSample true s =
    raiseHold true { s with ssu := { s.ssu with contact := true } } := by
  simp only [contactSample, h, hk, Bool.not_false, Bool.and_true, Bool.false_eq_true, if_false, if_true]

end

theorem raiseHold_contact (c : Bool) (s : State) :
    (raiseHold c s).ssu.contact = s.ssu.contact ∧ (raiseHold c s).ssu.quiet = s.ssu.quiet := by
  unfold raiseHold
  rw [notify_ssu]
  split
  · exact ⟨rfl, rfl⟩
  · simp [readSlots_ssu]

/-- Every sample writes the level and is quiet no longer. -/
theorem contactSample_level (a : Bool) (s : State) :
    (contactSample a s).ssu.contact = a ∧ (contactSample a s).ssu.quiet = false := by
  unfold contactSample
  dsimp only
  split
  · exact ⟨by simp, by simp⟩
  next hq =>
    split
    · exact raiseHold_contact ..
    · split
      · exact ⟨by simp, by simp⟩
      · exact ⟨rfl, rfl⟩

section
variable (hs : s.calm = true)
include hs

theorem exec_contactGoesActive : exec .contactGoesActive s = .next (contactSample true s) :=
  congrArg Host.Outcome.next (settled_calm hs _)

theorem exec_contactClear : exec .contactClear s = .next (contactSample false s) :=
  congrArg Host.Outcome.next (settled_calm hs _)

theorem exec_contactLevel (high : Bool) : exec (.contactLevel high) s =
    .next (contactSample (if s.ssu.sense == .inverted then !high else high) s) :=
  congrArg Host.Outcome.next (settled_calm hs _)

end

/-- Settles O28. -/
theorem holdContactSamples : Obligations.HoldContactSamples := by
  unfold Obligations.HoldContactSamples
  refine ⟨fun s v hs => ?sense, fun s hs => ?samples⟩
  case sense =>
    simp only [exec_setContactSense_ready hs]
    refine ⟨fun h => ?_, rfl, rfl⟩
    have none : Sense.ofCode v = .none := getElem?_eq_none_of_le h
    simp only [takeSetContactSense, none, finishTaking_refuse]
  case samples =>
    simp only [exec_contactGoesActive hs, exec_contactClear hs, exec_contactLevel hs]
    refine ⟨fun hq => ⟨?_, ?_⟩, fun hq => ⟨fun hk => ⟨?_, ?_⟩, fun hk => ?_, fun hk hh => ?_, fun hk hh hc hr => ?_⟩,
      fun high => ⟨fun hn => ?_, fun hn => ?_⟩, ?_⟩
    · rw [contactSample_quiet hq]
    · rw [contactSample_quiet hq]
    · rw [contactSample_same hq hk]
    · rw [contactSample_clear hq hk]
    · rw [contactSample_same hq hk]
    · rw [contactSample_active hq hk, raiseHold_again (by exact hh)]
      simp
    · rw [contactSample_active hq hk]
      exact ⟨_, rfl, raiseHold_raised (s := { s with ssu := { s.ssu with contact := true } }) hh hc hr true⟩
    · cases high <;> simp [hn, exec_contactGoesActive hs, exec_contactClear hs]
    · cases high <;> simp [hn, exec_contactGoesActive hs, exec_contactClear hs]
    · refine ⟨_, rfl, ?_⟩
      cases s.ssu.sense with
      | normal => exact contactSample_level ..
      | inverted => exact contactSample_level ..

/-! ### BREAK GRANT and GRANT TIME (R93, R97) -/

theorem modClock_eq_withSlot (hx : x.suspect = false) (h : s.slot? k = some x) (g : Clock → Clock) :
    modClock k g s = s.withSlot k x.cand (g x.clock) := modSlot_eq_withSlot h hx id g

section
variable (hc : s.clean = true) (hf : s.finds number k x)
include hc hf

theorem takeBreakGrant_wrongState (h : x.cand.state ≠ .seated ∨ x.clock.state ≠ .running) :
    takeBreakGrant number s = refuse s .wrongState := by
  rw [takeBreakGrant, withCandidate_finds hc hf]
  exact if_pos (by simpa using h)

theorem takeBreakGrant_noBudget (h1 : x.cand.state = .seated) (h2 : x.clock.state = .running) (hb : x.clock.budget = 0) :
    takeBreakGrant number s = refuse s .budget := by
  rw [takeBreakGrant, withCandidate_finds hc hf]
  simp [h1, h2, hb]

theorem takeBreakGrant_paused (h1 : x.cand.state = .seated) (h2 : x.clock.state = .running) (hb : 0 < x.clock.budget)
    {n : Nat} (hn : x.cand.seat = some n) : takeBreakGrant number s =
      done (dropBreakCall n (s.withSlot k x.cand { x.clock with state := .paused })) [u16 x.clock.budget] := by
  have ⟨_, _, hslot, hx⟩ := hf
  rw [takeBreakGrant, withCandidate_finds hc hf]
  dsimp only
  rw [modClock_eq_withSlot hx hslot]
  simp [h1, h2, Nat.ne_of_gt hb, hn]

section
variable {r : Paper} {m : Nat} (hr : s.paper? x.cand.paper = some r) (hm1 : 1 ≤ m) (hm : m ≤ 30)
include hr hm1 hm

theorem takeGrantTime_tooLate (h : r.state = .closed ∨ x.clock.state = .stopped ∨ x.clock.state = .expired) :
    takeGrantTime number m s = refuse s .tooLate := by
  rw [takeGrantTime, if_neg (by simp; omega), withHolder_finds hc hf, hr]
  exact if_pos (by simpa [or_assoc] using h)

variable (hclosed : r.state ≠ .closed)
include hclosed

theorem takeGrantTime_wrongState (h : x.clock.state = .none ∨ x.clock.state = .reading
      ∨ (x.clock.state = .held ∧ x.clock.before = some .reading)) :
    takeGrantTime number m s = refuse s .wrongState := by
  rw [takeGrantTime, if_neg (by simp; omega), withHolder_finds hc hf, hr]
  rcases h with h | h | ⟨h, hb⟩
  · simp [hclosed, h, Clock.grantable]
  · simp [hclosed, h, Clock.grantable]
  · simp [hclosed, h, hb, Clock.grantable]

theorem takeGrantTime_granted (h : x.clock.state = .running ∨ x.clock.state = .paused
      ∨ (x.clock.state = .held ∧ (x.clock.before = some .running ∨ x.clock.before = some .paused))) :
    takeGrantTime number m s = doneOr (43200 < x.clock.remaining + 60 * m)
      (s.withSlot k x.cand (x.clock.granted r m)) [u16 (x.clock.granted r m).remaining] := by
  have ⟨_, _, hslot, hx⟩ := hf
  have takes : x.clock.grantable = true ∧ x.clock.state ≠ .stopped ∧ x.clock.state ≠ .expired := by
    rcases h with h | h | ⟨h, hb | hb⟩ <;> simp [Clock.grantable, *]
  rw [takeGrantTime, if_neg (by simp; omega), withHolder_finds hc hf, hr]
  dsimp only
  rw [modClock_eq_withSlot hx hslot]
  simp only [hclosed, takes, beq_iff_eq, Bool.or_eq_true, or_self, Bool.not_true, Bool.false_eq_true, if_false]
  rfl

end

end

/-- Settles O29. -/
theorem breaksAndAddedTime : Obligations.BreaksAndAddedTime := by
  unfold Obligations.BreaksAndAddedTime
  intro s number m hs hc
  rw [exec_breakGrant_ready hs, exec_grantTime_ready hs]
  have minutes (h1 : 1 ≤ m) (h2 : m ≤ 30) : ¬(m < 1 || 30 < m) = true := by simp; omega
  refine ⟨fun h => ?_, fun h => ?_, fun hn => ⟨fun h => ?_, fun h1 h2 => ?_⟩, fun k x hn hk hx => ⟨fun h => ?_,
    fun h1 h2 => ?_⟩, fun k x hf => ⟨fun h => ?_, fun h1 h2 => ⟨fun hb => ?_, fun n hb hn => ?_⟩,
    fun r hr hm1 hm => ⟨fun h => ?_, fun hcl h => ?_, fun hcl h => ?_⟩⟩⟩
  · rw [takeBreakGrant, withCandidate_out h, finishTaking_refuse]
  · rw [takeGrantTime, if_pos (by simp; omega), finishTaking_refuse]
  · rw [takeBreakGrant, withCandidate_unknown h hn, finishTaking_refuse]
  · rw [takeGrantTime, if_neg (minutes h1 h2), withHolder_unknown hn, finishTaking_refuse]
  · rw [takeBreakGrant, withCandidate_suspect hc h hn hk hx, finishTaking_refuse]
  · rw [takeGrantTime, if_neg (minutes h1 h2), withHolder_suspect hc hn hk hx, finishTaking_refuse]
  · rw [takeBreakGrant_wrongState hc hf h, finishTaking_refuse]
  · rw [takeBreakGrant_noBudget hc hf h1 h2 hb, finishTaking_refuse]
  · rw [takeBreakGrant_paused hc hf h1 h2 hb hn, finishTaking_done]
    rfl
  · rw [takeGrantTime_tooLate hc hf hr hm1 hm h, finishTaking_refuse]
  · rw [takeGrantTime_wrongState hc hf hr hm1 hm hcl h, finishTaking_refuse]
  · rw [takeGrantTime_granted hc hf hr hm1 hm hcl h, finishTaking_doneOr]
    rfl

end Sys2Proof.Machine

/-! PROOFS. The starts of a paper and the close of its admission (R36, R79, R80), as changes of the tables; OPEN PAPER and
START PAPER (O25). -/

namespace Sys2Proof.Machine

set_option Elab.async false

variable {s : State} {p : Nat} {r : Paper}

/-! ### Several slots changed in one step -/

theorem foldl_modify_filter {α : Type} {t : Table α} (h : t.sorted = true) (q : Nat × α → Bool) (f : Nat → α → α) :
    ((t.filter q).map Prod.fst).foldl (fun u k => u.modify k (f k)) t =
      t.mapAll fun k x => if q (k, x) then f k x else x := by
  have sorted (ks : List Nat) (u : Table α) (hu : u.sorted = true) :
      (ks.foldl (fun u k => u.modify k (f k)) u).sorted = true := by
    induction ks generalizing u with
    | nil => exact hu
    | cons k ks ih => exact ih _ (Table.modify_sorted hu ..)
  refine Table.ext_find (sorted _ _ h) (Table.mapAll_sorted h _) fun m => ?_
  rw [Table.find_foldl_modify _ _ _ _ (Table.keys_nodup h q), Table.find_mapAll]
  cases hm : t.find m with
  | none => simp
  | some a =>
    cases hq : q (m, a) with
    | true => simp [(Table.mem_keys_filter h q m).mpr ⟨a, hm, hq⟩, hq]
    | false =>
      have out : m ∉ (t.filter q).map Prod.fst := fun hin => by
        obtain ⟨b, hb, hqb⟩ := (Table.mem_keys_filter h q m).mp hin
        obtain rfl : a = b := Option.some.inj (hm.symm.trans hb)
        simp [hq] at hqb
      simp [out, hq]

/-- The roster with another slot table. -/
def State.withSlots (s : State) (t : Table Slot) : State := { s with rsu := { s.rsu with slots := t } }

theorem giveClocks_eq (g : Slot → Clock) (ks : List Nat) (s : State) : giveClocks g ks s =
    s.withSlots (ks.foldl (fun t k => t.modify k fun x => .write x.cand (g x) x.suspect) s.rsu.slots) := by
  unfold giveClocks
  induction ks generalizing s with
  | nil => rfl
  | cons k ks ih =>
    rw [List.foldl_cons, List.foldl_cons, ih]
    cases hk : s.slot? k with
    | none => rw [Table.modify_eq_self (show s.rsu.slots.find k = none from hk)]
    | some x =>
      rw [Table.modify_eq_put (show s.rsu.slots.find k = some x from hk)]
      simp only [modClock, modSlot, Table.modify_eq_put (show s.rsu.slots.find k = some x from hk)]
      rfl

theorem foldl_modCand_eq (f : Candidate → Candidate) (ks : List Nat) (s : State) :
    ks.foldl (fun s k => modCand k f s) s =
      s.withSlots (ks.foldl (fun t k => t.modify k fun x => .write (f x.cand) x.clock x.suspect) s.rsu.slots) := by
  induction ks generalizing s with
  | nil => rfl
  | cons k ks ih =>
    rw [List.foldl_cons, List.foldl_cons, ih]
    rfl

/-- Whether a slot holds a readable candidate of a paper. -/
def Slot.readableOf (p : Nat) (x : Slot) : Bool := !x.suspect && x.ofPaper p

theorem Slot.readableOf_iff {p : Nat} {x : Slot} : x.readableOf p = true ↔ x.suspect = false ∧ x.shadow.paper = some p := by
  simp [Slot.readableOf, Slot.ofPaper]

/-- The readable candidates of a paper that meet a test get clocks. -/
theorem giveClocks_readable (hs : s.rsu.slots.sorted = true) (g : Slot → Clock) (q : Nat × Slot → Bool) :
    giveClocks g (((s.readable p).filter q).map (·.1)) s =
      s.withSlots (s.rsu.slots.mapAll fun k x =>
        if x.readableOf p && q (k, x) then .write x.cand (g x) x.suspect else x) := by
  rw [giveClocks_eq, State.readable, List.filter_filter]
  refine congrArg s.withSlots ((foldl_modify_filter hs _ fun _ x => .write x.cand (g x) x.suspect).trans ?_)
  refine congrArg (Table.mapAll · s.rsu.slots) (funext₂ fun k x => ?_)
  simp only [Slot.readableOf, Bool.and_comm]

/-- Every slot changed by one function. -/
theorem slot?_of_mapAll {t : State} {f : Slot → Slot} (h : t.rsu.slots = s.rsu.slots.mapAll fun _ => f) (k : Nat) :
    t.slot? k = (s.slot? k).map f := by
  rw [State.slot?, h]
  exact Table.find_mapAll ..

/-! ### The close of admission (R36) -/

/-- Whether the close of a paper's admission makes a slot's candidate ABSENT. -/
def Slot.expectedOf (p : Nat) (x : Slot) : Bool :=
  x.readableOf p && (x.cand.state == .expected && x.cand.source.isNone)

theorem closeAdmission_eq (hc : s.clean = true) (hs : s.rsu.slots.sorted = true) (p : Nat) : closeAdmission p s =
    notify .absent [u8 p, u16 (s.rsu.slots.filter fun e => e.2.expectedOf p).length]
      ((modPaper p (fun r => { r with admClosed := true }) s).withSlots (s.rsu.slots.mapAll fun _ x =>
        if x.expectedOf p then .write { x.cand with state := .absent } x.clock x.suspect else x)) := by
  have keys : ((s.readable p).filter fun e => e.2.cand.state == .expected && e.2.cand.source.isNone).map (·.1) =
      (s.rsu.slots.filter fun e => e.2.expectedOf p).map Prod.fst := by
    rw [State.readable, List.filter_filter]
    refine congrArg (List.map Prod.fst) (List.filter_congr fun e _ => ?_)
    simp only [Slot.expectedOf, Slot.readableOf, Bool.and_comm]
  simp only [closeAdmission, readPaper_clean hc, keys, foldl_modCand_eq, List.length_map]
  exact congrArg (fun t => notify .absent _ (State.withSlots _ t)) (foldl_modify_filter hs (fun e => e.2.expectedOf p)
    fun _ x => .write { x.cand with state := .absent } x.clock x.suspect)

/-! ### The starts (R79, R80) -/

theorem enterPaperState_room (hr : s.paper? p = some r) (hroom : s.sli.notices.length < 64) (st : PaperState) :
    enterPaperState p st s = { s with
      ssu := { s.ssu with papers := s.ssu.papers.put p { r with state := st } }
      sli := { s.sli with notices := s.sli.notices ++ [⟨.paperState, s.htb.time, [u8 p, u8 st.ctorIdx, u24 s.htb.time]⟩] } } := by
  rw [enterPaperState, modPaper_eq_withPaperRecord hr]
  exact notify_room (by exact hroom) _ _

theorem paper?_withPaperRecord (s : State) (p : Nat) (r : Paper) : (s.withPaperRecord p r).paper? p = some r :=
  (Table.find_put ..).trans (if_pos rfl)

/-- The slots of a paper as its reading start gives them clocks. -/
def Slot.atReadingStart (p : Nat) (x : Slot) : Slot :=
  if x.readableOf p && (x.cand.state.present && x.clock.state == .none) then
    .write x.cand (Clock.readingFor x.cand) x.suspect
  else x

theorem CandidateState.present_iff (c : CandidateState) : c.present = true ↔ c = .waiting ∨ c = .admitted ∨ c = .seated := by
  cases c <;> simp [CandidateState.present]

theorem CandidateState.not_present {c : CandidateState} (h : c ≠ .waiting ∧ c ≠ .admitted ∧ c ≠ .seated) :
    c.present = false := by
  rw [← Bool.not_eq_true, present_iff]
  tauto

theorem readingStart_started (hr : s.paper? p = some r) (hc : s.clean = true) (hs : s.rsu.slots.sorted = true)
    (hroom : s.sli.notices.length < 64) : ReadingStarted s (readingStart p s) p r ∧ (readingStart p s).due = s.due := by
  have started : readingStart p s = { s with
      ssu := { s.ssu with papers := s.ssu.papers.put p { r with state := .reading, readingLeft := 60 * r.reading } }
      sli := { s.sli with notices := s.sli.notices ++ [⟨.paperState, s.htb.time, [u8 p, u8 2, u24 s.htb.time]⟩] }
      rsu := { s.rsu with slots := s.rsu.slots.mapAll fun _ x => x.atReadingStart p } } := by
    simp only [readingStart, readPaper_clean hc]
    rw [modPaper_eq_withPaperRecord hr]
    have clocks := giveClocks_readable (s := s.withPaperRecord p { r with readingLeft := 60 * r.reading }) (p := p) hs
      (fun x => Clock.readingFor x.cand) fun e => e.2.cand.state.present && e.2.clock.state == .none
    refine (congrArg (enterPaperState p .reading) clocks).trans ?_
    rw [enterPaperState_room (r := { r with readingLeft := 60 * r.reading })
      (by exact paper?_withPaperRecord s p _) (by exact hroom)]
    simp only [State.withSlots, State.withPaperRecord, Table.put_put]
    rfl
  have find (k : Nat) : (readingStart p s).slot? k = (s.slot? k).map (Slot.atReadingStart p) :=
    slot?_of_mapAll (by rw [started]) k
  refine ⟨⟨by rw [started], by rw [started], fun k x hx hu hp hk hst => ?_, fun k hk => ?_, ?_⟩, by rw [started]⟩
  · rw [find, hx]
    simp [Slot.atReadingStart, Slot.readableOf_iff.mpr ⟨hu, hp⟩, x.cand.state.present_iff.mpr hst, hk, hu,
      Clock.readingFor, Clock.zero]
  · rw [find]
    cases hx : s.slot? k with
    | none => rfl
    | some x =>
      refine congrArg some (if_neg fun h => ?_)
      simp only [Bool.and_eq_true, Slot.readableOf_iff, beq_iff_eq] at h
      obtain ⟨⟨hu, hp⟩, present, hnone⟩ := h
      rcases hk x hx with h | h | h | h
      · simp [hu] at h
      · exact h hp
      · exact h hnone
      · simp [CandidateState.not_present h] at present
  · rw [started]
    exact ⟨rfl, rfl, rfl, rfl, rfl, rfl, rfl, rfl, rfl, rfl, rfl⟩

/-- The slots of a paper as its writing start gives them clocks. -/
def Slot.atWritingStart (p : Nat) (r : Paper) (x : Slot) : Slot :=
  if x.readableOf p then .write x.cand (startedClock r x) x.suspect else x

theorem writingStart_eq (hr : s.paper? p = some r) (hc : s.clean = true) (hs : s.rsu.slots.sorted = true)
    (hroom : s.sli.notices.length < 64) : writingStart p s =
    let t : State := { s with
      ssu := { s.ssu with
        papers := s.ssu.papers.put p { r with state := .writing, elapsed := 0, readingLeft := 0 }
        signal := if s.ssu.held then s.ssu.signal else .pulse 3 }
      sli := { s.sli with notices := s.sli.notices ++ [⟨.paperState, s.htb.time, [u8 p, u8 3, u24 s.htb.time]⟩] }
      rsu := { s.rsu with slots := s.rsu.slots.mapAll fun _ x => x.atWritingStart p r } }
    if r.late == 0 then closeAdmission p t else t := by
  have all : s.readable p = (s.readable p).filter fun _ => true := (List.filter_true _).symm
  simp only [writingStart, hr, readPaper_clean hc]
  rw [modPaper_eq_withPaperRecord hr, all]
  have clocks := giveClocks_readable (s := s.withPaperRecord p { r with elapsed := 0, readingLeft := 0 }) (p := p) hs
    (startedClock r) fun _ => true
  have entered : requestPulse (enterPaperState p .writing (giveClocks (startedClock r)
      (((s.readable p).filter fun _ => true).map (·.1))
      (s.withPaperRecord p { r with elapsed := 0, readingLeft := 0 }))) = { s with
      ssu := { s.ssu with
        papers := s.ssu.papers.put p { r with state := .writing, elapsed := 0, readingLeft := 0 }
        signal := if s.ssu.held then s.ssu.signal else .pulse 3 }
      sli := { s.sli with notices := s.sli.notices ++ [⟨.paperState, s.htb.time, [u8 p, u8 3, u24 s.htb.time]⟩] }
      rsu := { s.rsu with slots := s.rsu.slots.mapAll fun _ x => x.atWritingStart p r } } := by
    refine (congrArg (fun u => requestPulse (enterPaperState p .writing u)) clocks).trans ?_
    rw [enterPaperState_room (r := { r with elapsed := 0, readingLeft := 0 })
      (by exact paper?_withPaperRecord s p _) (by exact hroom)]
    simp only [State.withSlots, State.withPaperRecord, Table.put_put, requestPulse, Bool.and_true, Slot.atWritingStart]
    split <;> rfl
  rw [entered]

theorem startedClock_reading {x : Slot} (h : x.clock.state = .reading) :
    startedClock r x = r.fullClock x.cand.allowance x.clock.budget := by
  simp only [startedClock, h]
  rfl

theorem startedClock_none {x : Slot} (h : x.clock.state = .none) (h0 : r.reading = 0)
    (hst : x.cand.state = .waiting ∨ x.cand.state = .admitted ∨ x.cand.state = .seated) :
    startedClock r x = r.fullClock x.cand.allowance x.cand.breakBudget := by
  simp only [startedClock, h, h0, x.cand.state.present_iff.mpr hst]
  rfl

theorem startedClock_other {x : Slot} (h : x.clock.state ≠ .reading) (hk : x.clock.state ≠ .none ∨ r.reading ≠ 0
      ∨ (x.cand.state ≠ .waiting ∧ x.cand.state ≠ .admitted ∧ x.cand.state ≠ .seated)) :
    startedClock r x = x.clock := by
  have kept : (x.clock.state == .none && r.reading == 0 && x.cand.state.present) = false := by
    rcases hk with hk | hk | hk
    · simp [hk]
    · simp [hk]
    · simp [CandidateState.not_present hk]
  simp [startedClock, h, kept]

theorem Candidate.atWritingStart_late (h : r.late ≠ 0) (c : Candidate) : c.atWritingStart r = c := by
  simp [Candidate.atWritingStart, h]

/-- The slots of a paper as its writing start leaves them, admission closed where the late-entry limit is 0. -/
def Slot.started (p : Nat) (r : Paper) (x : Slot) : Slot :=
  if x.readableOf p then .write (x.cand.atWritingStart r) (startedClock r x) false else x

/-- A slot of a paper after its writing start with a late-entry limit of 0, its shadow agreeing with its record. -/
theorem Slot.atWritingStart_closed {x : Slot} (h0 : r.late = 0) (hx : x.readableOf p = true) (hp : x.cand.paper = p) :
    (if (x.atWritingStart p r).expectedOf p then
        .write { (x.atWritingStart p r).cand with state := .absent } (x.atWritingStart p r).clock (x.atWritingStart p r).suspect
      else x.atWritingStart p r) = Slot.write (x.cand.atWritingStart r) (startedClock r x) false := by
  obtain ⟨hu, -⟩ := Slot.readableOf_iff.mp hx
  have started : x.atWritingStart p r = .write x.cand (startedClock r x) false := by
    simp [Slot.atWritingStart, hx, hu]
  rw [started]
  simp only [Slot.expectedOf, Slot.readableOf, Slot.ofPaper, Slot.write, shadowOf, hp, Candidate.atWritingStart, h0]
  by_cases he : x.cand.state = .expected ∧ x.cand.source = none
  · simp [he]
  · rcases not_and_or.mp he with h | h <;> simp [h, hp]

theorem Slot.expectedOf_atWritingStart {x : Slot} (hown : x.readableOf p = true → x.cand.paper = p) :
    (x.atWritingStart p r).expectedOf p = x.expectedOf p := by
  cases hx : x.readableOf p with
  | false => simp [Slot.atWritingStart, hx]
  | true =>
    have hp := hown hx
    have hx' := Slot.readableOf_iff.mp hx
    rw [Slot.atWritingStart, if_pos hx]
    simp [Slot.expectedOf, Slot.readableOf, Slot.ofPaper, Slot.write, shadowOf, hp, hx']

theorem filter_mapAll_length {α : Type} (t : Table α) (f : Nat → α → α) {q q' : Nat × α → Bool}
    (h : ∀ e ∈ t, q (e.1, f e.1 e.2) = q' e) : ((t.mapAll f).filter q).length = (t.filter q').length := by
  rw [Table.mapAll, List.filter_map, List.length_map]
  exact congrArg List.length (List.filter_congr h)

section
variable (hr : s.paper? p = some r) (hc : s.clean = true) (hs : s.rsu.slots.sorted = true)
  (hroom : s.sli.notices.length + 1 < 64)
include hr hc hs hroom

theorem writingStart_late (h : r.late ≠ 0) : writingStart p s = { s with
    ssu := { s.ssu with
      papers := s.ssu.papers.put p { r with state := .writing, elapsed := 0, readingLeft := 0 }
      signal := if s.ssu.held then s.ssu.signal else .pulse 3 }
    sli := { s.sli with notices := s.sli.notices ++ [⟨.paperState, s.htb.time, [u8 p, u8 3, u24 s.htb.time]⟩] }
    rsu := { s.rsu with slots := s.rsu.slots.mapAll fun _ x => x.atWritingStart p r } } :=
  (writingStart_eq hr hc hs (by omega)).trans (if_neg (by simpa using h))

variable (hown : ∀ k x, s.slot? k = some x → x.suspect = false → x.shadow.paper = some p → x.cand.paper = p)
include hown

theorem writingStart_closing (h : r.late = 0) : writingStart p s = { s with
    ssu := { s.ssu with
      papers := s.ssu.papers.put p { r with state := .writing, elapsed := 0, readingLeft := 0, admClosed := true }
      signal := if s.ssu.held then s.ssu.signal else .pulse 3 }
    sli := { s.sli with notices := s.sli.notices ++ [⟨.paperState, s.htb.time, [u8 p, u8 3, u24 s.htb.time]⟩,
      ⟨.absent, s.htb.time, [u8 p, u16 (s.rsu.slots.filter fun e => e.2.expectedOf p).length]⟩] }
    rsu := { s.rsu with slots := s.rsu.slots.mapAll fun _ x => x.started p r } } := by
  have own (e) (he : e ∈ s.rsu.slots) (hx : e.2.readableOf p = true) : e.2.cand.paper = p :=
    hown e.1 e.2 ((Table.mem_iff_find hs _ _).mp he) (Slot.readableOf_iff.mp hx).1 (Slot.readableOf_iff.mp hx).2
  refine (writingStart_eq hr hc hs (by omega)).trans ((if_pos (by simpa using h)).trans ?_)
  rw [closeAdmission_eq (by exact hc) (Table.mapAll_sorted hs fun _ x => x.atWritingStart p r), filter_mapAll_length s.rsu.slots _ fun e he =>
    Slot.expectedOf_atWritingStart (own e he), modPaper_eq_withPaperRecord (by exact paper?_withPaperRecord s p _)]
  have slots : (s.rsu.slots.mapAll fun _ x => x.atWritingStart p r).mapAll (fun _ x =>
      if x.expectedOf p then .write { x.cand with state := .absent } x.clock x.suspect else x) =
      s.rsu.slots.mapAll fun _ x => x.started p r := by
    simp only [Table.mapAll, List.map_map]
    refine List.map_congr_left fun e he => Prod.ext rfl ?_
    cases hx : e.2.readableOf p with
    | true => simpa [hx, Slot.started] using Slot.atWritingStart_closed h hx (own e he hx)
    | false => simp [Slot.atWritingStart, Slot.expectedOf, Slot.started, hx]
  refine (notify_room (by simpa [State.withSlots, State.withPaperRecord] using hroom) _ _).trans ?_
  simp only [State.withSlots, State.withPaperRecord, Table.put_put, slots, List.append_assoc, List.cons_append,
    List.nil_append]

theorem writingStart_started : WritingStarted s (writingStart p s) p r ∧ (writingStart p s).due = s.due := by
  have find (k : Nat) : (writingStart p s).slot? k = (s.slot? k).map (Slot.started p r) := by
    by_cases h : r.late = 0
    · exact slot?_of_mapAll (by rw [writingStart_closing hr hc hs hroom hown h]) k
    · refine (slot?_of_mapAll (f := Slot.atWritingStart p r) (by rw [writingStart_late hr hc hs hroom h]) k).trans ?_
      refine congrArg (Option.map · _) (funext fun x => ?_)
      rw [Slot.atWritingStart, Slot.started, Candidate.atWritingStart_late h]
      refine ite_congr rfl (fun hx => ?_) fun _ => rfl
      rw [(Slot.readableOf_iff.mp hx).1]
  have rest : (writingStart p s).ssu = { s.ssu with
        papers := s.ssu.papers.put p { r with
          state := .writing, elapsed := 0, readingLeft := 0, admClosed := r.admClosed || r.late == 0 }
        signal := if s.ssu.held then s.ssu.signal else .pulse 3 }
      ∧ (writingStart p s).sli = { s.sli with
        notices := s.sli.notices ++ ⟨.paperState, s.htb.time, [u8 p, u8 3, u24 s.htb.time]⟩ :: if r.late = 0 then
          [⟨.absent, s.htb.time, [u8 p, u16 (s.rsu.slots.filter fun e => e.2.expectedOf p).length]⟩] else [] }
      ∧ SameButClocks s (writingStart p s) ∧ (writingStart p s).due = s.due := by
    by_cases h : r.late = 0
    · rw [writingStart_closing hr hc hs hroom hown h]
      refine ⟨?_, ?_, ⟨rfl, rfl, rfl, rfl, rfl, rfl, rfl, rfl, rfl, rfl, rfl⟩, rfl⟩
      · simp [h]
      · simp [h]
    · rw [writingStart_late hr hc hs hroom h]
      refine ⟨?_, ?_, ⟨rfl, rfl, rfl, rfl, rfl, rfl, rfl, rfl, rfl, rfl, rfl⟩, rfl⟩
      · rw [beq_eq_false_iff_ne.mpr h, Bool.or_false]
      · simp [h]
  obtain ⟨hssu, hsli, hsame, hdue⟩ := rest
  refine ⟨⟨hssu, ?_, fun k x hx hu hp => ?_, fun k hk => ?_, hsame⟩, hdue⟩
  · rw [hsli]
    simp only [Slot.expectedOf, Slot.readableOf, Slot.ofPaper, Bool.and_assoc]
  · have clock (g : Clock) (hg : startedClock r x = g) :
        (writingStart p s).slot? k = (s.withSlot k (x.cand.atWritingStart r) g).slot? k := by
      rw [find, hx, slot?_withSlot, if_pos rfl, ← hg]
      exact congrArg some (if_pos (Slot.readableOf_iff.mpr ⟨hu, hp⟩))
    have allowance : (x.cand.atWritingStart r).allowance = x.cand.allowance := by
      unfold Candidate.atWritingStart
      split <;> rfl
    have budget : (x.cand.atWritingStart r).breakBudget = x.cand.breakBudget := by
      unfold Candidate.atWritingStart
      split <;> rfl
    refine ⟨fun h => clock _ ?_, fun h h0 hst => clock _ ?_, fun h hk => clock _ (startedClock_other h hk)⟩
    · rw [startedClock_reading h, allowance]
    · rw [startedClock_none h h0 hst, allowance, budget]
  · rw [find]
    cases hx : s.slot? k with
    | none => rfl
    | some x =>
      refine congrArg some (if_neg fun h => ?_)
      obtain ⟨hu, hp⟩ := Slot.readableOf_iff.mp h
      rcases hk x hx with h | h
      · simp [hu] at h
      · exact h hp

end

theorem makeStart_reading (hr : s.paper? p = some r) (h : 0 < r.reading) : makeStart p s = readingStart p s := by
  simp [makeStart, hr, Nat.ne_of_gt h]

theorem makeStart_writing (hr : s.paper? p = some r) (h : r.reading = 0) : makeStart p s = writingStart p s := by
  simp [makeStart, hr, h]

/-! ### OPEN PAPER and START PAPER (R77) -/

theorem takeOpenPaper_wrongState (hp : p < 16) (hr : s.paper? p = some r) (h : r.state ≠ .defined) :
    takeOpenPaper p s = refuse s .wrongState := by
  rw [takeOpenPaper, withPaper_defined hp hr]
  exact if_pos (by simpa using h)

theorem takeOpenPaper_opened (hp : p < 16) (hr : s.paper? p = some r) (h : r.state = .defined) : takeOpenPaper p s =
    done (notify .paperState [u8 p, u8 1, u24 s.htb.time] (s.withPaperRecord p { r with state := .admitting })) [] := by
  rw [takeOpenPaper, withPaper_defined hp hr, h, enterPaperState, modPaper_eq_withPaperRecord hr]
  rfl

theorem takeStartPaper_wrongState (hp : p < 16) (hr : s.paper? p = some r) (h : r.state ≠ .admitting) :
    takeStartPaper p s = refuse s .wrongState := by
  rw [takeStartPaper, withPaper_defined hp hr]
  exact if_pos (by simpa using h)

theorem takeStartPaper_held (hp : p < 16) (hr : s.paper? p = some r) (h : r.state = .admitting)
    (hh : s.ssu.held = true) : takeStartPaper p s = refuse s .hallHeld := by
  rw [takeStartPaper, withPaper_defined hp hr]
  simp [h, hh]

theorem takeStartPaper_started (hp : p < 16) (hr : s.paper? p = some r) (h : r.state = .admitting)
    (hh : s.ssu.held = false) : takeStartPaper p s =
    done (makeStart p s) [o8 (((makeStart p s).paper? p).map (·.state.ctorIdx))] := by
  rw [takeStartPaper, withPaper_defined hp hr]
  simp [h, hh]

theorem ReadingStarted.paper {t : State} (h : ReadingStarted s t p r) :
    t.paper? p = some { r with state := .reading, readingLeft := 60 * r.reading } := by
  rw [State.paper?, h.1]
  exact (Table.find_put ..).trans (if_pos rfl)

theorem WritingStarted.paper {t : State} (h : WritingStarted s t p r) : t.paper? p = some { r with
    state := .writing, elapsed := 0, readingLeft := 0, admClosed := r.admClosed || r.late == 0 } := by
  rw [State.paper?, h.1]
  exact (Table.find_put ..).trans (if_pos rfl)

/-- Settles O25. -/
theorem openAndStartPaper : Obligations.OpenAndStartPaper := by
  unfold Obligations.OpenAndStartPaper
  refine ⟨fun s p hs hc ht => ⟨fun hp => ⟨?_, ?_⟩, fun hp hn => ⟨?_, ?_⟩, fun r hp hr => ⟨fun h => ?_, fun h => ?_, fun h => ?_,
    fun h hh => ?_, fun h hh hread hroom => ?_⟩⟩, fun s p r hs hc ht hp hr h hh h0 hroom hown => ?_⟩
  · rw [exec_openPaper_ready hs, takeOpenPaper, withPaper_outside hp, finishTaking_refuse]
  · rw [exec_startPaper_ready hs, takeStartPaper, withPaper_outside hp, finishTaking_refuse]
  · rw [exec_openPaper_ready hs, takeOpenPaper, withPaper_undefined hp hn, finishTaking_refuse]
  · rw [exec_startPaper_ready hs, takeStartPaper, withPaper_undefined hp hn, finishTaking_refuse]
  · rw [exec_openPaper_ready hs, takeOpenPaper_wrongState hp hr h, finishTaking_refuse]
  · rw [exec_openPaper_ready hs, takeOpenPaper_opened hp hr h, finishTaking_done]
  · rw [exec_startPaper_ready hs, takeStartPaper_wrongState hp hr h, finishTaking_refuse]
  · rw [exec_startPaper_ready hs, takeStartPaper_held hp hr h hh, finishTaking_refuse]
  · obtain ⟨-, -, slots, -, -⟩ := (State.tablesSorted_iff s).mp ht
    obtain ⟨started, due⟩ := readingStart_started hr hc slots hroom
    rw [exec_startPaper_ready hs, takeStartPaper_started hp hr h hh, makeStart_reading hr hread, started.paper,
      finishTaking_done]
    exact ⟨_, rfl, started, due⟩
  · obtain ⟨-, -, slots, -, -⟩ := (State.tablesSorted_iff s).mp ht
    obtain ⟨started, due⟩ := writingStart_started hr hc slots hroom hown
    rw [exec_startPaper_ready hs, takeStartPaper_started hp hr h hh, makeStart_writing hr h0, started.paper,
      finishTaking_done]
    exact ⟨_, rfl, started, due⟩

end Sys2Proof.Machine

/-! PROOFS. HOLD and RELEASE (O27). -/

namespace Sys2Proof.Machine

set_option Elab.async false

variable {s : State}

theorem takeHold_again (hh : s.ssu.held = true) (hr : s.sli.notices.length < 64) : takeHold s =
    done { s with
      ssu := { s.ssu with srcStation := true }
      sli := { s.sli with notices := s.sli.notices ++ [⟨.held, s.htb.time, [flag true, flag s.ssu.srcContact]⟩] } }
      [flag true, flag s.ssu.srcContact] := by
  have raised : raiseHold false s = { s with
      ssu := { s.ssu with srcStation := true }
      sli := { s.sli with notices := s.sli.notices ++ [⟨.held, s.htb.time, [flag true, flag s.ssu.srcContact]⟩] } } := by
    rw [raiseHold_again hh]
    refine (notify_room (by exact hr) _ _).trans ?_
    simp
  rw [takeHold, raised]
  rfl

theorem takeHold_raised (hh : s.ssu.held = false) (hc : s.clean = true) (hr : s.sli.notices.length < 64) :
    takeHold s = done (raiseHold false s) [flag true, flag false] := by
  obtain ⟨⟨hssu, -⟩, -⟩ := raiseHold_raised hh hc hr false
  simp only [takeHold, State.sourceFields, hssu]
  rfl

/-! ### RELEASE (R91) -/

/-- A slot as a release leaves it. -/
def Slot.released (x : Slot) : Slot := if x.suspect then x else .write x.cand x.clock.releaseNow x.suspect

/-- The part with the hold cleared and its clocks released, before any start that was pending. -/
def releasedHall (s : State) : State := { s with
  rsu := { s.rsu with slots := s.rsu.slots.mapAll fun _ x => x.released }
  ssu := { s.ssu with held := false, srcStation := false, srcContact := false, signal := .off } }

/-- The papers whose start waits for the release. -/
def State.pendingStarts (s : State) : List Nat :=
  (s.ssu.papers.filter fun e => e.2.state == .admitting && e.2.startPending).map Prod.fst

theorem modPaper_cases (p : Nat) (f : Paper → Paper) (s : State) : modPaper p f s =
    match s.paper? p with
    | some r => s.withPaperRecord p (f r)
    | none => s := by
  cases h : s.paper? p with
  | none => simp only [modPaper, Table.modify_eq_self (show s.ssu.papers.find p = none from h)]
  | some r => exact modPaper_eq_withPaperRecord h f

/-- A paper whose start was pending makes it, the flag cleared (R91). -/
def clearedStart (s : State) (p : Nat) : State :=
  makeStart p (match s.paper? p with
    | some r => s.withPaperRecord p { r with startPending := false }
    | none => s)

/-! ### What a start leaves of the Session Unit -/

theorem giveClocks_ssu (g : Slot → Clock) (ks : List Nat) (s : State) : (giveClocks g ks s).ssu = s.ssu := by
  rw [giveClocks_eq]
  rfl

theorem enterPaperState_ssu (p : Nat) (st : PaperState) (s : State) :
    (enterPaperState p st s).ssu = (modPaper p (fun r => { r with state := st }) s).ssu := notify_ssu ..

theorem closeAdmission_ssu (p : Nat) (s : State) :
    (closeAdmission p s).ssu = (modPaper p (fun r => { r with admClosed := true }) s).ssu := by
  unfold closeAdmission
  rw [notify_ssu, foldl_modCand_eq]
  exact congrArg (fun u => { u with papers := u.papers.modify p fun r => { r with admClosed := true } }) (readPaper_ssu p s)

theorem requestPulse_holdLength (s : State) : (requestPulse s).ssu.holdLength = s.ssu.holdLength := by
  unfold requestPulse
  split <;> rfl

theorem makeStart_holdLength (p : Nat) (s : State) : (makeStart p s).ssu.holdLength = s.ssu.holdLength := by
  have reading : (readingStart p s).ssu.holdLength = s.ssu.holdLength := by
    simp only [readingStart, enterPaperState_ssu, modPaper, giveClocks_ssu, readPaper_ssu]
  have writing : (writingStart p s).ssu.holdLength = s.ssu.holdLength := by
    unfold writingStart
    split
    · rfl
    next r _ =>
      have begun (g : Slot → Clock) (ks : List Nat) : (requestPulse (enterPaperState p .writing (giveClocks g ks
          (modPaper p (fun r => { r with elapsed := 0, readingLeft := 0 }) (readPaper p s))))).ssu.holdLength =
          s.ssu.holdLength := by
        simp only [requestPulse_holdLength, enterPaperState_ssu, modPaper, giveClocks_ssu, readPaper_ssu]
      dsimp only
      split
      · rw [closeAdmission_ssu]
        exact begun _ _
      · exact begun _ _
  unfold makeStart
  split
  · rfl
  · split
    · exact writing
    · exact reading

theorem clearedStart_holdLength (s : State) (p : Nat) : (clearedStart s p).ssu.holdLength = s.ssu.holdLength := by
  rw [clearedStart, makeStart_holdLength]
  split <;> rfl

theorem takeRelease_released (hh : s.ssu.held = true) (hk : s.ssu.contact = false) (hc : s.clean = true) :
    takeRelease s = done (notify .released [u16 s.ssu.holdLength, flag s.ssu.srcStation, flag s.ssu.srcContact]
      (s.pendingStarts.foldl clearedStart (releasedHall s))) [u16 s.ssu.holdLength] := by
  have start : (fun (u : State) p => makeStart p (modPaper p (fun r => { r with startPending := false }) u)) =
      clearedStart := funext₂ fun u p => congrArg (makeStart p) (modPaper_cases p _ u)
  have kept := foldl_keeps (fun u : State => u.ssu.holdLength) clearedStart_holdLength s.pendingStarts (releasedHall s)
  rw [takeRelease, if_neg (by simp [hh]), if_neg (by simp [hk])]
  simp only [readSlots_clean hc, start]
  exact congrArg (fun n => done (notify .released [u16 s.ssu.holdLength, flag s.ssu.srcStation, flag s.ssu.srcContact]
    (s.pendingStarts.foldl clearedStart (releasedHall s))) [u16 n]) kept

section
variable {k : Nat} {x : Slot} (hx : s.slot? k = some x)
include hx

theorem releasedHall_slot? : (releasedHall s).slot? k = some x.released := by
  rw [slot?_of_mapAll (s := s) (f := Slot.released) rfl, hx]
  rfl

theorem releasedHall_held (hu : x.suspect = false) {b : ClockState} (hk : x.clock.state = .held)
    (hb : x.clock.before = some b) :
    (releasedHall s).slot? k = some (.write x.cand { x.clock with state := b, before := none } false) := by
  rw [releasedHall_slot? hx]
  simp [Slot.released, hu, Clock.releaseNow, hk, hb]

theorem releasedHall_suspect (hu : x.suspect = true) : (releasedHall s).slot? k = some x := by
  rw [releasedHall_slot? hx]
  simp [Slot.released, hu]

theorem releasedHall_other (hu : x.suspect = false) (hk : x.clock.state ≠ .held) :
    (releasedHall s).slot? k = some (.write x.cand x.clock false) := by
  rw [releasedHall_slot? hx]
  simp [Slot.released, hu, Clock.releaseNow, hk]

end

/-- Every readable slot of the released hall agrees with its shadow. -/
theorem releasedHall_own {k p : Nat} {x : Slot} (hx : (releasedHall s).slot? k = some x) (hu : x.suspect = false)
    (hp : x.shadow.paper = some p) : x.cand.paper = p := by
  rw [slot?_of_mapAll (s := s) (f := Slot.released) rfl] at hx
  obtain ⟨y, -, rfl⟩ := Option.map_eq_some_iff.mp hx
  unfold Slot.released at hu hp ⊢
  split at hu
  next h => simp [h] at hu
  next h =>
    rw [if_neg h] at hp ⊢
    exact Option.some.inj hp

/-- Settles O27. -/
theorem holdAndRelease : Obligations.HoldAndRelease := by
  unfold Obligations.HoldAndRelease
  refine ⟨⟨fun s hs hc hr => ⟨fun hh => ?_, fun hh => ?_⟩, fun s hs hc hr => ⟨fun hh => ?_, fun hh hk => ?_,
    fun hh hk hp => ?_⟩⟩, fun s hs hc ht hh hk => ?_⟩
  · rw [exec_hold_ready hs, takeHold_again hh hr, finishTaking_done]
  · rw [exec_hold_ready hs, takeHold_raised hh hc hr, finishTaking_done]
    exact ⟨_, rfl, raiseHold_raised hh hc hr false⟩
  · rw [exec_release_ready hs, takeRelease, hh]
    rfl
  · rw [exec_release_ready hs, takeRelease, hh, hk]
    rfl
  · have noStarts : s.pendingStarts = [] := by
      refine List.map_eq_nil_iff.mpr (List.filter_eq_nil_iff.mpr fun e he => ?_)
      simp [hp e he]
    rw [exec_release_ready hs, takeRelease_released hh hk hc, noStarts, finishTaking_done, List.foldl_nil,
      notify_room (s := releasedHall s) hr]
    refine ⟨_, rfl, rfl, rfl, fun k x b hx hu hst hb => ?_, fun k x hx h => ?_, rfl, rfl, rfl, rfl, rfl, rfl, rfl⟩
    · exact ⟨_, releasedHall_held hx hu hst hb, rfl, rfl⟩
    · cases hu : x.suspect with
      | true => exact ⟨_, releasedHall_suspect hx hu, rfl, rfl, hu⟩
      | false => exact ⟨_, releasedHall_other hx hu (h.resolve_left (by simp [hu])), rfl, rfl, rfl⟩
  · obtain ⟨-, -, slots, -, -⟩ := (State.tablesSorted_iff s).mp ht
    have exec_release : exec .release s = .next ((notify .released
        [u16 s.ssu.holdLength, flag s.ssu.srcStation, flag s.ssu.srcContact]
        (s.pendingStarts.foldl clearedStart (releasedHall s))).replied 55 [u16 s.ssu.holdLength]) := by
      rw [exec_release_ready hs, takeRelease_released hh hk hc, finishTaking_done]
    refine ⟨releasedHall s, rfl, fun k x hx => ⟨fun hu hst b hb => ?_, fun hu => releasedHall_suspect hx hu,
      fun hu hst => ?_⟩, rfl, rfl, rfl, rfl, rfl, rfl, rfl, rfl, rfl, rfl, rfl, exec_release, fun p r hp hr hroom => ?_⟩
    · rw [releasedHall_held hx hu hst hb, slot?_withSlot, if_pos rfl]
    · rw [releasedHall_other hx hu hst, slot?_withSlot, if_pos rfl]
    · have started : s.pendingStarts.foldl clearedStart (releasedHall s) =
          makeStart p ((releasedHall s).withPaperRecord p { r with startPending := false }) := by
        rw [show s.pendingStarts = [p] from hp, List.foldl_cons, List.foldl_nil, clearedStart,
          show (releasedHall s).paper? p = some r from hr]
      rw [started] at exec_release
      have cleared := paper?_withPaperRecord (releasedHall s) p { r with startPending := false }
      have slots' : (releasedHall s).rsu.slots.sorted = true := Table.mapAll_sorted slots fun _ x => x.released
      refine ⟨_, exec_release, fun h0 => ?_, fun hpos => ?_⟩
      · rw [makeStart_writing cleared h0]
        exact (writingStart_started cleared hc slots' hroom fun k x => releasedHall_own).1
      · rw [makeStart_reading cleared hpos]
        exact (readingStart_started cleared hc slots' (Nat.lt_of_succ_lt hroom)).1

end Sys2Proof.Machine

/-! PROOFS. Finishing candidates (R84, R88, R96): the records finished together, the notices sent of them, the rings they
join, and the paper that closes behind them. -/

namespace Sys2Proof.Machine

set_option Elab.async false

variable {s : State} {k p : Nat} {r : Paper}

/-! ### Notices that join a queue with room -/

/-- The part with these notices behind those of its queue. -/
def State.told (s : State) (l : List Notice) : State := { s with sli := { s.sli with notices := s.sli.notices ++ l } }

theorem told_nil (s : State) : s.told [] = s := by
  simp [State.told]

theorem told_told (s : State) (l m : List Notice) : (s.told l).told m = s.told (l ++ m) := by
  simp [State.told]

theorem notify_told (h : s.sli.notices.length < 64) (kind : NoticeKind) (l : List Field) :
    notify kind l s = s.told [⟨kind, s.htb.time, l⟩] := notify_room h kind l

/-- A fold whose steps each tell at most one notice, which no notice told before changes. -/
theorem foldl_told {α : Type} {f : State → α → State} {n : State → α → Option Notice}
    (hf : ∀ u a, u.sli.notices.length + (n u a).toList.length ≤ 64 → f u a = u.told (n u a).toList)
    (hn : ∀ u l a, n (State.told u l) a = n u a) (l : List α) (s : State)
    (h : s.sli.notices.length + (l.filterMap (n s)).length ≤ 64) : l.foldl f s = s.told (l.filterMap (n s)) := by
  induction l generalizing s with
  | nil => exact (told_nil s).symm
  | cons a l ih =>
    have split : (a :: l).filterMap (n s) = (n s a).toList ++ l.filterMap (n s) := by
      cases ha : n s a <;> simp [ha]
    have same : n (s.told (n s a).toList) = n s := funext fun b => hn s _ b
    rw [split, List.length_append] at h
    rw [List.foldl_cons, hf s a (by omega), ih, same, told_told, split]
    rw [same]
    simp only [State.told, List.length_append]
    omega

/-! ### Records finished in one step (R23, R84) -/

/-- A slot whose candidate is finished with a reason, its clock given by `g`. -/
def Slot.finished (why : FinishReason) (g : Slot → Clock) (x : Slot) : Slot :=
  .write { x.cand with state := .finished, reason := some why, walk := none, source := none } (g x) x.suspect

/-- An exception entry of an EARLY SHEET, queued for retry where its number is among these (R163). -/
def SheetException.queuedFor (ns : List Nat) (e : SheetException) : SheetException :=
  if e.reason == .earlySheet && ns.any (fun n => e.decNumber == some n) then { e with queued := true } else e

/-- The candidate numbers of some slots. -/
def State.numbersOf (s : State) (ks : List Nat) : List Nat := ks.filterMap fun k => (s.slot? k).map (·.cand.number)

theorem queuedFor_append (ms ns : List Nat) (e : SheetException) :
    (e.queuedFor ms).queuedFor ns = e.queuedFor (ms ++ ns) := by
  by_cases h1 : e.reason = .earlySheet
  · by_cases h2 : ms.any (fun n => e.decNumber == some n) = true
    · simp only [SheetException.queuedFor, List.any_append, h1, h2, beq_self_eq_true, Bool.and_self, Bool.true_or, if_true]
      split <;> rfl
    · simp [SheetException.queuedFor, h1, h2]
  · simp [SheetException.queuedFor, h1]

theorem finishRecord_eq (k : Nat) (why : FinishReason) (g : Slot → Clock) (s : State) : finishRecord k why g s = { s with
    rsu := { s.rsu with slots := s.rsu.slots.modify k (Slot.finished why g) }
    mru := { s.mru with exceptions := s.mru.exceptions.map (SheetException.queuedFor (s.numbersOf [k])) } } := by
  unfold finishRecord
  cases hk : s.slot? k with
  | none =>
    rw [Table.modify_eq_self (show s.rsu.slots.find k = none from hk)]
    have none : SheetException.queuedFor (s.numbersOf [k]) = id := by
      funext e
      simp [SheetException.queuedFor, State.numbersOf, hk]
    rw [none, List.map_id]
  | some x =>
    have one : SheetException.queuedFor (s.numbersOf [k]) = fun e =>
        if e.reason == .earlySheet && e.decNumber == some x.cand.number then { e with queued := true } else e := by
      funext e
      simp [SheetException.queuedFor, State.numbersOf, hk]
    rw [one, Table.modify_eq_put (show s.rsu.slots.find k = some x from hk)]
    simp only [queueRetries, modSlot, Table.modify_eq_put (show s.rsu.slots.find k = some x from hk)]
    rfl

theorem numbersOf_cons (s : State) (k : Nat) (ks : List Nat) : s.numbersOf (k :: ks) = s.numbersOf [k] ++ s.numbersOf ks := by
  cases h : s.slot? k <;> simp [State.numbersOf, h]

/-- Finishing records changes no candidate's number. -/
theorem numbersOf_modify {t : State} {why : FinishReason} {g : Slot → Clock}
    (h : t.rsu.slots = s.rsu.slots.modify k (Slot.finished why g)) (ks : List Nat) : t.numbersOf ks = s.numbersOf ks := by
  refine List.filterMap_congr fun j _ => ?_
  rw [State.slot?, h, Table.find_modify]
  split
  next hj =>
    subst hj
    change Option.map _ (Option.map _ (s.slot? j)) = _
    cases s.slot? j <;> rfl
  · rfl

theorem foldl_finishRecord (ks : List Nat) (why : FinishReason) (g : Slot → Clock) (s : State) :
    ks.foldl (fun s k => finishRecord k why g s) s = { s with
      rsu := { s.rsu with slots := ks.foldl (fun t k => t.modify k (Slot.finished why g)) s.rsu.slots }
      mru := { s.mru with exceptions := s.mru.exceptions.map (SheetException.queuedFor (s.numbersOf ks)) } } := by
  induction ks generalizing s with
  | nil =>
    have none : SheetException.queuedFor (s.numbersOf []) = id := by
      funext e
      simp [SheetException.queuedFor, State.numbersOf]
    rw [none, List.map_id]
    rfl
  | cons k ks ih =>
    rw [List.foldl_cons, ih, finishRecord_eq]
    simp only [List.map_map, numbersOf_cons s k ks, List.foldl_cons]
    have keep : State.numbersOf { s with
        rsu := { s.rsu with slots := s.rsu.slots.modify k (Slot.finished why g) }
        mru := { s.mru with exceptions := s.mru.exceptions.map (SheetException.queuedFor (s.numbersOf [k])) } } ks =
        s.numbersOf ks := numbersOf_modify (k := k) (why := why) (g := g) rfl ks
    rw [keep]
    have both : SheetException.queuedFor (s.numbersOf ks) ∘ SheetException.queuedFor (s.numbersOf [k]) =
        SheetException.queuedFor (s.numbersOf [k] ++ s.numbersOf ks) := funext fun e => queuedFor_append _ _ e
    rw [both]

/-- The part with some slots' candidates finished in one step. -/
def State.finishedSlots (s : State) (ks : List Nat) (why : FinishReason) (g : Slot → Clock) : State := { s with
  rsu := { s.rsu with slots := ks.foldl (fun t k => t.modify k (Slot.finished why g)) s.rsu.slots }
  mru := { s.mru with exceptions := s.mru.exceptions.map (SheetException.queuedFor (s.numbersOf ks)) }
  sal := s.sal.leave ks }

theorem finishSlots_eq (ks : List Nat) (why : FinishReason) (g : Slot → Clock) (s : State) :
    finishSlots ks why g s = s.finishedSlots ks why g := by
  rw [finishSlots, foldl_finishRecord]
  rfl

theorem finishSlot_eq (k : Nat) (why : FinishReason) (g : Slot → Clock) (s : State) :
    finishSlot k why g s = s.finishedSlots [k] why g := by
  rw [finishSlot, finishRecord_eq]
  rfl

theorem finishedSlots_slot? {ks : List Nat} (hn : ks.Nodup) (why : FinishReason) (g : Slot → Clock) (j : Nat) :
    (s.finishedSlots ks why g).slot? j = if j ∈ ks then (s.slot? j).map (Slot.finished why g) else s.slot? j :=
  Table.find_foldl_modify ks (fun _ => Slot.finished why g) s.rsu.slots j hn

/-! ### The notices of an unseated finish (R84) -/

/-- The notice UNSEATED FINISH of a slot, if its candidate has no seat. -/
def State.unseatedOf (s : State) (k : Nat) : Option Notice :=
  (s.slot? k).bind fun x => if x.cand.seat.isSome then none else
    some ⟨.unseatedFinish, s.htb.time, [u16 k, u32 x.cand.number, o8 (x.cand.reason.map (·.ctorIdx))]⟩

theorem unseatedNotice_told (k : Nat) (s : State) (h : s.sli.notices.length + (s.unseatedOf k).toList.length ≤ 64) :
    unseatedNotice k s = s.told (s.unseatedOf k).toList := by
  unfold unseatedNotice State.unseatedOf at *
  cases hk : s.slot? k with
  | none => exact (told_nil s).symm
  | some x =>
    simp only [hk, Option.bind_some] at h ⊢
    split
    · simp [told_nil]
    next hs =>
      simp only [hs, Bool.false_eq_true, if_false, Option.toList_some, List.length_singleton] at h ⊢
      exact notify_told (by omega) _ _

theorem foldl_unseated (ks : List Nat) (s : State)
    (h : s.sli.notices.length + (ks.filterMap s.unseatedOf).length ≤ 64) :
    ks.foldl (fun s k => unseatedNotice k s) s = s.told (ks.filterMap s.unseatedOf) :=
  foldl_told (fun u k => unseatedNotice_told k u) (fun _ _ _ => rfl) ks s h

/-! ### Rings joined where no collector waits (R119) -/

/-- The entries of a batch that join a zone's ring: the urgent ones, or the others. -/
def State.joining (s : State) (z : Nat) (urgent : Bool) (es : List Entry) : List Entry :=
  es.filter fun e => s.zoneOfSeat e.seat == z && e.reason.urgent == urgent

theorem foldl_joinRing_rest (es : List Entry) (s : State) : ∃ rings, es.foldl (fun s e => joinRing e s) s =
    { s with clu := { s.clu with rings := rings } } := by
  induction es generalizing s with
  | nil => exact ⟨_, rfl⟩
  | cons e es ih => exact ih (joinRing e s)

theorem ringsOf_joinRing (e : Entry) (s : State) (z : Nat) : (joinRing e s).ringsOf z = { s.ringsOf z with
    urgent := (s.ringsOf z).urgent ++ s.joining z true [e], main := (s.ringsOf z).main ++ s.joining z false [e] } := by
  unfold joinRing
  rw [ringsOf_setRings]
  by_cases hz : z = s.zoneOfSeat e.seat
  · subst hz
    cases hu : e.reason.urgent <;> simp [State.joining, hu]
  · simp [hz, State.joining, Ne.symm hz]

theorem ringsOf_foldl_joinRing (es : List Entry) (s : State) (z : Nat) :
    (es.foldl (fun s e => joinRing e s) s).ringsOf z = { s.ringsOf z with
      urgent := (s.ringsOf z).urgent ++ s.joining z true es, main := (s.ringsOf z).main ++ s.joining z false es } := by
  induction es generalizing s with
  | nil => simp [State.joining]
  | cons e es ih =>
    have zone : (joinRing e s).zoneOfSeat = s.zoneOfSeat := rfl
    rw [List.foldl_cons, ih, ringsOf_joinRing]
    simp only [State.joining, zone, List.append_assoc]
    rw [← List.filter_append, ← List.filter_append]
    rfl

theorem ringJoined_noWaiter {z : Nat} (h : (s.ringsOf z).waiters = []) : ringJoined z s = s := by
  simp [ringJoined, h, offerRounds]

theorem mem_dedup (a : Nat) (l : List Nat) : a ∈ dedup l ↔ a ∈ l := by
  induction l with
  | nil => rfl
  | cons b l ih =>
    simp only [dedup, List.mem_cons, List.mem_filter, ih, bne_iff_ne]
    tauto

/-- The entries a hand-off makes, in ascending seat number. -/
def State.handed (s : State) (ks : List Nat) : List Entry := sortBy (·.seat) (ks.filterMap s.entryOf)

theorem handOff_noWaiters {ks : List Nat} (h : ∀ e ∈ s.handed ks, (s.ringsOf (s.zoneOfSeat e.seat)).waiters = []) :
    handOff ks s = (s.handed ks).foldl (fun s e => joinRing e s) s := by
  unfold handOff
  refine List.foldlRecOn (motive := (· = (s.handed ks).foldl (fun s e => joinRing e s) s)) _ _ rfl ?_
  rintro _ rfl z hz
  refine ringJoined_noWaiter ?_
  rw [ringsOf_foldl_joinRing]
  obtain ⟨e, he, rfl⟩ := List.mem_map.mp ((mem_dedup _ _).mp ((sortBy_perm id _).mem_iff.mp hz))
  exact h e he

theorem handOff_unseated (h : ∀ x, s.slot? k = some x → x.cand.seat = none) : handOff [k] s = s := by
  have none : s.entryOf k = none := by
    unfold State.entryOf
    cases hk : s.slot? k with
    | none => rfl
    | some x => simp only [h x hk]
  simp [handOff, none, sortBy, dedup]

/-! ### A paper that closes behind a finish (R87) -/

theorem paperIn_iff {st : PaperState} : s.paperIn p st = true ↔ ∃ r, s.paper? p = some r ∧ r.state = st := by
  cases h : s.paper? p <;> simp [State.paperIn, h]

theorem closeIfSettled_other (h : ∀ r, s.paper? p = some r → r.state ≠ .overtime) : closeIfSettled p s = s := by
  refine if_neg fun hin => ?_
  obtain ⟨r, hr, hst⟩ := paperIn_iff.mp hin
  exact h r hr hst

section
variable (hc : s.clean = true) (hr : s.paper? p = some r) (hst : r.state = .overtime)
include hc hr hst

theorem closeIfSettled_open (h : s.clocksOpen p = true) : closeIfSettled p s = s := by
  rw [closeIfSettled, if_pos (paperIn_iff.mpr ⟨r, hr, hst⟩), readPaper_clean hc]
  exact if_pos h

theorem closeIfSettled_closed (h : s.clocksOpen p = false) : closeIfSettled p s = closePaper p s := by
  rw [closeIfSettled, if_pos (paperIn_iff.mpr ⟨r, hr, hst⟩), readPaper_clean hc]
  exact if_neg (by simp [h])

end

theorem paperCollectedTest_finished (hc : s.clean = true) (hf : ∃ e ∈ s.readable p, e.2.cand.state = .finished) :
    paperCollectedTest p s = s := by
  obtain ⟨e, he, hst⟩ := hf
  rw [paperCollectedTest, readPaper_clean hc]
  split
  · exact if_neg fun all => by simpa [hst] using List.all_eq_true.mp all e he
  · rfl

/-- A paper with a FINISHED candidate closes, PAPER COLLECTED not following (R87, R136). -/
theorem closePaper_finished (hc : s.clean = true) (hr : s.paper? p = some r) (hroom : s.sli.notices.length < 64)
    (hf : ∃ e ∈ s.readable p, e.2.cand.state = .finished) : closePaper p s = { s with
      ssu := { s.ssu with
        papers := s.ssu.papers.put p { r with state := .closed }
        signal := if s.ssu.held then s.ssu.signal else .pulse 3 }
      sli := { s.sli with notices := s.sli.notices ++ [⟨.paperState, s.htb.time, [u8 p, u8 5, u24 s.htb.time]⟩] } } := by
  have entered : enterPaperState p .closed (requestPulse s) = { s with
      ssu := { s.ssu with
        papers := s.ssu.papers.put p { r with state := .closed }
        signal := if s.ssu.held then s.ssu.signal else .pulse 3 }
      sli := { s.sli with notices := s.sli.notices ++ [⟨.paperState, s.htb.time, [u8 p, u8 5, u24 s.htb.time]⟩] } } := by
    rw [requestPulse]
    split
    · exact enterPaperState_room hr hroom .closed
    · exact enterPaperState_room (s := { s with ssu := { s.ssu with signal := .pulse 3 } }) hr hroom .closed
  rw [closePaper, entered]
  exact paperCollectedTest_finished hc hf

end Sys2Proof.Machine

/-! PROOFS. The accepted finish of one candidate (R96), the rounds offered behind it (R124), and FINISH CANDIDATE
(O30). -/

namespace Sys2Proof.Machine

set_option Elab.async false

variable {s : State} {k p n number : Nat} {x : Slot} {r : Seat} {why : FinishReason}

/-! ### Rounds offered (R123, R124) -/

theorem offerRounds_empty {z : Nat} (hu : (s.ringsOf z).urgent = []) (hm : (s.ringsOf z).main = []) (l : List Nat) :
    offerRounds z l s = s := by
  cases l with
  | nil => rfl
  | cons c l => simp [offerRounds, hu, hm]

theorem offerRounds_cons {z c : Nat} {l : List Nat} (h : ¬((s.ringsOf z).urgent = [] ∧ (s.ringsOf z).main = [])) :
    offerRounds z (c :: l) s = offerRounds z l (notify .roundOffered ([u8 c, u8 z] ++
      (formRound c z (setRings z { s.ringsOf z with waiters := l } s)).roundFields c)
      (formRound c z (setRings z { s.ringsOf z with waiters := l } s))) := by
  rw [offerRounds]
  refine if_neg ?_
  simpa using h

theorem formRound_rest (c z : Nat) (s : State) : formRound c z s = { s with clu := (formRound c z s).clu } := rfl

theorem ringsOf_formRound (c z y : Nat) (s : State) : (formRound c z s).ringsOf y =
    if y = z then { s.ringsOf z with
      urgent := (s.ringsOf z).urgent.drop (s.collectorOf c).size
      main := (s.ringsOf z).main.drop ((s.collectorOf c).size - ((s.ringsOf z).urgent.take (s.collectorOf c).size).length) }
    else s.ringsOf y := ringsOf_setRings ..

theorem collectorOf_formRound (c d z : Nat) (s : State) : (formRound c z s).collectorOf d =
    if d = c then { s.collectorOf c with
      state := .round, zone := some z, timer := some (s.collectorOf c).timeout
      round := (s.ringsOf z).urgent.take (s.collectorOf c).size ++ (s.ringsOf z).main.take
        ((s.collectorOf c).size - ((s.ringsOf z).urgent.take (s.collectorOf c).size).length) }
    else s.collectorOf d := collectorOf_setCollector ..

theorem collectorOf_setRings (z : Nat) (r : Rings) (s : State) (d : Nat) :
    (setRings z r s).collectorOf d = s.collectorOf d := rfl

/-- A ring that was empty holds one entry: the first collector that waits is offered it, and the others wait on. -/
theorem ringJoined_one {z d : Nat} {ws : List Nat} {e : Entry}
    (h : s.ringsOf z = ⟨[e], [], d :: ws⟩ ∨ s.ringsOf z = ⟨[], [e], d :: ws⟩) (hsize : 1 ≤ (s.collectorOf d).size) :
    ∃ t : State, ringJoined z s = notify .roundOffered ([u8 d, u8 z] ++ t.roundFields d) t
      ∧ t = { s with clu := t.clu }
      ∧ t.ringsOf z = ⟨[], [], ws⟩ ∧ (∀ y, y ≠ z → t.ringsOf y = s.ringsOf y)
      ∧ t.collectorOf d = { s.collectorOf d with
          state := .round, zone := some z, round := [e], timer := some (s.collectorOf d).timeout }
      ∧ ∀ c, c ≠ d → t.collectorOf c = s.collectorOf c := by
  have waits : (s.ringsOf z).waiters = d :: ws := by rcases h with h | h <;> rw [h]
  have holds : ¬((s.ringsOf z).urgent = [] ∧ (s.ringsOf z).main = []) := by rcases h with h | h <;> simp [h]
  obtain ⟨j, hj⟩ : ∃ j, (s.collectorOf d).size = j + 1 := ⟨_, (Nat.sub_add_cancel hsize).symm⟩
  have rings : (formRound d z (setRings z { s.ringsOf z with waiters := ws } s)).ringsOf z = ⟨[], [], ws⟩ := by
    rw [ringsOf_formRound, if_pos rfl, ringsOf_setRings, if_pos rfl, collectorOf_setRings, hj]
    rcases h with h | h <;> simp [h]
  refine ⟨formRound d z (setRings z { s.ringsOf z with waiters := ws } s), ?_, rfl, rings, fun y hy => ?_, ?_,
    fun c hc => ?_⟩
  · rw [ringJoined, waits, offerRounds_cons holds, offerRounds_empty]
    · rw [State.ringsOf, notify_clu]
      exact congrArg Rings.urgent rings
    · rw [State.ringsOf, notify_clu]
      exact congrArg Rings.main rings
  · rw [ringsOf_formRound, if_neg hy, ringsOf_setRings, if_neg hy]
  · rw [collectorOf_formRound, if_pos rfl, ringsOf_setRings, if_pos rfl, collectorOf_setRings, hj]
    rcases h with h | h <;> simp [h]
  · rw [collectorOf_formRound, if_neg hc]
    rfl

theorem labelFields_seat {n : Nat} {r : Seat} (h : s.seat? n = some r) :
    s.labelFields (some n) = labelFields (some (labelOf r)) := by
  simp [State.labelFields, State.labelOf, h]

/-- What ROUND OFFERED gives of a round of one entry. -/
theorem roundFields_one {d v : Nat} {e : Entry} {r : Seat} (hround : (s.collectorOf d).round = [e])
    (htimer : (s.collectorOf d).timer = some v) (hr : s.seat? e.seat = some r) : s.roundFields d =
    [u16 v, u8 1, u16 e.seat] ++ labelFields (some (labelOf r)) ++ [u16 e.slot, u8 e.reason.ctorIdx, u8 e.booklets] := by
  simp only [State.roundFields, hround, htimer, listField, List.flatMap_cons, List.flatMap_nil, State.entryFields,
    labelFields_seat hr]
  simp
  rfl

/-! ### One slot finished -/

/-- The notice FINISHED of a slot (R96). -/
def State.finishedNotice (s : State) (k : Nat) (x : Slot) (why : FinishReason) : Notice :=
  ⟨.finished, s.htb.time, [u16 k] ++ s.labelFields x.cand.seat ++ [u8 why.ctorIdx, u16 x.clock.remaining]⟩

/-- A slot's candidate finished by an accepted finish (R96). -/
def State.stopped (s : State) (k : Nat) (why : FinishReason) : State :=
  s.finishedSlots [k] why fun x => x.clock.ended .stopped

theorem acceptFinish_eq (hk : s.slot? k = some x) (why : FinishReason) : acceptFinish k why s =
    closeIfSettled x.cand.paper (handOff [k] (unseatedNotice k
      (notify .finished (s.finishedNotice k x why).fields (s.stopped k why)))) := by
  simp only [acceptFinish, hk, finishSlot_eq]
  rfl

theorem stopped_slot? (hk : s.slot? k = some x) (why : FinishReason) (j : Nat) : (s.stopped k why).slot? j =
    if j = k then some (x.finished why fun x => x.clock.ended .stopped) else s.slot? j := by
  rw [State.stopped, finishedSlots_slot? (List.nodup_singleton k)]
  simp only [List.mem_singleton]
  split
  next h => rw [h, hk]; rfl
  · rfl

theorem notify_slot? (kind : NoticeKind) (l : List Field) (s : State) (j : Nat) : (notify kind l s).slot? j = s.slot? j :=
  congrArg (fun u : Rsu => u.slots.find j) (notify_rsu s kind l)

theorem notify_paper? (kind : NoticeKind) (l : List Field) (s : State) (p : Nat) :
    (notify kind l s).paper? p = s.paper? p :=
  congrArg (fun u : Ssu => u.papers.find p) (notify_ssu s kind l)

theorem notify_seat? (kind : NoticeKind) (l : List Field) (s : State) (m : Nat) : (notify kind l s).seat? m = s.seat? m :=
  congrArg (fun u : Hmu => u.seats.find m) (notify_hmu s kind l)

theorem notify_ringsOf (kind : NoticeKind) (l : List Field) (s : State) (z : Nat) :
    (notify kind l s).ringsOf z = s.ringsOf z :=
  congrArg (fun u : Clu => (u.rings.find z).getD .empty) (notify_clu s kind l)

theorem notify_collectorOf (kind : NoticeKind) (l : List Field) (s : State) (c : Nat) :
    (notify kind l s).collectorOf c = s.collectorOf c :=
  congrArg (fun u : Clu => (u.collectors.find c).getD .initial) (notify_clu s kind l)

theorem told_slot? (s : State) (l : List Notice) (j : Nat) : (s.told l).slot? j = s.slot? j := rfl

/-- A candidate without a seat: the two notices, and nothing for the Collection Unit. -/
theorem acceptFinish_unseated (hk : s.slot? k = some x) (hs : x.cand.seat = none) (why : FinishReason)
    (hroom : s.sli.notices.length + 1 < 64) : acceptFinish k why s =
    closeIfSettled x.cand.paper ((s.stopped k why).told [s.finishedNotice k x why,
      ⟨.unseatedFinish, s.htb.time, [u16 k, u32 x.cand.number, o8 (some why.ctorIdx)]⟩]) := by
  have find : (s.stopped k why).slot? k = _ := (stopped_slot? hk why k).trans (if_pos rfl)
  have unseated : ((s.stopped k why).told [s.finishedNotice k x why]).unseatedOf k =
      some ⟨.unseatedFinish, s.htb.time, [u16 k, u32 x.cand.number, o8 (some why.ctorIdx)]⟩ := by
    rw [State.unseatedOf, told_slot?, find, Option.bind_some]
    simp only [Slot.finished, Slot.write, hs]
    rfl
  rw [acceptFinish_eq hk, notify_told (by exact Nat.lt_of_succ_lt hroom)]
  rw [show (s.stopped k why).told [⟨.finished, (s.stopped k why).htb.time, (s.finishedNotice k x why).fields⟩] =
    (s.stopped k why).told [s.finishedNotice k x why] from rfl]
  rw [unseatedNotice_told, unseated, Option.toList_some, told_told, handOff_unseated]
  · rfl
  · intro y hy
    have hy' : some y = _ := hy.symm.trans find
    rw [Option.some.inj hy']
    exact hs
  · rw [unseated]
    simp only [State.told, State.stopped, State.finishedSlots, List.length_append, Option.toList_some,
      List.length_singleton]
    omega

theorem handOff_one {e : Entry} (h : s.entryOf k = some e) :
    handOff [k] s = ringJoined (s.zoneOfSeat e.seat) (joinRing e s) := by
  simp [handOff, h, sortBy, insertBy, dedup]

/-- A candidate with a seat: its entry joins a ring of the seat's zone. -/
theorem acceptFinish_seated (hk : s.slot? k = some x) (hs : x.cand.seat = some n) (why : FinishReason) :
    acceptFinish k why s = closeIfSettled x.cand.paper (ringJoined (s.zoneOfSeat n)
      (joinRing ⟨n, k, why, x.cand.issued⟩ (notify .finished (s.finishedNotice k x why).fields (s.stopped k why)))) := by
  have find : (notify .finished (s.finishedNotice k x why).fields (s.stopped k why)).slot? k = _ :=
    (notify_slot? ..).trans ((stopped_slot? hk why k).trans (if_pos rfl))
  have quiet : unseatedNotice k (notify .finished (s.finishedNotice k x why).fields (s.stopped k why)) =
      notify .finished (s.finishedNotice k x why).fields (s.stopped k why) := by
    simp only [unseatedNotice, find]
    exact if_pos (by simp [Slot.finished, Slot.write, hs])
  have entry : (notify .finished (s.finishedNotice k x why).fields (s.stopped k why)).entryOf k =
      some ⟨n, k, why, x.cand.issued⟩ := by
    simp only [State.entryOf, find]
    simp [Slot.finished, Slot.write, hs]
  have zone : (notify .finished (s.finishedNotice k x why).fields (s.stopped k why)).zoneOfSeat n = s.zoneOfSeat n := by
    rw [State.zoneOfSeat, notify_seat?]
    rfl
  rw [acceptFinish_eq hk, quiet, handOff_one entry, zone]

theorem zoneOfSeat_eq (h : s.seat? n = some r) : s.zoneOfSeat n = r.zone := by
  simp [State.zoneOfSeat, h]

/-! ### FINISH CANDIDATE (R95) -/

theorem takeFinishCandidate_tooLate (hc : s.clean = true) (hf : s.finds number k x)
    (h : x.clock.state = .stopped ∨ x.clock.state = .expired) : takeFinishCandidate number s = refuse s .tooLate := by
  rw [takeFinishCandidate, withCandidate_finds hc hf]
  rcases h with h | h <;> simp [State.finishRefusal, h]

theorem takeFinishCandidate_wrongState (hc : s.clean = true) (hf : s.finds number k x)
    (h : x.clock.state = .none ∨ x.clock.state = .reading ∨ x.clock.state = .held) :
    takeFinishCandidate number s = refuse s .wrongState := by
  rw [takeFinishCandidate, withCandidate_finds hc hf]
  rcases h with h | h | h <;> simp [State.finishRefusal, h]

theorem takeFinishCandidate_accepted (hc : s.clean = true) (hf : s.finds number k x)
    (h : x.clock.state = .running ∨ x.clock.state = .paused) :
    takeFinishCandidate number s = done (acceptFinish k .station s) [u16 x.clock.remaining] := by
  rw [takeFinishCandidate, withCandidate_finds hc hf]
  rcases h with h | h <;> simp [State.finishRefusal, State.finishRefusal.blackout, h]

/-! ### The clocks of a paper once some of its slots have finished (R87) -/

/-- Whether a slot keeps a paper from closing: it is of another paper, or its clock is not open. -/
def Slot.clockDone (p : Nat) (x : Slot) : Bool :=
  x.shadow.paper != some p || (if x.suspect then x.shadow.clockNone else
    x.clock.state == .none || x.clock.state == .stopped || x.clock.state == .expired)

theorem ClockState.not_isOpen (st : ClockState) : (!st.isOpen) = (st == .none || st == .stopped || st == .expired) := by
  cases st <;> rfl

theorem Slot.clockDone_eq (p : Nat) (x : Slot) :
    x.clockDone p = !(x.ofPaper p && (if x.suspect then !x.shadow.clockNone else x.clock.state.isOpen)) := by
  rw [Slot.clockDone, ← ClockState.not_isOpen, Bool.not_and, Slot.ofPaper]
  cases x.suspect <;> simp [bne]

theorem State.clocksOpen_eq (s : State) (p : Nat) : s.clocksOpen p = !List.all s.rsu.slots fun e => e.2.clockDone p := by
  simp [State.clocksOpen, Table.any, Slot.clockDone_eq, List.not_all_eq_any_not]

theorem foldl_modify_mem {α : Type} {t : Table α} (h : t.sorted = true) {ks : List Nat} (hn : ks.Nodup) (f : α → α) :
    ks.foldl (fun u k => u.modify k f) t = t.mapAll fun j x => if ks.contains j then f x else x := by
  have sorted (ks : List Nat) (u : Table α) (hu : u.sorted = true) : (ks.foldl (fun u k => u.modify k f) u).sorted = true := by
    induction ks generalizing u with
    | nil => exact hu
    | cons k ks ih => exact ih _ (Table.modify_sorted hu ..)
  refine Table.ext_find (sorted _ _ h) (Table.mapAll_sorted h _) fun m => ?_
  rw [Table.find_foldl_modify ks (fun _ => f) t m hn, Table.find_mapAll]
  by_cases hm : m ∈ ks
  · simp [hm]
  · simp [hm]

theorem finishedSlots_slots (hs : s.rsu.slots.sorted = true) {ks : List Nat} (hn : ks.Nodup) (why : FinishReason)
    (g : Slot → Clock) : (s.finishedSlots ks why g).rsu.slots =
      s.rsu.slots.mapAll fun j x => if ks.contains j then x.finished why g else x :=
  foldl_modify_mem hs hn _

theorem finishedSlots_clocksOpen (hs : s.rsu.slots.sorted = true) {ks : List Nat} (hn : ks.Nodup) {g : Slot → Clock}
    (hu : ∀ k ∈ ks, ∀ x, s.slot? k = some x → x.suspect = false) (hg : ∀ x, (g x).state.isOpen = false) (p : Nat)
    (why : FinishReason) : (s.finishedSlots ks why g).clocksOpen p =
      !List.all s.rsu.slots fun e => ks.contains e.1 || e.2.clockDone p := by
  rw [State.clocksOpen_eq, finishedSlots_slots hs hn, Table.mapAll, List.all_map]
  congr 1
  refine Bool.eq_iff_iff.mpr ?_
  simp only [List.all_eq_true, Function.comp_def]
  refine forall₂_congr fun e he => Eq.congr_left ?_
  cases hk : ks.contains e.1 with
  | false => simp
  | true =>
    have readable := hu e.1 (List.contains_iff_mem.mp hk) e.2 ((Table.mem_iff_find hs _ _).mp he)
    simp [Slot.clockDone_eq, Slot.finished, Slot.write, readable, hg]

/-- A finished slot of a paper is among its readable candidates. -/
theorem finishedSlots_readable (hs : s.rsu.slots.sorted = true) {ks : List Nat} (hn : ks.Nodup) {g : Slot → Clock}
    (hk : k ∈ ks) (hx : s.slot? k = some x) (hu : x.suspect = false) :
    ∃ e ∈ (s.finishedSlots ks why g).readable x.cand.paper, e.2.cand.state = .finished := by
  have find : (s.finishedSlots ks why g).slot? k = some (x.finished why g) := by
    rw [finishedSlots_slot? hn, if_pos hk, hx]
    rfl
  have sorted : (s.finishedSlots ks why g).rsu.slots.sorted = true := by
    rw [finishedSlots_slots hs hn]
    exact Table.mapAll_sorted hs _
  refine ⟨(k, x.finished why g), List.mem_filter.mpr ⟨(Table.mem_iff_find sorted _ _).mpr find, ?_⟩, rfl⟩
  simp [Slot.finished, Slot.write, Slot.ofPaper, shadowOf, hu]

theorem FinishReason.urgent_iff (why : FinishReason) :
    why.urgent = true ↔ why = .early ∨ why = .station ∨ why = .withdrawn := by
  cases why <;> simp [FinishReason.urgent]

theorem ringsOf_joinRing_zone {e : Entry} {z : Nat} (hz : s.zoneOfSeat e.seat = z) (y : Nat) : (joinRing e s).ringsOf y =
    if y = z then
      if e.reason = .early ∨ e.reason = .station ∨ e.reason = .withdrawn then
        { s.ringsOf z with urgent := (s.ringsOf z).urgent ++ [e] }
      else { s.ringsOf z with main := (s.ringsOf z).main ++ [e] }
    else s.ringsOf y := by
  subst hz
  rw [joinRing, ringsOf_setRings]
  simp only [FinishReason.urgent_iff]

section
variable (hk : s.slot? k = some x)
include hk

/-- With no collector waiting, a finish tells its notices and at most joins a ring, before the paper may close. -/
theorem acceptFinish_told (why : FinishReason)
    (hw : ∀ n, x.cand.seat = some n → ∃ w, s.seat? n = some w ∧ (s.ringsOf w.zone).waiters = [])
    (hroom : s.sli.notices.length + 1 < 64) : ∃ c, acceptFinish k why s =
      closeIfSettled x.cand.paper { s.stopped k why with
        sli := (s.told (s.finishedNotice k x why :: if x.cand.seat.isSome then [] else
          [⟨.unseatedFinish, s.htb.time, [u16 k, u32 x.cand.number, o8 (some why.ctorIdx)]⟩])).sli
        clu := c } := by
  cases hs : x.cand.seat with
  | none => exact ⟨_, acceptFinish_unseated hk hs why hroom⟩
  | some n =>
    obtain ⟨w, hseat, hwait⟩ := hw n hs
    rw [acceptFinish_seated hk hs, notify_told (by exact Nat.lt_of_succ_lt hroom), ringJoined_noWaiter]
    · exact ⟨_, rfl⟩
    · rw [ringsOf_joinRing_zone (z := s.zoneOfSeat n) rfl, if_pos rfl, zoneOfSeat_eq hseat]
      split <;> exact hwait

section
variable (why : FinishReason) (hp : ∀ p, s.paper? x.cand.paper = some p → p.state ≠ .overtime) {n : Nat} {r : Seat}
  (hn : x.cand.seat = some n) (hr : s.seat? n = some r) (hw : (s.ringsOf r.zone).waiters = [])
include hp hn hr hw

/-- The finish of a seated candidate where no collector waits. -/
theorem acceptFinish_joined : acceptFinish k why s = joinRing ⟨n, k, why, x.cand.issued⟩
    (notify .finished (s.finishedNotice k x why).fields (s.stopped k why)) := by
  rw [acceptFinish_seated hk hn, zoneOfSeat_eq hr, ringJoined_noWaiter]
  · exact closeIfSettled_other fun p hp' => hp p ((notify_paper? .finished (s.finishedNotice k x why).fields (s.stopped k why) _).symm.trans hp')
  · have zone : (notify .finished (s.finishedNotice k x why).fields (s.stopped k why)).zoneOfSeat n = r.zone := by
      rw [State.zoneOfSeat, notify_seat?]
      exact zoneOfSeat_eq hr
    rw [ringsOf_joinRing_zone zone, if_pos rfl, notify_ringsOf]
    split <;> exact hw

end

end

/-- Settles O30. -/
theorem finishingACandidate : Obligations.FinishingACandidate := by
  unfold Obligations.FinishingACandidate
  refine ⟨⟨⟨fun s number hs hc => ?request, fun s k n x r why hk hn hr hw hp => ?seated⟩,
    fun s k n d ws x r why hk hn hr hw hsize hp hroom => ?offered⟩,
    fun s k p x r why hc ht hk hu hp hr hst hseat hroom => ?overtime⟩
  case request =>
    rw [exec_finishCandidate_ready hs]
    refine ⟨fun h => ?_, fun h hn => ?_, fun k x h hn hk hx => ?_, fun k x hf => ⟨fun h => ?_, fun h => ?_, fun h => ?_,
      fun h hseat hp hroom => ?_⟩⟩
    · rw [takeFinishCandidate, withCandidate_out h, finishTaking_refuse]
    · rw [takeFinishCandidate, withCandidate_unknown h hn, finishTaking_refuse]
    · rw [takeFinishCandidate, withCandidate_suspect hc h hn hk hx, finishTaking_refuse]
    · rw [takeFinishCandidate_tooLate hc hf h, finishTaking_refuse]
    · rw [takeFinishCandidate_wrongState hc hf h, finishTaking_refuse]
    · rw [takeFinishCandidate_accepted hc hf h, finishTaking_done]
    · have ⟨_, _, hk, _⟩ := hf
      rw [takeFinishCandidate_accepted hc hf h, finishTaking_done, acceptFinish_unseated hk hseat _ hroom,
        closeIfSettled_other (by exact hp)]
      refine ⟨_, _, rfl, (stopped_slot? hk _ k).trans (if_pos rfl), rfl, rfl,
        fun j hj => (stopped_slot? hk _ j).trans (if_neg hj), rfl, ?_, rfl, rfl, rfl, rfl, rfl, rfl⟩
      simp only [State.finishedNotice, hseat]
      rfl
  case seated =>
    have zone : (notify .finished (s.finishedNotice k x why).fields (s.stopped k why)).zoneOfSeat n = r.zone := by
      rw [State.zoneOfSeat, notify_seat?]
      exact zoneOfSeat_eq hr
    dsimp only
    rw [acceptFinish_joined hk why hp hn hr hw]
    refine ⟨⟨_, (notify_slot? ..).trans ((stopped_slot? hk _ k).trans (if_pos rfl)), rfl, rfl⟩,
      fun j hj => (notify_slot? ..).trans ((stopped_slot? hk _ j).trans (if_neg hj)), ?_, fun z hz => ?_, ?_, ?_, ?_, ?_, ?_⟩
    · rw [ringsOf_joinRing_zone zone, if_pos rfl, notify_ringsOf]
      rfl
    · rw [ringsOf_joinRing_zone zone, if_neg hz, notify_ringsOf]
      rfl
    · exact notify_hmu ..
    · exact notify_htb ..
    · exact notify_ssu ..
    · exact notify_dbc ..
    · change (notify .finished (s.finishedNotice k x why).fields (s.stopped k why)).clu.collectors = _
      rw [notify_clu]
      rfl
  case offered =>
    let w := joinRing ⟨n, k, why, x.cand.issued⟩ ((s.stopped k why).told [s.finishedNotice k x why])
    have zone : ((s.stopped k why).told [s.finishedNotice k x why]).zoneOfSeat n = r.zone := zoneOfSeat_eq hr
    have rings : w.ringsOf r.zone = ⟨[⟨n, k, why, x.cand.issued⟩], [], d :: ws⟩
        ∨ w.ringsOf r.zone = ⟨[], [⟨n, k, why, x.cand.issued⟩], d :: ws⟩ := by
      have empty : ((s.stopped k why).told [s.finishedNotice k x why]).ringsOf r.zone = ⟨[], [], d :: ws⟩ := hw
      rw [ringsOf_joinRing_zone zone, if_pos rfl, empty]
      split
      · exact .inl rfl
      · exact .inr rfl
    obtain ⟨t, joined, rest, hzone, hother, hd, hc⟩ := ringJoined_one rings hsize
    have accepted : acceptFinish k why s = t.told [⟨.roundOffered, t.htb.time, [u8 d, u8 r.zone] ++ t.roundFields d⟩] := by
      rw [acceptFinish_seated hk hn, zoneOfSeat_eq hr, notify_told (by exact Nat.lt_of_succ_lt hroom)]
      refine (congrArg (closeIfSettled x.cand.paper) (joined.trans (notify_told ?_ _ _))).trans (closeIfSettled_other ?_)
      · rw [rest]
        simpa [w, joinRing, setRings, State.told, State.stopped, State.finishedSlots] using hroom
      · intro p hpaper
        rw [rest] at hpaper
        exact hp p hpaper
    have hsli : t.sli = ((s.stopped k why).told [s.finishedNotice k x why]).sli := by rw [rest]; rfl
    have hhmu : t.hmu = s.hmu := by rw [rest]; rfl
    have hhtb : t.htb = s.htb := by rw [rest]; rfl
    have hssu : t.ssu = s.ssu := by rw [rest]; rfl
    have hdbc : t.dbc = s.dbc := by rw [rest]; rfl
    dsimp only
    rw [accepted]
    refine ⟨hzone, fun z hz => (hother z hz).trans ?_, hd, hc, ?_, hhmu, hhtb, hssu, hdbc⟩
    · rw [ringsOf_joinRing_zone zone, if_neg hz]
      rfl
    · have fields := roundFields_one (s := t) (r := r) (congrArg Collector.round hd) (congrArg Collector.timer hd)
        (by rw [State.seat?, hhmu]; exact hr)
      have labels : s.labelFields x.cand.seat = labelFields (some (labelOf r)) := by
        rw [hn]
        exact labelFields_seat hr
      rw [State.told, fields, hsli, hhtb, State.finishedNotice, labels]
      simp only [State.told, List.append_assoc, List.cons_append, List.nil_append]
      rfl
  case overtime =>
    subst hp
    obtain ⟨-, -, slots, -, -⟩ := (State.tablesSorted_iff s).mp ht
    obtain ⟨c, told⟩ := acceptFinish_told hk why hseat (by omega)
    have readable : ∀ j ∈ [k], ∀ y, s.slot? j = some y → y.suspect = false := by
      intro j hj y hy
      obtain rfl := List.mem_singleton.mp hj
      rwa [Option.some.inj (hy.symm.trans hk)]
    have clocks := finishedSlots_clocksOpen slots (List.nodup_singleton k) (g := fun x => x.clock.ended .stopped) readable
      (fun _ => rfl) x.cand.paper why
    have same : (List.all s.rsu.slots fun e => [k].contains e.1 || e.2.clockDone x.cand.paper) =
        List.all s.rsu.slots fun e => e.1 == k || e.2.shadow.paper != some x.cand.paper ||
          (if e.2.suspect then e.2.shadow.clockNone else
            e.2.clock.state == .none || e.2.clock.state == .stopped || e.2.clock.state == .expired) := by
      simp only [List.contains_cons, List.contains_nil, Bool.or_false, Slot.clockDone, Bool.or_assoc]
    rw [same] at clocks
    dsimp only
    refine ⟨fun h => ?_, fun h => ?_⟩
    · rw [told, closeIfSettled_open (by exact hc) (by exact hr) hst (by exact clocks.trans (by rw [h]; rfl))]
      exact ⟨rfl, rfl⟩
    · rw [told, closeIfSettled_closed (by exact hc) (by exact hr) hst (by exact clocks.trans (by rw [h]; rfl)),
        closePaper_finished (by exact hc) (by exact hr)]
      · exact ⟨rfl, rfl⟩
      · simp only [State.told, List.length_append]
        split <;> simp <;> omega
      · exact finishedSlots_readable slots (List.nodup_singleton k) (List.mem_singleton.mpr rfl) hk hu

end Sys2Proof.Machine

/-! PROOFS. Steps that a hall second made due, and rounds that time out (O43). -/

namespace Sys2Proof.Machine

set_option Elab.async false

variable {s : State} {k p : Nat}

/-! ### Taking a step made due -/

theorem takeDueNow_none {d : Due} (h : d ∉ s.due) : takeDueNow d s = s := by
  simp [takeDueNow, h]

theorem takeDueNow_front {d : Due} {rest : List Due} (h : s.due = d :: rest) :
    takeDueNow d s = takeDue { s with due := rest } d := by
  simp [takeDueNow, h]

/-! ### Rounds that time out (R124, R125) -/

theorem take_append_take {α : Type} (n : Nat) (u m : List α) :
    u.take n ++ m.take (n - (u.take n).length) = (u ++ m).take n := by
  rw [List.take_append, List.length_take]
  congr 2
  omega

theorem drop_take_length {α : Type} (n : Nat) (u m : List α) : m.drop (n - (u.take n).length) = m.drop (n - u.length) := by
  congr 1
  rw [List.length_take]
  omega

theorem setRings_setRings (z : Nat) (a b : Rings) (s : State) : setRings z b (setRings z a s) = setRings z b s := by
  simp only [setRings, Table.put_put]

theorem told_ringsOf (s : State) (l : List Notice) (z : Nat) : (s.told l).ringsOf z = s.ringsOf z := rfl

theorem told_collectorOf (s : State) (l : List Notice) (c : Nat) : (s.told l).collectorOf c = s.collectorOf c := rfl

/-- A round formed behind the waiter who takes it. -/
theorem formRound_eq {z d : Nat} {ws : List Nat} {u m : List Entry} (h : s.ringsOf z = ⟨u, m, d :: ws⟩) :
    formRound d z (setRings z { s.ringsOf z with waiters := ws } s) = setCollector d { s.collectorOf d with
        state := .round, zone := some z, round := (u ++ m).take (s.collectorOf d).size
        timer := some (s.collectorOf d).timeout }
      (setRings z ⟨u.drop (s.collectorOf d).size, m.drop ((s.collectorOf d).size - u.length), ws⟩ s) := by
  simp only [formRound, collectorOf_setRings, ringsOf_setRings, if_true, h, setRings_setRings, take_append_take,
    drop_take_length]

/-- One offer: the first waiter takes its round, and the offers go on with the others. -/
theorem ringJoined_cons {z d : Nat} {ws : List Nat} {u m : List Entry} (h : s.ringsOf z = ⟨u, m, d :: ws⟩)
    (hne : u ≠ [] ∨ m ≠ []) : ringJoined z s = ringJoined z (notify .roundOffered ([u8 d, u8 z] ++
      (formRound d z (setRings z { s.ringsOf z with waiters := ws } s)).roundFields d)
      (formRound d z (setRings z { s.ringsOf z with waiters := ws } s))) := by
  have waits : (s.ringsOf z).waiters = d :: ws := by rw [h]
  rw [ringJoined, waits, offerRounds_cons (by rw [h]; tauto), ringJoined]
  congr 1
  rw [notify_ringsOf, ringsOf_formRound, if_pos rfl, ringsOf_setRings, if_pos rfl]

theorem ringJoined_emptied {z : Nat} (h : (s.ringsOf z).waiters = [] ∨ ((s.ringsOf z).urgent = [] ∧ (s.ringsOf z).main = [])) :
    ringJoined z s = s :=
  h.elim ringJoined_noWaiter fun h => offerRounds_empty h.1 h.2 _

/-- The part with a round given back and its collector IDLE, before anyone is told. -/
def State.expiredRound (s : State) (c z : Nat) : State :=
  setCollector c { s.collectorOf c with
      state := .idle, zone := none, round := [], timer := none, expired := (s.collectorOf c).round.map (·.seat) }
    (setRings z { s.ringsOf z with urgent := (s.collectorOf c).round ++ (s.ringsOf z).urgent } s)

def State.expiredFields (s : State) (c z : Nat) : List Field :=
  [u8 c, u8 z, u8 (s.collectorOf c).round.length] ++ (s.collectorOf c).round.map fun e => u16 e.seat

theorem roundTimesOut_expired {c z : Nat} (hst : (s.collectorOf c).state = .round)
    (htimer : (s.collectorOf c).timer = some 0) (hz : (s.collectorOf c).zone = some z) :
    roundTimesOut c s = ringJoined z (notify .roundExpired (s.expiredFields c z) (s.expiredRound c z)) := by
  simp only [roundTimesOut, hst, htimer, hz, Option.getD_some, bne_self_eq_false, Bool.or_self, Bool.false_eq_true, if_false]
  simp only [State.expiredFields, listField, List.length_map, List.flatMap_map, State.expiredRound, putBack]
  rw [show (s.collectorOf c).round.flatMap (fun e => [u16 e.seat]) = (s.collectorOf c).round.map fun e => u16 e.seat from
    (List.map_eq_flatMap ..).symm]
  rfl

theorem ringsOf_expiredRound (c z y : Nat) (s : State) : (s.expiredRound c z).ringsOf y =
    if y = z then { s.ringsOf z with urgent := (s.collectorOf c).round ++ (s.ringsOf z).urgent } else s.ringsOf y :=
  ringsOf_setRings ..

theorem collectorOf_expiredRound (c z d : Nat) (s : State) : (s.expiredRound c z).collectorOf d =
    if d = c then { s.collectorOf c with
      state := .idle, zone := none, round := [], timer := none, expired := (s.collectorOf c).round.map (·.seat) }
    else s.collectorOf d := collectorOf_setCollector ..

theorem exec_roundTimeout {rest : List Due} {c : Nat} (h : s.due = .roundTimeout c :: rest) :
    exec (.roundTimeout c) s = .next (roundTimesOut c { s with due := rest }) :=
  congrArg Host.Outcome.next (takeDueNow_front h)

/-- Settles O43. -/
theorem roundTimesOut_holds : Obligations.RoundTimesOut := by
  unfold Obligations.RoundTimesOut
  refine ⟨⟨⟨fun s c h => congrArg Host.Outcome.next (takeDueNow_none h), fun s rest c h hst => ?notRound,
    fun s rest c z h hst htimer hz hw hroom => ?unwaited⟩,
    fun s rest c z d ws h hst htimer hz hw hdc hl hsize hstop hroom => ?offered⟩,
    fun s z => ⟨ringJoined_emptied, fun d ws u m h hne => ?step⟩, fun s rest c z h hst htimer hz => ?expired⟩
  case notRound =>
    rw [exec_roundTimeout h, roundTimesOut, if_pos]
    rw [Bool.or_eq_true]
    exact .inl (bne_iff_ne.mpr hst)
  case step =>
    rw [ringJoined_cons h hne, formRound_eq h]
  case expired =>
    dsimp only
    rw [exec_roundTimeout h, roundTimesOut_expired (by exact hst) (by exact htimer) (by exact hz)]
    rfl
  case unwaited =>
    rw [exec_roundTimeout h, roundTimesOut_expired (by exact hst) (by exact htimer) (by exact hz), notify_told (by exact hroom), ringJoined_noWaiter]
    · refine ⟨_, rfl, rfl, (ringsOf_expiredRound ..).trans (if_pos rfl), fun y hy => (ringsOf_expiredRound ..).trans (if_neg hy),
        fun d hd => (collectorOf_expiredRound ..).trans (if_neg hd), (collectorOf_expiredRound ..).trans (if_pos rfl),
        rfl, rfl, rfl, rfl⟩
    · have rings := (ringsOf_expiredRound c z z { s with due := rest }).trans (if_pos rfl)
      exact (congrArg Rings.waiters rings).trans hw
  case offered =>
    have rings : (State.expiredRound { s with due := rest } c z).ringsOf z = ⟨(s.collectorOf c).round, [], d :: ws⟩ := by
      refine (ringsOf_expiredRound ..).trans ((if_pos rfl).trans ?_)
      rw [show State.ringsOf { s with due := rest } z = _ from hw]
      simp
      rfl
    have waiter : (State.expiredRound { s with due := rest } c z).collectorOf d = s.collectorOf d :=
      (collectorOf_expiredRound ..).trans (if_neg hdc)
    let v := (State.expiredRound { s with due := rest } c z).told
      [⟨.roundExpired, s.htb.time, s.expiredFields c z⟩]
    let given := formRound d z (setRings z { v.ringsOf z with waiters := ws } v)
    have rings' : given.ringsOf z = ⟨(s.collectorOf c).round.drop (s.collectorOf d).size, [], ws⟩ := by
      refine (ringsOf_formRound ..).trans ((if_pos rfl).trans ?_)
      rw [ringsOf_setRings, if_pos rfl, collectorOf_setRings, show v.collectorOf d = _ from waiter,
        show v.ringsOf z = _ from rings]
      simp
    have stops : ringJoined z (given.told [⟨.roundOffered, s.htb.time, [u8 d, u8 z] ++ given.roundFields d⟩]) =
        given.told [⟨.roundOffered, s.htb.time, [u8 d, u8 z] ++ given.roundFields d⟩] := by
      refine ringJoined_emptied ?_
      rw [told_ringsOf, rings']
      exact hstop.imp_right fun h => ⟨List.drop_eq_nil_iff.mpr h, rfl⟩
    rw [exec_roundTimeout h, roundTimesOut_expired (by exact hst) (by exact htimer) (by exact hz),
      notify_told (by exact Nat.lt_of_succ_lt hroom), ringJoined_cons (by exact rings) (.inl hl), notify_told ?room]
    case room =>
      simpa [formRound, setRings, setCollector, State.told, State.expiredRound] using hroom
    refine ⟨_, congrArg Host.Outcome.next stops, rfl, rings', fun y hy => ?_, ?_, ?_, fun b hbc hbd => ?_, ?_, rfl, rfl, rfl⟩
    · rw [told_ringsOf, ringsOf_formRound, if_neg hy, ringsOf_setRings, if_neg hy]
      exact (ringsOf_expiredRound ..).trans (if_neg hy)
    · rw [told_collectorOf, collectorOf_formRound, if_neg hdc.symm, collectorOf_setRings]
      exact (collectorOf_expiredRound ..).trans (if_pos rfl)
    · rw [told_collectorOf, collectorOf_formRound, if_pos rfl, collectorOf_setRings, show v.collectorOf d = _ from waiter,
        ringsOf_setRings, if_pos rfl, show v.ringsOf z = _ from rings]
      simp
    · rw [told_collectorOf, collectorOf_formRound, if_neg hbd, collectorOf_setRings]
      exact (collectorOf_expiredRound ..).trans (if_neg hbc)
    · simp only [State.told]
      simp [given, v, formRound, setRings, setCollector, State.told, State.expiredRound, State.expiredFields]
      rfl

end Sys2Proof.Machine

/-! PROOFS. Warnings and timed items that a hall second made due (O33), and the steps of a paper (O32). -/

namespace Sys2Proof.Machine

set_option Elab.async false

variable {s : State} {rest : List Due} {k p : Nat} {r : Paper}

/-! ### Warnings and timed items (R86, R98, R110, R115) -/

theorem clockWarningStep_fired {t : Nat} {x : Slot} (hk : s.slot? k = some x) (hr : s.paper? x.cand.paper = some r)
    (hu : x.suspect = false) (hst : x.clock.state = .running) (ht : r.warnings[x.clock.warnIndex]? = some t)
    (hrem : x.clock.remaining = 60 * t) : clockWarningStep k s =
      let fired := s.withSlot k x.cand { x.clock with warnIndex := x.clock.warnIndex + 1 }
      x.cand.seat.elim fired fun n => fireWarning n fired := by
  have due : atWarning r x.clock = true := by simp [atWarning, hst, ht, hrem]
  simp only [clockWarningStep, hk, hr, hu, due, Bool.not_true, Bool.or_self, Bool.false_eq_true, if_false]
  rw [modClock_eq_withSlot hu hk]
  cases x.cand.seat <;> rfl

theorem fireWarning_eq {n a : Nat} {w : Seat} {d : Desk} (hw : s.seat? n = some w) (ha : w.desk = some a)
    (hd : s.desk? a = some d) : fireWarning n s = s.withDesk a { d with warning := some 60 } := by
  simp only [fireWarning, hw, Option.bind_some, ha]
  exact modDesk_eq_withDesk hd _

theorem Option.filter_ne {α : Type} (f : α → Nat) (o : Option α) :
    o.filter (fun a => f a != 0) = if o.map f = some 0 then none else o := by
  cases o with
  | none => rfl
  | some a =>
    by_cases h : f a = 0 <;> simp [Option.filter, h]

theorem lampExpiryStep_eq {a : Nat} {d : Desk} (h : s.desk? a = some d) : lampExpiryStep a s = s.withDesk a { d with
    override := (if d.override.map (·.seconds) = some 0 then none else d.override)
    feedback := (if d.feedback.map (·.seconds) = some 0 then none else d.feedback)
    warning := (if d.warning = some 0 then none else d.warning) } := by
  have warning := Option.filter_ne id d.warning
  rw [Option.map_id_fun, id_eq] at warning
  rw [lampExpiryStep, modDesk_eq_withDesk h, Option.filter_ne, Option.filter_ne]
  exact congrArg (fun w => s.withDesk a { d with
    override := (if d.override.map (·.seconds) = some 0 then none else d.override)
    feedback := (if d.feedback.map (·.seconds) = some 0 then none else d.feedback)
    warning := w }) warning

/-- Settles O33. -/
theorem warningsAndTimers : Obligations.WarningsAndTimers := by
  unfold Obligations.WarningsAndTimers
  refine ⟨⟨fun s n => ⟨fun h => congrArg Host.Outcome.next (takeDueNow_none h), fun h =>
      congrArg Host.Outcome.next (takeDueNow_none h)⟩, fun s rest k t x r h hk hr hu hst ht hrem => ⟨fun hseat => ?unseated,
      fun n w a d hseat hw ha hd => ?seated⟩, fun s rest p t r h hr hst ht => ?warning⟩,
    fun s a => ⟨fun h => congrArg Host.Outcome.next (takeDueNow_none h), fun h =>
      congrArg Host.Outcome.next (takeDueNow_none h), fun h => congrArg Host.Outcome.next (takeDueNow_none h)⟩,
    fun s rest h hsig => ?pulse, fun s rest a d h hd hw => ?window, fun s rest a d h hd => ?lamp⟩
  all_goals refine congrArg Host.Outcome.next ((takeDueNow_front h).trans ?_)
  case unseated =>
    refine (clockWarningStep_fired (s := { s with due := rest }) hk hr hu hst ht hrem).trans ?_
    simp only [hseat]
    rfl
  case seated =>
    refine (clockWarningStep_fired (s := { s with due := rest }) hk hr hu hst ht hrem).trans ?_
    simp only [hseat]
    exact fireWarning_eq (by exact hw) ha (by exact hd)
  case warning =>
    have now : r.warningsNow = [t] := by simpa [Paper.warningsNow, hst] using ht
    simp only [takeDue, warningStep, show State.paper? { s with due := rest } p = some r from hr, now]
    rfl
  case pulse =>
    simp only [takeDue, pulseEndStep]
    exact if_pos (by simp [hsig])
  case window =>
    refine (modDesk_eq_withDesk (s := { s with due := rest }) hd _).trans ?_
    simp only [hw]
    rfl
  case lamp => exact lampExpiryStep_eq (s := { s with due := rest }) hd

/-! ### The steps of a paper (R78, R85, R87) -/

theorem returnedTotal_eq (s : State) (p : Nat) : s.returnedTotal p =
    (((s.readable p).filter fun e => e.2.cand.state == .collected).map fun e => e.2.cand.returned.getD 0).sum :=
  sumOf_eq_sum _

theorem discrepancies_eq (s : State) (p : Nat) : s.discrepancies p =
    (((s.readable p).filter fun e => e.2.cand.state == .collected).filter fun e => e.2.cand.discrepancy).length := by
  rw [State.discrepancies, List.filter_filter]
  refine congrArg List.length (List.filter_congr fun e _ => ?_)
  rw [Bool.and_comm]

/-- The notices PAPER COLLECTED of a closed paper: one, unless a candidate of it is FINISHED (R136). -/
def State.collectedNotices (s : State) (p : Nat) : List Notice :=
  if (s.readable p).any fun e => e.2.cand.state == .finished then [] else
    [⟨.paperCollected, s.htb.time, [u8 p, u16 (((s.readable p).filter fun e => e.2.cand.state == .collected).map
        fun e => e.2.cand.returned.getD 0).sum,
      u16 (((s.readable p).filter fun e => e.2.cand.state == .collected).filter fun e => e.2.cand.discrepancy).length]⟩]

theorem paperCollectedTest_told (hc : s.clean = true) (hr : s.paper? p = some r) (hst : r.state = .closed)
    (hroom : s.sli.notices.length < 64) : paperCollectedTest p s = s.told (s.collectedNotices p) := by
  rw [paperCollectedTest, if_pos (paperIn_iff.mpr ⟨r, hr, hst⟩), readPaper_clean hc, State.collectedNotices]
  have all : ((s.readable p).all fun e => e.2.cand.state != .finished) =
      !(s.readable p).any fun e => e.2.cand.state == .finished := by
    rw [List.not_any_eq_all_not]
    rfl
  dsimp only
  rw [all]
  cases (s.readable p).any fun e => e.2.cand.state == .finished with
  | true => exact (told_nil s).symm
  | false =>
    rw [← returnedTotal_eq, ← discrepancies_eq]
    exact notify_told hroom _ _

theorem enterPaperState_closed (hr : s.paper? p = some r) (hroom : s.sli.notices.length < 64) :
    enterPaperState p .closed (requestPulse s) = { s with
      ssu := { s.ssu with
        papers := s.ssu.papers.put p { r with state := .closed }
        signal := if s.ssu.held then s.ssu.signal else .pulse 3 }
      sli := { s.sli with notices := s.sli.notices ++ [⟨.paperState, s.htb.time, [u8 p, u8 5, u24 s.htb.time]⟩] } } := by
  rw [requestPulse]
  split
  · exact enterPaperState_room hr hroom .closed
  · exact enterPaperState_room (s := { s with ssu := { s.ssu with signal := .pulse 3 } }) hr hroom .closed

/-- A paper that closes: its notice, the pulse, and PAPER COLLECTED where none of its candidates is FINISHED. -/
theorem closePaper_told (hc : s.clean = true) (hr : s.paper? p = some r) (hroom : s.sli.notices.length + 1 < 64) :
    closePaper p s = { s with
      ssu := { s.ssu with
        papers := s.ssu.papers.put p { r with state := .closed }
        signal := if s.ssu.held then s.ssu.signal else .pulse 3 }
      sli := { s.sli with notices := s.sli.notices ++
        ⟨.paperState, s.htb.time, [u8 p, u8 5, u24 s.htb.time]⟩ :: s.collectedNotices p } } := by
  rw [closePaper, enterPaperState_closed hr (Nat.lt_of_succ_lt hroom),
    paperCollectedTest_told (r := { r with state := .closed }) (by exact hc)
      (by exact paper?_withPaperRecord s p _) rfl
      (by simpa using hroom)]
  simp only [State.told, List.append_assoc, List.cons_append, List.nil_append]
  rfl

theorem paperCollectedTest_cases (hc : s.clean = true) (p : Nat) : paperCollectedTest p s = s
    ∨ ∃ l, paperCollectedTest p s = notify .paperCollected l s := by
  rw [paperCollectedTest, readPaper_clean hc]
  split
  · dsimp only
    split
    · exact .inr ⟨_, rfl⟩
    · exact .inl rfl
  · exact .inl rfl

/-- A closing paper, whatever room the queue of notices has. -/
theorem closePaper_keeps (hc : s.clean = true) (hr : s.paper? p = some r) (hh : s.ssu.held = false) :
    (closePaper p s).due = s.due ∧ (closePaper p s).paper? p = some { r with state := .closed }
      ∧ (closePaper p s).ssu.signal = .pulse 3 ∧ (closePaper p s).rsu = s.rsu ∧ (closePaper p s).hmu = s.hmu := by
  let u := enterPaperState p .closed (requestPulse s)
  have clean : u.clean = true := by
    rw [State.clean, enterPaperState_upsets, requestPulse_upsets]
    exact hc
  have entered : u.due = s.due ∧ u.paper? p = some { r with state := .closed } ∧ u.ssu.signal = .pulse 3
      ∧ u.rsu = s.rsu ∧ u.hmu = s.hmu := by
    have pulse : requestPulse s = { s with ssu := { s.ssu with signal := .pulse 3 } } := if_neg (by simp [hh])
    have ssu : u.ssu = { s.ssu with papers := s.ssu.papers.put p { r with state := .closed }, signal := .pulse 3 } := by
      refine (enterPaperState_ssu ..).trans ?_
      rw [pulse, modPaper_eq_withPaperRecord (by exact hr)]
      rfl
    refine ⟨by simp [u], ?_, by rw [ssu], by simp [u], by simp [u]⟩
    rw [State.paper?, ssu]
    exact (Table.find_put ..).trans (if_pos rfl)
  rw [closePaper]
  rcases paperCollectedTest_cases clean p with same | ⟨l, same⟩
  · rw [same]
    exact entered
  · rw [same, State.paper?, notify_ssu, notify_due, notify_rsu, notify_hmu]
    exact entered

theorem writingEndStep_open (hc : s.clean = true) (hr : s.paper? p = some r) (hst : r.state = .writing)
    (hel : r.elapsed = 60 * r.duration) (h : s.clocksOpen p = true) :
    writingEndStep p s = enterPaperState p .overtime s := by
  simp [writingEndStep, hr, Paper.writingEnds, hst, hel, readPaper_clean hc, h]

theorem writingEndStep_closed (hc : s.clean = true) (hr : s.paper? p = some r) (hst : r.state = .writing)
    (hel : r.elapsed = 60 * r.duration) (h : s.clocksOpen p = false) : writingEndStep p s = closePaper p s := by
  simp [writingEndStep, hr, Paper.writingEnds, hst, hel, readPaper_clean hc, h]

theorem readPaper_due (p : Nat) (s : State) : (readPaper p s).due = s.due :=
  foldl_keeps State.due (fun s k => readRecord_keeps (r := .candidate k) State.due
    (fun s a b i c => takeFault_due s a b i c) (fun _ => rfl) (fun _ _ => rfl) s) _ _

theorem readingStart_due (p : Nat) (s : State) : (readingStart p s).due = s.due := by
  simp only [readingStart, enterPaperState_due, giveClocks_eq, State.withSlots, modPaper_due, readPaper_due]

theorem readingStart_paper? (hr : s.paper? p = some r) :
    (readingStart p s).paper? p = some { r with state := .reading, readingLeft := 60 * r.reading } := by
  have before : (readPaper p s).paper? p = some r := by rwa [State.paper?, readPaper_ssu]
  rw [State.paper?]
  simp only [readingStart, enterPaperState_ssu]
  rw [modPaper_eq_withPaperRecord (r := { r with readingLeft := 60 * r.reading })]
  · exact paper?_withPaperRecord ..
  · rw [State.paper?, giveClocks_ssu, modPaper_eq_withPaperRecord before]
    exact paper?_withPaperRecord ..

/-- Settles O32. -/
theorem paperStepsOfTheSecond : Obligations.PaperStepsOfTheSecond := by
  unfold Obligations.PaperStepsOfTheSecond
  refine ⟨fun s p => ⟨fun h => congrArg Host.Outcome.next (takeDueNow_none h), fun h =>
      congrArg Host.Outcome.next (takeDueNow_none h), fun h => congrArg Host.Outcome.next (takeDueNow_none h), fun h =>
      congrArg Host.Outcome.next (takeDueNow_none h)⟩,
    fun s rest p r h hr hst hleft hc ht hroom hown => ?reading,
    fun s rest p r h hc ht hr hst hlate hel hadm hroom => ?admission,
    fun s rest p r h hc hr hst hel => ⟨fun hopen => ?overtime, fun hopen ht hroom => ?closed, fun hopen hh => ?closing⟩,
    fun s rest p r h hr => ⟨fun hst hh => ?held, fun hst hh hpos => ?startReading, fun hst hh h0 hc ht hroom hown => ?startWriting,
      fun hst => ?other⟩⟩
  case reading =>
    obtain ⟨-, -, slots, -, -⟩ := (State.tablesSorted_iff s).mp ht
    have step : takeDueNow (.readingEnd p) s = writingStart p { s with due := rest } := by
      refine (takeDueNow_front h).trans ?_
      simp only [takeDue, readingEndStep, show State.paper? { s with due := rest } p = some r from hr, hst, hleft]
      rfl
    have started := writingStart_started (s := { s with due := rest }) hr hc slots hroom hown
    exact ⟨_, congrArg Host.Outcome.next step, started.2, started.1⟩
  case admission =>
    obtain ⟨-, -, slots, -, -⟩ := (State.tablesSorted_iff s).mp ht
    have step : takeDueNow (.admissionCloses p) s = closeAdmission p { s with due := rest } := by
      refine (takeDueNow_front h).trans ?_
      simp only [takeDue, admissionClosesStep, show State.paper? { s with due := rest } p = some r from hr]
      exact if_pos (by simp [Paper.admissionEnds, hst, hel, hadm, hlate])
    have closed := (closeAdmission_eq (s := { s with due := rest }) hc slots p).trans (notify_told (by exact hroom) _ _)
    have find (k : Nat) : (closeAdmission p { s with due := rest }).slot? k = (s.slot? k).map fun x =>
        if x.expectedOf p then .write { x.cand with state := .absent } x.clock x.suspect else x :=
      slot?_of_mapAll (by rw [closed]; rfl) k
    rw [modPaper_eq_withPaperRecord (by exact hr)] at closed
    refine ⟨_, congrArg Host.Outcome.next step, by rw [closed]; rfl, by rw [closed]; rfl, ?_, fun k x hk hu hp hexp hsrc => ?_,
      fun k x hk hkeep => ?_, by rw [closed]; rfl, by rw [closed]; rfl, by rw [closed]; rfl, by rw [closed]; rfl,
      by rw [closed]; rfl, by rw [closed]; rfl⟩
    · rw [closed]
      simp only [Slot.expectedOf, Slot.readableOf, Slot.ofPaper, Bool.and_assoc]
      rfl
    · have absent : x.expectedOf p = true := by simp [Slot.expectedOf, Slot.readableOf_iff.mpr ⟨hu, hp⟩, hexp, hsrc]
      refine ⟨_, (find k).trans ((congrArg _ hk).trans (congrArg some (if_pos absent))), rfl, rfl⟩
    · refine (find k).trans ((congrArg _ hk).trans (congrArg some (if_neg fun absent => ?_)))
      simp only [Slot.expectedOf, Bool.and_eq_true, Slot.readableOf_iff, beq_iff_eq, Option.isNone_iff_eq_none] at absent
      obtain ⟨⟨hu, hp⟩, hexp, hsrc⟩ := absent
      rcases hkeep with h | h | h | h
      · simp [hu] at h
      · exact h hp
      · exact h hexp
      · simp [hsrc] at h
  case overtime =>
    refine congrArg Host.Outcome.next ((takeDueNow_front h).trans ((writingEndStep_open
      (s := { s with due := rest }) hc hr hst hel hopen).trans ?_))
    rw [enterPaperState, modPaper_eq_withPaperRecord (by exact hr)]
    rfl
  case closed =>
    refine congrArg Host.Outcome.next ((takeDueNow_front h).trans ((writingEndStep_closed
      (s := { s with due := rest }) hc hr hst hel hopen).trans ?_))
    exact closePaper_told (s := { s with due := rest }) hc hr hroom
  case closing =>
    refine ⟨_, congrArg Host.Outcome.next ((takeDueNow_front h).trans (writingEndStep_closed
      (s := { s with due := rest }) hc hr hst hel hopen)), closePaper_keeps (s := { s with due := rest }) hc hr hh⟩
  all_goals
    have scheduled : takeDueNow (.scheduledStart p) s = scheduledStartStep p { s with due := rest } := takeDueNow_front h
    simp only [scheduledStartStep, show State.paper? { s with due := rest } p = some r from hr] at scheduled
  case held =>
    simp only [hst, hh] at scheduled
    refine congrArg Host.Outcome.next (scheduled.trans (modPaper_eq_withPaperRecord (by exact hr) _))
  case startReading =>
    simp only [hst, hh] at scheduled
    refine ⟨_, congrArg Host.Outcome.next (scheduled.trans (makeStart_reading (by exact hr) hpos)), readingStart_due ..,
      readingStart_paper? hr, fun hc ht hroom => ?_⟩
    obtain ⟨-, -, slots, -, -⟩ := (State.tablesSorted_iff s).mp ht
    exact (readingStart_started (s := { s with due := rest }) hr hc slots hroom).1
  case startWriting =>
    obtain ⟨-, -, slots, -, -⟩ := (State.tablesSorted_iff s).mp ht
    simp only [hst, hh] at scheduled
    have started := writingStart_started (s := { s with due := rest }) hr hc slots hroom hown
    exact ⟨_, congrArg Host.Outcome.next (scheduled.trans (makeStart_writing (by exact hr) h0)), started.2, started.1⟩
  case other =>
    exact congrArg Host.Outcome.next (scheduled.trans (if_pos (by simpa using hst)))

end Sys2Proof.Machine

/-! PROOFS. Clocks, breaks and walk timers that run out at a hall second (O31): the slots that expire together, their
notices, the ring they join and the papers that close behind them. -/

namespace Sys2Proof.Machine

set_option Elab.async false

variable {s : State} {rest : List Due} {k p : Nat} {x : Slot} {r : Paper}

/-! ### A batch of finished slots -/

/-- The keys of the slots that meet a test. -/
def State.keysOf (s : State) (q : Nat × Slot → Bool) : List Nat := (s.rsu.slots.filter q).map Prod.fst

section
variable (hs : s.rsu.slots.sorted = true) (q : Nat × Slot → Bool)
include hs

theorem mem_keysOf (k : Nat) : k ∈ s.keysOf q ↔ ∃ x, s.slot? k = some x ∧ q (k, x) = true := Table.mem_keys_filter hs q k

theorem keysOf_nodup : (s.keysOf q).Nodup := Table.keys_nodup hs q

theorem filterMap_keysOf {α : Type} (F : Nat → Option Slot → Option α) :
    (s.keysOf q).filterMap (fun k => F k (s.slot? k)) = (s.rsu.slots.filter q).filterMap fun e => F e.1 (some e.2) := by
  rw [State.keysOf, List.filterMap_map]
  refine List.filterMap_congr fun e he => ?_
  rw [Function.comp, show s.slot? e.1 = some e.2 from (Table.mem_iff_find hs _ _).mp (List.mem_of_mem_filter he)]

theorem filterMap_finished {α : Type} (F : Nat → Option Slot → Option α) (why : FinishReason) (g : Slot → Clock) :
    (s.keysOf q).filterMap (fun k => F k ((s.finishedSlots (s.keysOf q) why g).slot? k)) =
      (s.rsu.slots.filter q).filterMap fun e => F e.1 (some (e.2.finished why g)) := by
  refine Eq.trans ?_ (filterMap_keysOf hs q fun k o => F k (o.map (Slot.finished why g)))
  refine List.filterMap_congr fun k hk => ?_
  rw [finishedSlots_slot? (keysOf_nodup hs q), if_pos hk]

/-- The entries a batch of finished slots hands off, in slot order. -/
theorem entries_finished (why : FinishReason) (g : Slot → Clock) :
    (s.keysOf q).filterMap (s.finishedSlots (s.keysOf q) why g).entryOf = (s.rsu.slots.filter q).filterMap fun e =>
      e.2.cand.seat.map fun n => (⟨n, e.1, why, e.2.cand.issued⟩ : Entry) := by
  have entry : (s.finishedSlots (s.keysOf q) why g).entryOf = fun k =>
      ((s.finishedSlots (s.keysOf q) why g).slot? k).bind fun x =>
        x.cand.seat.map fun n => (⟨n, k, x.cand.reason.getD .station, x.cand.issued⟩ : Entry) := by
    funext k
    rw [State.entryOf]
    cases (s.finishedSlots (s.keysOf q) why g).slot? k with
    | none => rfl
    | some x => cases h : x.cand.seat <;> simp [h]
  rw [entry]
  exact filterMap_finished hs q (fun k o => o.bind fun x =>
    x.cand.seat.map fun n => (⟨n, k, x.cand.reason.getD .station, x.cand.issued⟩ : Entry)) why g

/-- The notices UNSEATED FINISH of a batch, in slot order. -/
theorem unseated_finished (why : FinishReason) (g : Slot → Clock) :
    (s.keysOf q).filterMap (s.finishedSlots (s.keysOf q) why g).unseatedOf = (s.rsu.slots.filter q).filterMap fun e =>
      if e.2.cand.seat.isSome then none else
        some (⟨.unseatedFinish, s.htb.time, [u16 e.1, u32 e.2.cand.number, o8 (some why.ctorIdx)]⟩ : Notice) :=
  filterMap_finished hs q (fun k o => o.bind fun x => if x.cand.seat.isSome then none else
    some (⟨.unseatedFinish, s.htb.time, [u16 k, u32 x.cand.number, o8 (x.cand.reason.map FinishReason.ctorIdx)]⟩ : Notice)) why g

end

/-- A hand-off with no collector waiting, of entries that are not urgent: each zone's main ring takes its own. -/
theorem handOff_main {ks : List Nat} (hw : ∀ z, (s.ringsOf z).waiters = [])
    (hm : ∀ e ∈ s.handed ks, e.reason.urgent = false) : ∃ rings, handOff ks s = { s with clu := { s.clu with rings := rings } }
      ∧ ∀ z, (handOff ks s).ringsOf z = { s.ringsOf z with
        main := (s.ringsOf z).main ++ (s.handed ks).filter fun e => s.zoneOfSeat e.seat == z } := by
  rw [handOff_noWaiters fun e _ => hw _]
  obtain ⟨rings, joined⟩ := foldl_joinRing_rest (s.handed ks) s
  refine ⟨rings, joined, fun z => ?_⟩
  have urgent : s.joining z true (s.handed ks) = [] := by
    refine List.filter_eq_nil_iff.mpr fun e he => ?_
    simp [hm e he]
  have main : s.joining z false (s.handed ks) = (s.handed ks).filter fun e => s.zoneOfSeat e.seat == z := by
    refine List.filter_congr fun e he => ?_
    simp [hm e he]
  rw [ringsOf_foldl_joinRing, urgent, main, List.append_nil]

/-! ### The clocks that run out together (R84) -/

def Slot.ranOut (x : Slot) : Bool := !x.suspect && x.clock.state == .running && x.clock.remaining == 0

theorem Slot.ranOut_iff : x.ranOut = true ↔ x.suspect = false ∧ x.clock.state = .running ∧ x.clock.remaining = 0 := by
  simp [Slot.ranOut, and_assoc]

def Slot.expiredClock (x : Slot) : Clock := x.clock.ended .expired

/-- How many of these slots are of a paper. -/
def State.countOf (s : State) (ks : List Nat) (p : Nat) : Nat :=
  (ks.filter fun k => (s.slot? k).map (·.cand.paper) == some p).length

theorem countOf_finished {ks : List Nat} (hn : ks.Nodup) (why : FinishReason) (g : Slot → Clock) (ls : List Nat) (p : Nat) :
    (s.finishedSlots ks why g).countOf ls p = s.countOf ls p := by
  refine congrArg List.length (List.filter_congr fun k _ => ?_)
  rw [finishedSlots_slot? hn]
  split
  · cases s.slot? k <;> rfl
  · rfl

theorem countOf_keysOf (hs : s.rsu.slots.sorted = true) (q : Nat × Slot → Bool) (p : Nat) :
    s.countOf (s.keysOf q) p = ((s.rsu.slots.filter q).filter fun e => e.2.cand.paper == p).length := by
  rw [State.countOf, State.keysOf, List.filter_map, List.length_map]
  refine congrArg List.length (List.filter_congr fun e he => ?_)
  rw [Function.comp, show s.slot? e.1 = some e.2 from (Table.mem_iff_find hs _ _).mp (List.mem_of_mem_filter he)]
  rfl

theorem expireSlots_eq {ks : List Nat} (hn : ks.Nodup)
    (hroom : s.sli.notices.length + ((ks.filterMap (s.finishedSlots ks .expired Slot.expiredClock).unseatedOf).length
      + (s.papersOf ks).length) ≤ 64) : expireSlots ks s =
    (s.papersOf ks).foldl (fun s p => closeIfSettled p s) (handOff ks ((s.finishedSlots ks .expired Slot.expiredClock).told
      (ks.filterMap (s.finishedSlots ks .expired Slot.expiredClock).unseatedOf
        ++ (s.papersOf ks).map fun p => ⟨.expired, s.htb.time, [u8 p, u16 (s.countOf ks p)]⟩))) := by
  generalize hf : s.finishedSlots ks .expired Slot.expiredClock = f at hroom ⊢
  have notices : f.sli.notices = s.sli.notices := by rw [← hf]; rfl
  have expired (u : State) (hu : u.sli.notices.length + (s.papersOf ks).length ≤ 64) (hc : u.countOf ks = s.countOf ks) :
      (s.papersOf ks).foldl (fun u p => notify .expired [u8 p, u16 (u.countOf ks p)] u) u =
        u.told ((s.papersOf ks).map fun p => ⟨.expired, u.htb.time, [u8 p, u16 (s.countOf ks p)]⟩) := by
    rw [← hc, ← List.filterMap_eq_map]
    refine foldl_told (n := fun u p => some ⟨.expired, u.htb.time, [u8 p, u16 (u.countOf ks p)]⟩)
      (fun u p h => notify_told (by simpa using h) _ _) (fun _ _ _ => rfl) _ _ ?_
    simpa using hu
  have step : expireSlots ks s = (s.papersOf ks).foldl (fun s p => closeIfSettled p s) (handOff ks
      ((s.papersOf ks).foldl (fun u p => notify .expired [u8 p, u16 (u.countOf ks p)] u)
        (ks.foldl (fun s k => unseatedNotice k s) (finishSlots ks .expired Slot.expiredClock s)))) := rfl
  rw [step, finishSlots_eq, hf, foldl_unseated ks f (by rw [notices]; omega), expired, told_told]
  · rw [← hf]
    rfl
  · simp only [State.told, List.length_append, notices]
    omega
  · funext p
    rw [← hf]
    exact countOf_finished hn _ _ _ _

theorem dedup_nodup (l : List Nat) : (dedup l).Nodup := by
  induction l with
  | nil => exact .nil
  | cons a l ih => exact List.nodup_cons.mpr ⟨fun h => by simpa using List.of_mem_filter h, ih.filter _⟩

theorem mem_papersOf {ks : List Nat} : p ∈ s.papersOf ks ↔ ∃ k ∈ ks, ∃ x, s.slot? k = some x ∧ x.cand.paper = p := by
  rw [State.papersOf, (sortBy_perm id _).mem_iff, mem_dedup, List.mem_filterMap]
  simp only [Option.map_eq_some_iff]

/-- The notices of the clocks that run out together (R84). -/
def State.expiryNotices (s : State) : List Notice :=
  let out := s.rsu.slots.filter fun e => e.2.ranOut
  out.filterMap (fun e => if e.2.cand.seat.isSome then none else
      some ⟨.unseatedFinish, s.htb.time, [u16 e.1, u32 e.2.cand.number, o8 (some 1)]⟩)
    ++ (List.range 16).filterMap fun p =>
      let n := (out.filter fun e => e.2.cand.paper == p).length
      if n = 0 then none else some ⟨.expired, s.htb.time, [u8 p, u16 n]⟩

section
variable (hs : s.rsu.slots.sorted = true) (q : Nat × Slot → Bool)
include hs

theorem mem_papersOf_keysOf : p ∈ s.papersOf (s.keysOf q) ↔ ∃ e ∈ s.rsu.slots.filter q, e.2.cand.paper = p := by
  rw [mem_papersOf]
  constructor
  · rintro ⟨k, hk, x, hx, hp⟩
    obtain ⟨y, hy, hout⟩ := (mem_keysOf hs q k).mp hk
    obtain rfl := Option.some.inj (hx.symm.trans hy)
    exact ⟨(k, x), List.mem_filter.mpr ⟨(Table.mem_iff_find hs _ _).mpr hx, hout⟩, hp⟩
  · rintro ⟨e, he, hp⟩
    exact ⟨e.1, List.mem_map_of_mem he, e.2, (Table.mem_iff_find hs _ _).mp (List.mem_of_mem_filter he), hp⟩

theorem papersOf_keysOf (h : ∀ e ∈ s.rsu.slots.filter q, e.2.cand.paper < 16) : s.papersOf (s.keysOf q) =
    (List.range 16).filter fun p => !((s.rsu.slots.filter q).filter fun e => e.2.cand.paper == p).length == 0 := by
  have nodup : (s.papersOf (s.keysOf q)).Nodup := (sortBy_perm id _).nodup_iff.mpr (dedup_nodup _)
  refine List.Perm.eq_of_pairwise (le := (· ≤ ·)) (fun a b _ _ hab hba => Nat.le_antisymm hab hba)
    (sortBy_sorted id _) (List.pairwise_le_range.filter _) ?_
  refine (List.perm_ext_iff_of_nodup nodup (List.nodup_range.filter _)).mpr fun p => ?_
  rw [mem_papersOf_keysOf hs]
  simp only [List.mem_filter, List.mem_range, Bool.not_eq_true', beq_eq_false_iff_ne, ne_eq, List.length_eq_zero_iff,
    List.filter_eq_nil_iff, beq_iff_eq] at h ⊢
  push Not
  exact ⟨fun ⟨e, he, hp⟩ => ⟨hp ▸ h e he, e, he, hp⟩, And.right⟩

theorem expired_keysOf (h : ∀ e ∈ s.rsu.slots.filter q, e.2.cand.paper < 16) :
    ((s.papersOf (s.keysOf q)).map fun p => (⟨.expired, s.htb.time, [u8 p, u16 (s.countOf (s.keysOf q) p)]⟩ : Notice)) =
      (List.range 16).filterMap fun p =>
        let n := ((s.rsu.slots.filter q).filter fun e => e.2.cand.paper == p).length
        if n = 0 then none else some ⟨.expired, s.htb.time, [u8 p, u16 n]⟩ := by
  rw [papersOf_keysOf hs q h, ← List.filterMap_eq_map, List.filterMap_filter]
  refine List.filterMap_congr fun p _ => ?_
  rw [Function.comp, countOf_keysOf hs]
  generalize ((s.rsu.slots.filter q).filter fun e => e.2.cand.paper == p).length = n
  cases n <;> rfl

end

theorem expiryNotices_eq (hs : s.rsu.slots.sorted = true) (hp : ∀ e ∈ s.rsu.slots.filter fun e => e.2.ranOut, e.2.cand.paper < 16) :
    let ks := s.keysOf fun e => e.2.ranOut
    ks.filterMap (s.finishedSlots ks .expired Slot.expiredClock).unseatedOf
      ++ ((s.papersOf ks).map fun p => ⟨.expired, s.htb.time, [u8 p, u16 (s.countOf ks p)]⟩) = s.expiryNotices := by
  dsimp only
  rw [unseated_finished hs, expired_keysOf hs _ hp]
  rfl

theorem finishedSlots_nil (s : State) (why : FinishReason) (g : Slot → Clock) : s.finishedSlots [] why g = s := by
  have none : SheetException.queuedFor (s.numbersOf []) = id := by
    funext e
    simp [SheetException.queuedFor, State.numbersOf]
  rw [State.finishedSlots, none, List.map_id, Sal.leave_none fun _ _ => List.not_mem_nil]
  rfl

theorem expireSlots_nil (s : State) : expireSlots [] s = s := by
  have step : expireSlots [] s = finishSlots [] .expired Slot.expiredClock s := rfl
  rw [step, finishSlots_eq, finishedSlots_nil]

theorem clockExpiryStep_eq (s : State) : clockExpiryStep s = expireSlots (s.keysOf fun e => e.2.ranOut) s := by
  refine (show clockExpiryStep s = if (s.keysOf fun e => e.2.ranOut).isEmpty then s else
    expireSlots (s.keysOf fun e => e.2.ranOut) s from rfl).trans ?_
  split
  next h => rw [List.isEmpty_iff.mp h, expireSlots_nil]
  · rfl

/-- The entries of the clocks that run out together. -/
def State.expiryEntries (s : State) : List Entry := (s.rsu.slots.filter fun e => e.2.ranOut).filterMap fun e =>
  e.2.cand.seat.map fun n => (⟨n, e.1, .expired, e.2.cand.issued⟩ : Entry)

/-- The part behind a clock expiry where no collector waits, but for the papers that close. -/
def State.expiredTogether (s : State) (rings : Table Rings) : State :=
  { (s.finishedSlots (s.keysOf fun e => e.2.ranOut) .expired Slot.expiredClock).told s.expiryNotices with
    clu := { s.clu with rings := rings } }

theorem expireSlots_joined (hs : s.rsu.slots.sorted = true)
    (hp : ∀ e ∈ s.rsu.slots.filter fun e => e.2.ranOut, e.2.cand.paper < 16) (hw : ∀ z, (s.ringsOf z).waiters = [])
    (hroom : s.sli.notices.length + s.expiryNotices.length ≤ 64) : ∃ rings,
      clockExpiryStep s = (s.papersOf (s.keysOf fun e => e.2.ranOut)).foldl (fun s p => closeIfSettled p s)
        (s.expiredTogether rings)
      ∧ ∀ z, (s.expiredTogether rings).ringsOf z = { s.ringsOf z with
        main := (s.ringsOf z).main ++ (sortBy (·.seat) s.expiryEntries).filter fun e => s.zoneOfSeat e.seat == z } := by
  have notices := expiryNotices_eq hs hp
  have handed : ((s.finishedSlots (s.keysOf fun e => e.2.ranOut) .expired Slot.expiredClock).told s.expiryNotices).handed
      (s.keysOf fun e => e.2.ranOut) = sortBy (·.seat) s.expiryEntries :=
    congrArg (sortBy Entry.seat) (entries_finished hs _ .expired Slot.expiredClock)
  obtain ⟨rings, joined, hrings⟩ := handOff_main (ks := s.keysOf fun e => e.2.ranOut)
    (s := (s.finishedSlots (s.keysOf fun e => e.2.ranOut) .expired Slot.expiredClock).told s.expiryNotices) hw (by
      rw [handed]
      intro e he
      obtain ⟨o, -, ho⟩ := List.mem_filterMap.mp ((sortBy_perm _ _).mem_iff.mp he)
      obtain ⟨n, -, rfl⟩ := Option.map_eq_some_iff.mp ho
      rfl)
  rw [handed, joined] at hrings
  refine ⟨rings, ?_, hrings⟩
  rw [clockExpiryStep_eq, expireSlots_eq (keysOf_nodup hs _), notices, joined]
  · rfl
  · rw [← notices] at hroom
    simpa using hroom

/-! ### The papers that close behind a clock expiry -/

theorem notify_rest (kind : NoticeKind) (l : List Field) (s : State) : ∃ b, notify kind l s = { s with sli := b } := by
  rw [notify, joinQueue]
  split <;> exact ⟨_, rfl⟩

/-- With table memory clean a paper that may close changes the Session Unit and the notices alone. -/
theorem closeIfSettled_rest (hc : s.clean = true) (p : Nat) :
    ∃ a b, closeIfSettled p s = { s with ssu := a, sli := b } ∧ a.held = s.ssu.held := by
  rw [closeIfSettled, readPaper_clean hc]
  dsimp only
  split
  next =>
    split
    · exact ⟨_, _, rfl, rfl⟩
    · have entered : ∃ a b, enterPaperState p .closed (requestPulse s) = { s with ssu := a, sli := b }
          ∧ a.held = s.ssu.held := by
        rw [enterPaperState, requestPulse]
        split
        · obtain ⟨b, h⟩ := notify_rest .paperState [u8 p, u8 5, u24 s.htb.time]
            (modPaper p (fun r => { r with state := .closed }) s)
          exact ⟨_, b, h, rfl⟩
        · obtain ⟨b, h⟩ := notify_rest .paperState [u8 p, u8 5, u24 s.htb.time]
            (modPaper p (fun r => { r with state := .closed }) { s with ssu := { s.ssu with signal := .pulse 3 } })
          exact ⟨_, b, h, rfl⟩
      obtain ⟨a, b, h, held⟩ := entered
      rw [closePaper, h]
      rcases paperCollectedTest_cases (s := { s with ssu := a, sli := b }) hc p with same | ⟨l, same⟩
      · rw [same]
        exact ⟨a, b, rfl, held⟩
      · obtain ⟨c, hl⟩ := notify_rest .paperCollected l { s with ssu := a, sli := b }
        rw [same, hl]
        exact ⟨a, c, rfl, held⟩
  · exact ⟨_, _, rfl, rfl⟩

theorem foldl_closeIfSettled_rest (hc : s.clean = true) (ps : List Nat) :
    ∃ a b, ps.foldl (fun s p => closeIfSettled p s) s = { s with ssu := a, sli := b } ∧ a.held = s.ssu.held := by
  refine List.foldlRecOn (motive := fun u => ∃ a b, u = { s with ssu := a, sli := b } ∧ a.held = s.ssu.held) ps _
    ⟨s.ssu, s.sli, rfl, rfl⟩ ?_
  rintro _ ⟨a, b, rfl, held⟩ p -
  obtain ⟨c, d, h, kept⟩ := closeIfSettled_rest (s := { s with ssu := a, sli := b }) hc p
  exact ⟨c, d, h, kept.trans held⟩

theorem foldl_closeIfSettled_other {ps : List Nat} (h : ∀ p ∈ ps, ∀ r, s.paper? p = some r → r.state ≠ .overtime) :
    ps.foldl (fun s p => closeIfSettled p s) s = s := by
  refine List.foldlRecOn (motive := (· = s)) ps _ rfl ?_
  rintro _ rfl p hp
  exact closeIfSettled_other (h p hp)

theorem papersOf_one (hs : s.rsu.slots.sorted = true) {q : Nat × Slot → Bool} (hne : s.rsu.slots.filter q ≠ [])
    (h : ∀ e ∈ s.rsu.slots.filter q, e.2.cand.paper = p) : s.papersOf (s.keysOf q) = [p] := by
  have nodup : (s.papersOf (s.keysOf q)).Nodup := (sortBy_perm id _).nodup_iff.mpr (dedup_nodup _)
  have mem (a : Nat) : a ∈ s.papersOf (s.keysOf q) ↔ a = p := by
    rw [mem_papersOf_keysOf hs]
    obtain ⟨e, he⟩ := List.exists_mem_of_ne_nil _ hne
    exact ⟨fun ⟨o, ho, hp⟩ => hp ▸ h o ho, fun ha => ⟨e, he, ha ▸ h e he⟩⟩
  refine List.perm_singleton.mp ((List.perm_ext_iff_of_nodup nodup (List.nodup_singleton p)).mpr fun a => ?_)
  rw [mem, List.mem_singleton]

theorem keysOf_one (hs : s.rsu.slots.sorted = true) {q : Nat × Slot → Bool} (hk : s.slot? k = some x) (hq : q (k, x) = true)
    (h : ∀ j y, j ≠ k → s.slot? j = some y → q (j, y) = false) : s.keysOf q = [k] := by
  refine List.perm_singleton.mp ((List.perm_ext_iff_of_nodup (keysOf_nodup hs q) (List.nodup_singleton k)).mpr fun j => ?_)
  rw [mem_keysOf hs, List.mem_singleton]
  constructor
  · rintro ⟨y, hy, hout⟩
    by_contra hj
    simp [h j y hj hy] at hout
  · rintro rfl
    exact ⟨x, hk, hq⟩

/-- One unseated candidate's clock has run out, its paper not OVERTIME. -/
theorem expireSlots_unseated (hk : s.slot? k = some x) (hseat : x.cand.seat = none)
    (hp : ∀ p, s.paper? x.cand.paper = some p → p.state ≠ .overtime) (hroom : s.sli.notices.length + 1 < 64) :
    expireSlots [k] s = (s.finishedSlots [k] .expired Slot.expiredClock).told
      [⟨.unseatedFinish, s.htb.time, [u16 k, u32 x.cand.number, o8 (some 1)]⟩,
        ⟨.expired, s.htb.time, [u8 x.cand.paper, u16 1]⟩] := by
  have find : (s.finishedSlots [k] .expired Slot.expiredClock).slot? k = some (x.finished .expired Slot.expiredClock) := by
    rw [finishedSlots_slot? (List.nodup_singleton k), if_pos (List.mem_singleton.mpr rfl), hk]
    rfl
  have papers : s.papersOf [k] = [x.cand.paper] := by
    simp [State.papersOf, hk, dedup, sortBy, insertBy]
  have unseated : [k].filterMap (s.finishedSlots [k] .expired Slot.expiredClock).unseatedOf =
      [⟨.unseatedFinish, s.htb.time, [u16 k, u32 x.cand.number, o8 (some 1)]⟩] := by
    simp only [List.filterMap_cons, State.unseatedOf, find, Option.bind_some, Slot.finished, Slot.write, hseat]
    rfl
  have count : s.countOf [k] x.cand.paper = 1 := by
    simp [State.countOf, hk]
  rw [expireSlots_eq (List.nodup_singleton k), unseated, papers, handOff_unseated]
  · rw [List.map_cons, count, List.map_nil]
    exact foldl_closeIfSettled_other fun p hin => by
      rw [List.mem_singleton.mp hin]
      exact hp
  · intro y hy
    rw [← Option.some.inj (find.symm.trans hy)]
    exact hseat
  · rw [unseated, papers]
    exact hroom

theorem queuedFor_out (hs : s.rsu.slots.sorted = true) (q : Nat × Slot → Bool) (e : SheetException) :
    e.queuedFor (s.numbersOf (s.keysOf q)) = if e.reason == .earlySheet
      && (s.rsu.slots.filter q).any (fun o => e.decNumber == some o.2.cand.number) then { e with queued := true } else e := by
  have numbers : s.numbersOf (s.keysOf q) = (s.rsu.slots.filter q).map fun o => o.2.cand.number :=
    by
    refine (filterMap_keysOf hs q fun _ o => o.map (·.cand.number)).trans ?_
    rw [← List.filterMap_eq_map]
    rfl
  rw [SheetException.queuedFor, numbers, List.any_map]
  rfl

/-- A slot of a batch finished is written with its new record. -/
theorem finished_slot? (hu : x.suspect = false) (why : FinishReason) (g : Slot → Clock) :
    some (x.finished why g) = (s.withSlot k { x.cand with state := .finished, reason := some why, walk := none, source := none }
      (g x)).slot? k := by
  rw [slot?_withSlot, if_pos rfl, Slot.finished, hu]

/-! ### Clocks, breaks and walk timers (O31) -/

/-- Settles O31. -/
theorem clockStepsOfTheSecond : Obligations.ClockStepsOfTheSecond := by
  unfold Obligations.ClockStepsOfTheSecond
  refine ⟨⟨fun s d h => ⟨?_, ?_, ?_⟩, fun s rest k x h ht hk hu hst hrem hseat hother hp hroom => ?one,
    fun s rest k x h hk hu hst hb => ?overrun, fun s rest k x h hk hu hst hw => ?walk⟩,
    fun s rest h ht hc => ?all⟩
  · rintro rfl
    exact congrArg Host.Outcome.next (takeDueNow_none h)
  · rintro k rfl
    exact congrArg Host.Outcome.next (takeDueNow_none h)
  · rintro k rfl
    exact congrArg Host.Outcome.next (takeDueNow_none h)
  case one =>
    have slots := ((State.tablesSorted_iff s).mp ht).2.2.1
    have keys : s.keysOf (fun e => e.2.ranOut) = [k] := by
      refine keysOf_one slots hk (Slot.ranOut_iff.mpr ⟨hu, hst, hrem⟩) fun j y hj hy => Bool.eq_false_iff.mpr fun hout => ?_
      obtain ⟨hu', hst', hrem'⟩ := Slot.ranOut_iff.mp (show y.ranOut = true from hout)
      rcases hother j y hj hy with h | h | h
      · simp [hu'] at h
      · exact h hst'
      · exact h hrem'
    have step : takeDueNow .clockExpiry s = expireSlots [k] { s with due := rest } := by
      refine (takeDueNow_front h).trans ((clockExpiryStep_eq { s with due := rest }).trans ?_)
      rw [show State.keysOf { s with due := rest } _ = [k] from keys]
    have find (j : Nat) := finishedSlots_slot? (s := s) (List.nodup_singleton k) .expired Slot.expiredClock j
    refine ⟨_, _, congrArg Host.Outcome.next (step.trans (expireSlots_unseated (by exact hk) hseat hp hroom)), rfl,
      (find k).trans ((if_pos (List.mem_singleton.mpr rfl)).trans (congrArg _ hk)), rfl, rfl,
      fun j hj => (find j).trans (if_neg fun hin => hj (List.mem_singleton.mp hin)), rfl, rfl, rfl, rfl, rfl, rfl⟩
  case overrun =>
    refine congrArg Host.Outcome.next ((takeDueNow_front h).trans ?_)
    simp only [takeDue, breakOverrunStep, show State.slot? { s with due := rest } k = some x from hk]
    rw [if_neg (by simp [hu, hst, hb]), modClock_eq_withSlot hu (by exact hk)]
    rfl
  case walk =>
    refine congrArg Host.Outcome.next ((takeDueNow_front h).trans ?_)
    simp only [takeDue, notSeatedStep, show State.slot? { s with due := rest } k = some x from hk, hu, hst, hw]
    rfl
  case all =>
    intro out ks seated told hpaper hw hroom
    obtain ⟨-, -, slots, sorted, -⟩ := (State.tablesSorted_iff s).mp ht
    obtain ⟨rings, step, hrings⟩ := expireSlots_joined (s := { s with due := rest }) slots hpaper hw
      (hroom.trans (by decide))
    obtain ⟨a, b, closed, held⟩ := foldl_closeIfSettled_rest (s := State.expiredTogether { s with due := rest } rings) hc
      (State.papersOf { s with due := rest } (State.keysOf { s with due := rest } fun e => e.2.ranOut))
    have find (j : Nat) : ({ State.expiredTogether { s with due := rest } rings with ssu := a, sli := b } : State).slot? j =
        if j ∈ ks then (s.slot? j).map (Slot.finished .expired Slot.expiredClock) else s.slot? j :=
      finishedSlots_slot? (s := s) (keysOf_nodup slots _) .expired Slot.expiredClock j
    refine ⟨_, congrArg Host.Outcome.next ((takeDueNow_front h).trans (step.trans closed)), rfl,
      fun k x hk => ⟨fun hin => ?_, fun hout => ?_⟩, rfl, fun z => ?_, rfl, ?_, rfl, rfl, rfl, held, fun hother => ?_,
      fun p r hall hne hr hst => ?_⟩
    · obtain ⟨y, hy, hout⟩ := (mem_keysOf slots _ k).mp hin
      rw [Option.some.inj (hy.symm.trans hk)] at hout
      rw [find, if_pos hin, hk]
      exact finished_slot? (Slot.ranOut_iff.mp hout).1 _ _
    · rw [find, if_neg hout, hk]
    · have joined := hrings z
      have urgent := congrArg Rings.urgent joined
      have main := congrArg Rings.main joined
      have waiters := congrArg Rings.waiters joined
      refine ⟨urgent, waiters.trans (hw z), _, main, (sortBy_sorted _ _).filter _, (sortBy_perm _ _).filter _⟩
    · exact List.map_congr_left fun e _ => queuedFor_out slots _ e
    · rw [foldl_closeIfSettled_other] at closed
      · exact ⟨(congrArg State.sli closed).symm, (congrArg State.ssu closed).symm⟩
      · intro p hp r hr hst
        obtain ⟨o, ho, hpaper⟩ := (mem_papersOf_keysOf (s := s) slots _).mp hp
        exact hother (p, r) ((Table.mem_iff_find sorted _ _).mpr hr) hst o ho hpaper
    · have one : State.papersOf { s with due := rest } (State.keysOf { s with due := rest } fun e => e.2.ranOut) = [p] :=
        papersOf_one (s := s) slots hne hall
      rw [one, List.foldl_cons, List.foldl_nil] at closed
      have readable : ∀ k ∈ ks, ∀ x, s.slot? k = some x → x.suspect = false := fun k hk x hx => by
        obtain ⟨y, hy, hout⟩ := (mem_keysOf slots _ k).mp hk
        rw [Option.some.inj (hx.symm.trans hy)]
        exact (Slot.ranOut_iff.mp hout).1
      have clocks : (State.expiredTogether { s with due := rest } rings).clocksOpen p =
          !List.all s.rsu.slots fun e => ks.contains e.1 || e.2.clockDone p :=
        finishedSlots_clocksOpen slots (keysOf_nodup slots _) (g := Slot.expiredClock) readable (fun _ => rfl) p .expired
      have same : (List.all s.rsu.slots fun e => ks.contains e.1 || e.2.clockDone p) =
          List.all s.rsu.slots fun e => ks.contains e.1 || e.2.shadow.paper != some p ||
          (if e.2.suspect then e.2.shadow.clockNone else
            e.2.clock.state == .none || e.2.clock.state == .stopped || e.2.clock.state == .expired) := by
        simp only [Slot.clockDone, Bool.or_assoc]
      rw [same] at clocks
      obtain ⟨o, ho⟩ := List.exists_mem_of_ne_nil _ hne
      have finished := finishedSlots_readable (why := .expired) (g := Slot.expiredClock) slots (keysOf_nodup slots _)
        (List.mem_map_of_mem ho) ((Table.mem_iff_find slots _ _).mp (List.mem_of_mem_filter ho))
        (readable o.1 (List.mem_map_of_mem ho) o.2 ((Table.mem_iff_find slots _ _).mp (List.mem_of_mem_filter ho)))
      rw [hall o ho] at finished
      refine ⟨fun h => ?_, fun h => ?_⟩
      · rw [closeIfSettled_open (by exact hc) (by exact hr) hst (clocks.trans (congrArg not h))] at closed
        exact ⟨(congrArg State.sli closed).symm, (congrArg State.ssu closed).symm⟩
      · rw [closeIfSettled_closed (by exact hc) (by exact hr) hst (clocks.trans (congrArg not h)),
          closePaper_finished (by exact hc) (by exact hr) ?room (by exact finished)] at closed
        case room =>
          exact Nat.lt_succ_of_le ((List.length_append ..).trans_le hroom)
        exact ⟨(congrArg State.sli closed).symm, (congrArg State.ssu closed).symm⟩

end Sys2Proof.Machine

/-! PROOFS. END PAPER (O26): the candidates it finishes, the notices in the order of R88, and the rings they join. -/

namespace Sys2Proof.Machine

set_option Elab.async false

variable {s t u : State} {k p : Nat} {x : Slot} {r : Paper}

/-! ### Notices that join a queue, room or none -/

/-- The link `b` is `a` with these notices joined, if none was lost: there was room for all, or the lost flag is clear. -/
def Sli.Tells (l : List Notice) (a b : Sli) : Prop :=
  b.lost = false ∨ a.notices.length + l.length ≤ 64 → b = { a with notices := a.notices ++ l }

theorem Sli.Tells.refl (a : Sli) : Sli.Tells [] a a := fun _ => by rw [List.append_nil]

theorem Sli.Tells.trans {a b c : Sli} {l m : List Notice} (h : Sli.Tells l a b) (h' : Sli.Tells m b c) :
    Sli.Tells (l ++ m) a c := by
  intro kept
  rw [List.length_append] at kept
  have told : b = { a with notices := a.notices ++ l } := by
    refine kept.elim (fun lost => h (.inl ?_)) fun room => h (.inr (by omega))
    rw [h' (.inl lost)] at lost
    exact lost
  have then_ : c = { b with notices := b.notices ++ m } := by
    refine h' (kept.imp_right fun room => ?_)
    rw [told, List.length_append]
    omega
  rw [then_, told, List.append_assoc]

/-- `t` is `s` with these notices sent. -/
def State.Reports (l : List Notice) (s t : State) : Prop := ∃ b, t = { s with sli := b } ∧ s.sli.Tells l b

theorem State.Reports.refl (s : State) : s.Reports [] s := ⟨_, rfl, .refl _⟩

theorem State.Reports.trans {l m : List Notice} (h : s.Reports l t) (h' : t.Reports m u) : s.Reports (l ++ m) u := by
  obtain ⟨b, rfl, first⟩ := h
  obtain ⟨c, rfl, second⟩ := h'
  exact ⟨c, rfl, first.trans second⟩

theorem notify_reports (kind : NoticeKind) (l : List Field) (s : State) :
    s.Reports [⟨kind, s.htb.time, l⟩] (notify kind l s) := by
  rw [notify, joinQueue]
  split
  · exact ⟨_, rfl, fun _ => rfl⟩
  next full =>
    refine ⟨_, rfl, fun kept => kept.elim (fun lost => by cases lost) fun room => absurd ?_ full⟩
    simp only [List.length_singleton] at room
    simp only [Config.noticeLimit]
    omega

/-- A fold whose steps each send at most one notice, which no notice sent before changes. -/
theorem foldl_reports {α : Type} {f : State → α → State} {n : State → α → Option Notice}
    (hf : ∀ (u : State) a, u.Reports (n u a).toList (f u a)) (hn : ∀ (u : State) b a, n { u with sli := b } a = n u a) (l : List α) (s : State) :
    s.Reports (l.filterMap (n s)) (l.foldl f s) := by
  induction l generalizing s with
  | nil => exact .refl s
  | cons a l ih =>
    have split : (a :: l).filterMap (n s) = (n s a).toList ++ l.filterMap (n s) := by
      cases ha : n s a <;> simp [ha]
    rw [split, List.foldl_cons]
    obtain ⟨b, next, told⟩ := hf s a
    have tail := ih (f s a)
    rw [next, show n { s with sli := b } = n s from funext (hn s b), ← next] at tail
    exact .trans ⟨b, next, told⟩ tail

theorem unseatedNotice_reports (k : Nat) (s : State) : s.Reports (s.unseatedOf k).toList (unseatedNotice k s) := by
  unfold unseatedNotice State.unseatedOf
  cases s.slot? k with
  | none => exact .refl s
  | some x =>
    simp only [Option.bind_some]
    split
    · exact .refl s
    · exact notify_reports ..

theorem foldl_unseated_reports (ks : List Nat) (s : State) :
    s.Reports (ks.filterMap s.unseatedOf) (ks.foldl (fun s k => unseatedNotice k s) s) :=
  foldl_reports (fun u k => unseatedNotice_reports k u) (fun _ _ _ => rfl) ks s

theorem paperCollectedTest_reports (hc : s.clean = true) (hr : s.paper? p = some r) (hst : r.state = .closed) :
    s.Reports (s.collectedNotices p) (paperCollectedTest p s) := by
  rw [paperCollectedTest, if_pos (paperIn_iff.mpr ⟨r, hr, hst⟩), readPaper_clean hc, State.collectedNotices]
  have all : ((s.readable p).all fun e => e.2.cand.state != .finished) =
      !(s.readable p).any fun e => e.2.cand.state == .finished := by
    rw [List.not_any_eq_all_not]
    rfl
  dsimp only
  rw [all]
  cases (s.readable p).any fun e => e.2.cand.state == .finished with
  | true => exact .refl s
  | false =>
    rw [← returnedTotal_eq, ← discrepancies_eq]
    exact notify_reports ..

/-! ### Offers to waiting collectors -/

/-- `t` is `s` after some rounds were offered: the Collection Unit moved on, and each offer was told. -/
def State.Offers (s t : State) : Prop := ∃ c b, t = { s with clu := c, sli := b }
  ∧ ∃ l : List Notice, (∀ n ∈ l, n.kind = .roundOffered) ∧ s.sli.Tells l b

theorem State.Offers.refl (s : State) : s.Offers s := ⟨_, _, rfl, [], by simp, .refl _⟩

theorem State.Offers.trans (h : s.Offers t) (h' : t.Offers u) : s.Offers u := by
  obtain ⟨c, b, rfl, l, offered, told⟩ := h
  obtain ⟨c', b', rfl, m, offered', told'⟩ := h'
  refine ⟨c', b', rfl, l ++ m, fun n hn => ?_, told.trans told'⟩
  exact (List.mem_append.mp hn).elim (offered n) (offered' n)

theorem State.Offers.of_clu (s : State) (c : Clu) : s.Offers { s with clu := c } := ⟨c, _, rfl, [], by simp, .refl _⟩

theorem State.Offers.of_notify (l : List Field) (s : State) : s.Offers (notify .roundOffered l s) := by
  obtain ⟨b, h, told⟩ := notify_reports .roundOffered l s
  exact ⟨_, b, h, _, by simp, told⟩

theorem offerRounds_offers (z : Nat) (l : List Nat) (s : State) : s.Offers (offerRounds z l s) := by
  induction l generalizing s with
  | nil => exact .refl s
  | cons c l ih =>
    by_cases h : (s.ringsOf z).urgent = [] ∧ (s.ringsOf z).main = []
    · rw [offerRounds_empty h.1 h.2]
      exact .refl s
    · rw [offerRounds_cons h]
      refine (State.Offers.of_clu s _).trans ((State.Offers.of_notify _ _).trans (ih _))

theorem handOff_offers (ks : List Nat) (s : State) : s.Offers (handOff ks s) := by
  unfold handOff
  refine List.foldlRecOn (motive := s.Offers) _ _ ?_ fun t ht z _ => ht.trans (offerRounds_offers z _ t)
  obtain ⟨rings, joined⟩ := foldl_joinRing_rest (sortBy (·.seat) (ks.filterMap s.entryOf)) s
  rw [joined]
  exact .of_clu s _

/-! ### The slots of a paper as its end leaves them -/

def Slot.endedBy (p : Nat) (x : Slot) : Slot := if x.readableOf p && x.endsNow then x.finished .ended endedClock else x

def Slot.absented (p : Nat) (x : Slot) : Slot :=
  if x.expectedOf p then .write { x.cand with state := .absent } x.clock x.suspect else x

/-- A slot after END PAPER of a paper: finished, ABSENT where admission had not closed, or as it was. -/
def Slot.afterEnd (p : Nat) (r : Paper) (x : Slot) : Slot := if r.admClosed then x.endedBy p else (x.endedBy p).absented p

def Slot.endsWith (p : Nat) (e : Nat × Slot) : Bool := e.2.readableOf p && e.2.endsNow

theorem endedSlots_slots (hs : s.rsu.slots.sorted = true) (p : Nat) :
    (s.finishedSlots (s.keysOf (Slot.endsWith p)) .ended endedClock).rsu.slots =
      s.rsu.slots.mapAll fun _ x => x.endedBy p :=
  foldl_modify_filter hs (Slot.endsWith p) fun _ x => x.finished .ended endedClock

theorem takeEndPaper_suspect (hp : p < 16) (hr : s.paper? p = some r) (hc : s.clean = true) (hst : r.state ≠ .closed)
    (h : ∃ e ∈ s.rsu.slots, e.2.suspect = true ∧ e.2.shadow.paper = some p) : takeEndPaper p s = refuse s .suspect := by
  rw [takeEndPaper, withPaper_defined hp hr, if_neg (by simpa using hst), readPaper_clean hc]
  refine if_pos ?_
  obtain ⟨e, he, hu, hpaper⟩ := h
  exact List.any_eq_true.mpr ⟨e, he, by simp [hu, Slot.ofPaper, hpaper]⟩

/-- END PAPER of a paper that may end, as its steps follow one another. -/
theorem takeEndPaper_steps (hp : p < 16) (hr : s.paper? p = some r) (hc : s.clean = true) (hst : r.state ≠ .closed)
    (h : ∀ e ∈ s.rsu.slots, e.2.suspect = true → e.2.shadow.paper ≠ some p) : takeEndPaper p s =
      let ks := s.keysOf (Slot.endsWith p)
      let u := handOff ks (ks.foldl (fun s k => unseatedNotice k s) (s.finishedSlots ks .ended endedClock))
      let u := enterPaperState p .closed (modPaper p (fun r => { r with startPending := false }) (requestPulse u))
      let u := if r.admClosed then u else closeAdmission p u
      done (paperCollectedTest p (notify .ended [u8 p, u16 ks.length] u)) [u16 ks.length] := by
  rw [takeEndPaper, withPaper_defined hp hr, if_neg (by simpa using hst), readPaper_clean hc]
  refine (if_neg ?_).trans ?_
  · rw [Bool.not_eq_true, Table.any_eq_false]
    intro e he
    simpa [Slot.ofPaper] using h e he
  · have keys : ((s.readable p).filter fun e => e.2.endsNow).map (·.1) = s.keysOf (Slot.endsWith p) := by
      rw [State.keysOf, State.readable, List.filter_filter]
      refine congrArg _ (List.filter_congr fun e _ => ?_)
      simp only [Slot.endsWith, Slot.readableOf, Bool.and_comm]
    dsimp only
    rw [keys, finishEnded, finishSlots_eq]

/-! ### The end of a paper as a whole -/

/-- The part with a paper's candidates finished, given its slots and papers, the Collection Unit and the link. -/
def State.ending (s : State) (p : Nat) (slots : Table Slot) (papers : Table Paper) (c : Clu) (b : Sli) : State := { s with
  sli := b
  rsu := { s.rsu with slots := slots }
  sal := s.sal.leave (s.keysOf (Slot.endsWith p))
  ssu := { s.ssu with papers := papers, signal := if s.ssu.held then s.ssu.signal else .pulse 3 }
  clu := c
  mru := { s.mru with exceptions := s.mru.exceptions.map (SheetException.queuedFor (s.numbersOf (s.keysOf (Slot.endsWith p)))) } }

section
variable (slots slots' : Table Slot) (papers : Table Paper) (c : Clu) (b b' : Sli)

theorem ending_withPaperRecord (r : Paper) : (s.ending p slots papers c b).withPaperRecord p r =
    s.ending p slots (papers.put p r) c b := rfl

theorem ending_withSlots : (s.ending p slots papers c b).withSlots slots' = s.ending p slots' papers c b := rfl

theorem ending_sli : { s.ending p slots papers c b with sli := b' } = s.ending p slots papers c b' := rfl

end

/-- The part behind END PAPER, given the Collection Unit and the link. -/
def State.ended (s : State) (p : Nat) (r : Paper) (c : Clu) (b : Sli) : State :=
  s.ending p (s.rsu.slots.mapAll fun _ => Slot.afterEnd p r)
    (s.ssu.papers.put p { r with state := .closed, startPending := false, admClosed := true }) c b

/-- The notices that follow the hand-off of END PAPER. -/
def State.endNotices (s : State) (p : Nat) (r : Paper) : List Notice :=
  [⟨.paperState, s.htb.time, [u8 p, u8 5, u24 s.htb.time]⟩]
    ++ (if r.admClosed then [] else [⟨.absent, s.htb.time, [u8 p,
      u16 ((s.rsu.slots.mapAll fun _ => Slot.endedBy p).filter fun e => e.2.expectedOf p).length]⟩])
    ++ [⟨.ended, s.htb.time, [u8 p, u16 (s.keysOf (Slot.endsWith p)).length]⟩]
    ++ (s.ended p r s.clu s.sli).collectedNotices p

theorem closeAdmission_reports (hc : s.clean = true) (hs : s.rsu.slots.sorted = true) (hr : s.paper? p = some r) :
    State.Reports [⟨.absent, s.htb.time, [u8 p, u16 (s.rsu.slots.filter fun e => e.2.expectedOf p).length]⟩]
      ((s.withPaperRecord p { r with admClosed := true }).withSlots (s.rsu.slots.mapAll fun _ => Slot.absented p))
      (closeAdmission p s) := by
  rw [closeAdmission_eq hc hs, modPaper_eq_withPaperRecord hr]
  exact notify_reports ..

theorem enterPaperState_reports (hr : s.paper? p = some r) (st : PaperState) :
    State.Reports [⟨.paperState, s.htb.time, [u8 p, u8 st.ctorIdx, u24 s.htb.time]⟩]
      (s.withPaperRecord p { r with state := st }) (enterPaperState p st s) := by
  rw [enterPaperState, modPaper_eq_withPaperRecord hr]
  exact notify_reports ..

theorem requestPulse_eq (s : State) : requestPulse s =
    { s with ssu := { s.ssu with signal := if s.ssu.held then s.ssu.signal else .pulse 3 } } := by
  rw [requestPulse]
  split <;> rfl

theorem ending_begins (hr : s.paper? p = some r) (hs : s.rsu.slots.sorted = true) (c : Clu) (d : Sli) :
    modPaper p (fun r => { r with startPending := false }) (requestPulse
      { s.finishedSlots (s.keysOf (Slot.endsWith p)) .ended endedClock with clu := c, sli := d }) =
      s.ending p (s.rsu.slots.mapAll fun _ => Slot.endedBy p) (s.ssu.papers.put p { r with startPending := false }) c d := by
  rw [requestPulse_eq, modPaper_eq_withPaperRecord (by exact hr), ← endedSlots_slots hs p]
  rfl

/-- The close of the paper, and of its admission, behind the hand-off. -/
theorem ending_closes (hc : s.clean = true) (hs : s.rsu.slots.sorted = true) (c : Clu) (d : Sli) :
    ∃ b, (if r.admClosed then id else closeAdmission p) (enterPaperState p .closed (s.ending p
        (s.rsu.slots.mapAll fun _ => Slot.endedBy p) (s.ssu.papers.put p { r with startPending := false }) c d)) =
        s.ended p r c b
      ∧ d.Tells ([⟨.paperState, s.htb.time, [u8 p, u8 5, u24 s.htb.time]⟩]
        ++ (if r.admClosed then [] else [⟨.absent, s.htb.time, [u8 p,
          u16 ((s.rsu.slots.mapAll fun _ => Slot.endedBy p).filter fun e => e.2.expectedOf p).length]⟩])) b := by
  have put (t : Table Paper) (r' : Paper) : (t.put p r').find p = some r' := (Table.find_put ..).trans (if_pos rfl)
  obtain ⟨b, entered, told⟩ := enterPaperState_reports (p := p) (s := s.ending p (s.rsu.slots.mapAll fun _ => Slot.endedBy p)
    (s.ssu.papers.put p { r with startPending := false }) c d) (put ..) .closed
  rw [ending_withPaperRecord, ending_sli, Table.put_put] at entered
  rw [entered]
  by_cases ha : r.admClosed = true
  · rw [if_pos ha, if_pos ha]
    refine ⟨b, ?_, told⟩
    have after : Slot.afterEnd p r = Slot.endedBy p := funext fun x => if_pos ha
    rw [State.ended, after, ← ha]
    rfl
  · rw [if_neg ha, if_neg ha]
    obtain ⟨b', closed, told'⟩ := closeAdmission_reports (p := p) (s := s.ending p (s.rsu.slots.mapAll fun _ => Slot.endedBy p)
      (s.ssu.papers.put p { r with startPending := false, state := .closed }) c b) hc
      (Table.mapAll_sorted hs fun _ => Slot.endedBy p) (put ..)
    rw [ending_withPaperRecord, ending_withSlots, ending_sli, Table.put_put] at closed
    refine ⟨b', closed.trans ?_, told.trans told'⟩
    have after : Slot.afterEnd p r = fun x => (x.endedBy p).absented p := funext fun x => if_neg ha
    rw [State.ended, after]
    exact congrArg (fun slots => s.ending p slots _ c b') List.map_map

theorem takeEndPaper_course (hp : p < 16) (hr : s.paper? p = some r) (hc : s.clean = true)
    (hs : s.rsu.slots.sorted = true) (hst : r.state ≠ .closed)
    (h : ∀ e ∈ s.rsu.slots, e.2.suspect = true → e.2.shadow.paper ≠ some p) :
    let ks := s.keysOf (Slot.endsWith p)
    let f := s.finishedSlots ks .ended endedClock
    ∃ b c d, handOff ks { f with sli := b } = { f with clu := c, sli := d } ∧ s.sli.Tells (ks.filterMap f.unseatedOf) b
      ∧ (∃ l : List Notice, (∀ n ∈ l, n.kind = .roundOffered) ∧ b.Tells l d)
      ∧ ∃ e, d.Tells (s.endNotices p r) e
      ∧ takeEndPaper p s = done (s.ended p r c e) [u16 ks.length] := by
  dsimp only
  obtain ⟨b, unseated, hb⟩ := foldl_unseated_reports (s.keysOf (Slot.endsWith p))
    (s.finishedSlots (s.keysOf (Slot.endsWith p)) .ended endedClock)
  obtain ⟨c, d, joined, offers⟩ := handOff_offers (s.keysOf (Slot.endsWith p))
    { s.finishedSlots (s.keysOf (Slot.endsWith p)) .ended endedClock with sli := b }
  refine ⟨b, c, d, joined, hb, offers, ?_⟩
  rw [takeEndPaper_steps hp hr hc hst h]
  dsimp only
  rw [unseated, joined, ending_begins hr hs]
  obtain ⟨b₁, closed, told₁⟩ := ending_closes (r := r) (p := p) hc hs c d
  have admission (u : State) : (if r.admClosed then u else closeAdmission p u) =
      (if r.admClosed then id else closeAdmission p) u := by
    split <;> rfl
  rw [admission, closed]
  obtain ⟨b₂, ended, told₂⟩ := notify_reports .ended [u8 p, u16 (s.keysOf (Slot.endsWith p)).length] (s.ended p r c b₁)
  rw [ended]
  obtain ⟨b₃, collected, told₃⟩ := paperCollectedTest_reports (p := p) (s := s.ended p r c b₂) hc
    ((Table.find_put ..).trans (if_pos rfl)) rfl
  rw [show { s.ended p r c b₁ with sli := b₂ } = s.ended p r c b₂ from rfl, collected]
  exact ⟨b₃, (told₁.trans told₂).trans told₃, rfl⟩

/-! ### What END PAPER leaves of a slot -/

theorem ended_slot? (c : Clu) (b : Sli) (k : Nat) : (s.ended p r c b).slot? k = (s.slot? k).map (Slot.afterEnd p r) :=
  slot?_of_mapAll rfl k

theorem afterEnd_ends (hx : x.readableOf p = true) (h : x.endsNow = true) : x.afterEnd p r = x.finished .ended endedClock := by
  have ended : x.endedBy p = x.finished .ended endedClock := if_pos (by rw [hx, h]; rfl)
  have kept : (x.finished .ended endedClock).expectedOf p = false := by
    simp [Slot.expectedOf, Slot.finished, Slot.write]
  rw [Slot.afterEnd, ended, Slot.absented, kept]
  split <;> rfl

theorem afterEnd_stays (h : x.readableOf p = false ∨ x.endsNow = false) :
    x.afterEnd p r = if r.admClosed then x else x.absented p := by
  have ended : x.endedBy p = x := if_neg (by rcases h with h | h <;> simp [h])
  rw [Slot.afterEnd, ended]

theorem afterEnd_unreadable (h : x.readableOf p = false) : x.afterEnd p r = x := by
  have kept : x.absented p = x := if_neg (by simp [Slot.expectedOf, h])
  rw [afterEnd_stays (.inl h), kept]
  split <;> rfl

/-- A slot that END PAPER does not finish, its candidate not EXPECTED. -/
theorem afterEnd_other (h : x.endsNow = false) (hst : x.cand.state ≠ .expected) : x.afterEnd p r = x := by
  have kept : x.absented p = x := if_neg (by simp [Slot.expectedOf, hst])
  rw [afterEnd_stays (.inr h), kept]
  split <;> rfl

theorem expectedOf_endedBy : (x.endedBy p).expectedOf p =
    (x.readableOf p && (!x.endsNow && x.cand.state == .expected && x.cand.source.isNone)) := by
  rw [Slot.endedBy]
  split
  next h =>
    simp only [Bool.and_eq_true] at h
    simp [Slot.expectedOf, Slot.finished, Slot.write, h.2]
  next h => cases hx : x.readableOf p <;> cases he : x.endsNow <;> simp_all [Slot.expectedOf]

section
variable (hown : x.suspect = true ∨ x.shadow.paper = some x.cand.paper)
include hown

theorem readableOf_afterEnd : (x.afterEnd p r).readableOf p = x.readableOf p := by
  cases hx : x.readableOf p with
  | false => rw [afterEnd_unreadable hx, hx]
  | true =>
    obtain ⟨hu, hp⟩ := Slot.readableOf_iff.mp hx
    have paper : x.cand.paper = p := by
      rw [hu, hp] at hown
      exact (Option.some.inj (hown.resolve_left (by simp))).symm
    cases he : x.endsNow with
    | true =>
      rw [afterEnd_ends hx he]
      exact Slot.readableOf_iff.mpr ⟨hu, congrArg some paper⟩
    | false =>
      rw [afterEnd_stays (.inr he), Slot.absented]
      split
      · exact hx
      · split
        · exact Slot.readableOf_iff.mpr ⟨hu, congrArg some paper⟩
        · exact hx

end

theorem finished_afterEnd (hx : x.readableOf p = true) :
    ((x.afterEnd p r).cand.state == .finished) = (x.endsNow || x.cand.state == .finished) := by
  cases he : x.endsNow with
  | true =>
    rw [afterEnd_ends hx he]
    rfl
  | false =>
    by_cases hst : x.cand.state = .expected
    · rw [afterEnd_stays (.inr he), Slot.absented]
      split <;> (try split) <;> simp [Slot.write, hst]
    · rw [afterEnd_other he hst, Bool.false_or]

theorem collected_afterEnd (he : x.endsNow = false) :
    ((x.afterEnd p r).cand.state == .collected) = (x.cand.state == .collected) := by
  by_cases hst : x.cand.state = .expected
  · rw [afterEnd_stays (.inr he), Slot.absented]
    split <;> (try split) <;> simp [Slot.write, hst]
  · rw [afterEnd_other he hst]

/-! ### The notices of END PAPER -/

section
variable (hown : ∀ e ∈ s.rsu.slots, e.2.suspect = true ∨ e.2.shadow.paper = some e.2.cand.paper)
include hown

theorem readable_ended (c : Clu) (b : Sli) : (s.ended p r c b).readable p =
    (s.rsu.slots.filter fun e => e.2.readableOf p).map fun e => (e.1, e.2.afterEnd p r) := by
  have slots : (s.ended p r c b).readable p =
      (s.rsu.slots.map fun e => (e.1, e.2.afterEnd p r)).filter fun e => e.2.readableOf p := rfl
  rw [slots, List.filter_map]
  exact congrArg (List.map _) (List.filter_congr fun e he => readableOf_afterEnd (hown e he))

theorem collectedNotices_ended (c : Clu) (b : Sli) : (s.ended p r c b).collectedNotices p =
    let here := s.rsu.slots.filter fun e => e.2.readableOf p
    let collected := here.filter fun e => e.2.cand.state == .collected
    if here.any (fun e => e.2.endsNow || e.2.cand.state == .finished) then [] else
      [⟨.paperCollected, s.htb.time, [u8 p, u16 (collected.map fun e => e.2.cand.returned.getD 0).sum,
        u16 (collected.filter (·.2.cand.discrepancy)).length]⟩] := by
  have finished : (((s.ended p r c b).readable p).any fun e => e.2.cand.state == .finished) =
      (s.rsu.slots.filter fun e => e.2.readableOf p).any fun e => e.2.endsNow || e.2.cand.state == .finished := by
    rw [readable_ended hown, List.any_map, Bool.eq_iff_iff, List.any_eq_true, List.any_eq_true]
    refine exists_congr fun e => and_congr_right fun he => ?_
    rw [Function.comp, finished_afterEnd (List.mem_filter.mp he).2]
  rw [State.collectedNotices, finished]
  dsimp only
  by_cases h : ((s.rsu.slots.filter fun e => e.2.readableOf p).any fun e => e.2.endsNow || e.2.cand.state == .finished) = true
  · rw [if_pos h, if_pos h]
  · have collected : ((s.ended p r c b).readable p).filter (fun e => e.2.cand.state == .collected) =
        (s.rsu.slots.filter fun e => e.2.readableOf p).filter fun e => e.2.cand.state == .collected := by
      have stays : ∀ e ∈ s.rsu.slots.filter fun e => e.2.readableOf p, e.2.endsNow = false := fun e he =>
        Bool.eq_false_iff.mpr fun ends => h (List.any_eq_true.mpr ⟨e, he, by rw [ends]; rfl⟩)
      rw [readable_ended hown, List.filter_map]
      refine (congrArg _ (List.filter_congr fun e he => collected_afterEnd (stays e he))).trans ?_
      refine (List.map_congr_left fun e he => ?_).trans (List.map_id _)
      obtain ⟨he, hcoll⟩ := List.mem_filter.mp he
      rw [afterEnd_other (stays e he) (by simp_all)]
      rfl
    rw [if_neg h, if_neg h, collected]
    rfl

theorem endNotices_eq : s.endNotices p r =
    let here := s.rsu.slots.filter fun e => e.2.readableOf p
    let out := here.filter fun e => e.2.endsNow
    let collected := here.filter fun e => e.2.cand.state == .collected
    [⟨.paperState, s.htb.time, [u8 p, u8 5, u24 s.htb.time]⟩]
      ++ (if r.admClosed then [] else [⟨.absent, s.htb.time, [u8 p, u16 (here.filter fun e =>
        !e.2.endsNow && e.2.cand.state == .expected && e.2.cand.source.isNone).length]⟩])
      ++ [⟨.ended, s.htb.time, [u8 p, u16 out.length]⟩]
      ++ (if here.any (fun e => e.2.endsNow || e.2.cand.state == .finished) then [] else
        [⟨.paperCollected, s.htb.time, [u8 p, u16 (collected.map fun e => e.2.cand.returned.getD 0).sum,
          u16 (collected.filter (·.2.cand.discrepancy)).length]⟩]) := by
  have absent : ((s.rsu.slots.mapAll fun _ => Slot.endedBy p).filter fun e => e.2.expectedOf p).length =
      ((s.rsu.slots.filter fun e => e.2.readableOf p).filter fun e =>
        !e.2.endsNow && e.2.cand.state == .expected && e.2.cand.source.isNone).length := by
    rw [List.filter_filter]
    refine filter_mapAll_length s.rsu.slots _ fun e he => ?_
    rw [expectedOf_endedBy, Bool.and_comm]
  have out : (s.keysOf (Slot.endsWith p)).length =
      ((s.rsu.slots.filter fun e => e.2.readableOf p).filter fun e => e.2.endsNow).length := by
    rw [State.keysOf, List.length_map, List.filter_filter]
    refine congrArg _ (List.filter_congr fun e _ => ?_)
    rw [Slot.endsWith, Bool.and_comm]
  rw [State.endNotices, absent, out, collectedNotices_ended hown]

end

/-- Settles O26. -/
theorem endPaperFinishesItsCandidates : Obligations.EndPaperFinishesItsCandidates := by
  unfold Obligations.EndPaperFinishesItsCandidates
  refine ⟨fun s p hs hc ht => ⟨fun hp => ?_, fun hp hn => ?_, fun r hp hr => ⟨fun hst => ?_, fun hst h => ?_, fun hst h => ?_⟩⟩,
    fun s p r hs hc ht hp hr hst h hown => ?_⟩
  all_goals rw [exec_endPaper_ready hs]
  · rw [takeEndPaper, withPaper_outside hp, finishTaking_refuse]
  · rw [takeEndPaper, withPaper_undefined hp hn, finishTaking_refuse]
  · rw [takeEndPaper, withPaper_defined hp hr, if_pos (by simp [hst]), finishTaking_refuse]
  · rw [takeEndPaper_suspect hp hr hc hst h, finishTaking_refuse]
  · have slots := ((State.tablesSorted_iff s).mp ht).2.2.1
    obtain ⟨b, c, d, -, -, -, e, -, taken⟩ := takeEndPaper_course hp hr hc slots hst h
    have find := ended_slot? (s := s) (p := p) (r := r) c e
    rw [taken, finishTaking_done]
    have count : (s.keysOf (Slot.endsWith p)).length = (s.rsu.slots.filter fun e =>
        !e.2.suspect && e.2.shadow.paper == some p && e.2.endsNow).length := List.length_map ..
    rw [count]
    refine ⟨s.ended p r c e, rfl, (Table.find_put ..).trans (if_pos rfl), fun k x hx hu hp => ⟨fun ho => ?_, fun h0 hpres => ?_,
      fun h0 hexp hsrc => ?_⟩, fun k x hx hp => ?_, rfl, rfl, rfl, rfl⟩
    · have ends : x.endsNow = true := by rcases ho with h | h | h | h <;> simp [Slot.endsNow, h, ClockState.isOpen]
      have isOpen : x.clock.state.isOpen = true := by rcases ho with h | h | h | h <;> simp [h, ClockState.isOpen]
      refine ⟨_, (find k).trans ((congrArg _ hx).trans (congrArg some (afterEnd_ends (Slot.readableOf_iff.mpr ⟨hu, hp⟩) ends))),
        if_pos isOpen, rfl⟩
    · have ends : x.endsNow = true := by simp [Slot.endsNow, h0, x.cand.state.present_iff.mpr hpres]
      have clock : endedClock x = Clock.stoppedFor x.cand := if_neg (by simp [h0, ClockState.isOpen])
      refine ⟨_, (find k).trans ((congrArg _ hx).trans (congrArg some (afterEnd_ends (Slot.readableOf_iff.mpr ⟨hu, hp⟩) ends))),
        congrArg Clock.state clock, congrArg Clock.remaining clock, rfl⟩
    · have stays : x.endsNow = false := by simp [Slot.endsNow, h0, hexp, ClockState.isOpen, CandidateState.present]
      have expected : x.expectedOf p = true := by simp [Slot.expectedOf, Slot.readableOf_iff.mpr ⟨hu, hp⟩, hexp, hsrc]
      refine ⟨_, (find k).trans ((congrArg _ hx).trans (congrArg some (afterEnd_stays (.inr stays)))), ?_⟩
      split
      · exact ⟨rfl, by rw [← hexp]⟩
      · rw [Slot.absented, if_pos expected]
        exact ⟨rfl, rfl⟩
    · refine (find k).trans ((congrArg _ hx).trans (congrArg some (afterEnd_unreadable ?_)))
      simpa [Slot.readableOf, Slot.ofPaper] using fun _ => hp
  · have slots := ((State.tablesSorted_iff s).mp ht).2.2.1
    intro here out seated collected unseated after
    obtain ⟨b, c, d, joined, hb, ⟨offers, kind, hd⟩, e, he, taken⟩ := takeEndPaper_course hp hr hc slots hst h
    have keys : s.rsu.slots.filter (Slot.endsWith p) = out := by
      simp only [out, here]
      rw [List.filter_filter]
      exact List.filter_congr fun e _ => Bool.and_comm ..
    have unseated_eq : (s.keysOf (Slot.endsWith p)).filterMap
        (s.finishedSlots (s.keysOf (Slot.endsWith p)) .ended endedClock).unseatedOf = unseated := by
      rw [unseated_finished slots, keys]
      rfl
    have after_eq : s.endNotices p r = after := endNotices_eq hown
    rw [unseated_eq] at hb
    rw [after_eq] at he
    have count : (s.keysOf (Slot.endsWith p)).length = out.length := (List.length_map ..).trans (congrArg _ keys)
    rw [taken, finishTaking_done, count]
    have told : s.sli.Tells (unseated ++ offers ++ after) e := (hb.trans hd).trans he
    refine ⟨s.ended p r c e, rfl, rfl, fun _ lost => ⟨offers, kind, ?_⟩, fun hw => ?_⟩
    · refine (told (.inl lost)).trans ?_
      simp only [List.append_assoc]
    have entries := (entries_finished slots (Slot.endsWith p) .ended endedClock).trans
      (congrArg (List.filterMap _) keys)
    have handed : State.handed { s.finishedSlots (s.keysOf (Slot.endsWith p)) .ended endedClock with sli := b }
        (s.keysOf (Slot.endsWith p)) = sortBy (·.seat) seated := congrArg (sortBy Entry.seat) entries
    obtain ⟨rings, main, hrings⟩ := handOff_main (ks := s.keysOf (Slot.endsWith p))
      (s := { s.finishedSlots (s.keysOf (Slot.endsWith p)) .ended endedClock with sli := b }) hw (by
        rw [handed]
        intro e he
        obtain ⟨o, -, ho⟩ := List.mem_filterMap.mp ((sortBy_perm _ _).mem_iff.mp he)
        obtain ⟨n, -, rfl⟩ := Option.map_eq_some_iff.mp ho
        rfl)
    rw [handed, joined] at hrings
    have clu : c = { s.clu with rings := rings } := congrArg State.clu (joined.symm.trans main)
    have sli : d = b := congrArg State.sli (joined.symm.trans main)
    rw [sli] at he
    have collectors := congrArg Clu.collectors clu
    refine ⟨fun room => ?_, collectors, fun z => ?_⟩
    · have all := hb.trans he (.inr (by rw [List.length_append]; omega))
      refine all.trans ?_
      simp only [List.append_assoc]
    · have urgent := congrArg Rings.urgent (hrings z)
      have mains := congrArg Rings.main (hrings z)
      have waiters := congrArg Rings.waiters (hrings z)
      exact ⟨urgent, waiters.trans (hw z), _, mains, (sortBy_sorted _ _).filter _, (sortBy_perm _ _).filter _⟩

end Sys2Proof.Machine

/-! PROOFS. Collectors (O40): COLLECTOR ON, COLLECTOR OFF and TAKE ROUND. -/

namespace Sys2Proof.Machine

set_option Elab.async false

variable {s : State} {c d z : Nat} {ws : List Nat} {l : List Entry}

/-- Entries stand in the urgent ring of a zone: the first collector that waits gets its round, and no other is offered one,
because none waits or nothing is left. -/
theorem ringJoined_stops (h : s.ringsOf z = ⟨l, [], d :: ws⟩) (hl : l ≠ []) 
    (hstop : ws = [] ∨ l.length ≤ (s.collectorOf d).size) (hroom : s.sli.notices.length < 64) :
    ∃ t : State, ringJoined z s = t ∧ t.ringsOf z = ⟨l.drop (s.collectorOf d).size, [], ws⟩
      ∧ (∀ y, y ≠ z → t.ringsOf y = s.ringsOf y)
      ∧ t.collectorOf d = { s.collectorOf d with
          state := .round, zone := some z, round := l.take (s.collectorOf d).size, timer := some (s.collectorOf d).timeout }
      ∧ (∀ b, b ≠ d → t.collectorOf b = s.collectorOf b)
      ∧ t.sli = { s.sli with notices := s.sli.notices ++ [⟨.roundOffered, s.htb.time, [u8 d, u8 z] ++ t.roundFields d⟩] }
      ∧ t = { s with sli := t.sli, clu := t.clu } := by
  let given := setCollector d { s.collectorOf d with
      state := .round, zone := some z, round := l.take (s.collectorOf d).size, timer := some (s.collectorOf d).timeout }
    (setRings z ⟨l.drop (s.collectorOf d).size, [], ws⟩ s)
  have formed : formRound d z (setRings z { s.ringsOf z with waiters := ws } s) = given := by
    rw [formRound_eq h, List.append_nil, List.drop_nil]
  have rings : given.ringsOf z = ⟨l.drop (s.collectorOf d).size, [], ws⟩ := (ringsOf_setRings ..).trans (if_pos rfl)
  have offered : ringJoined z s = given.told [⟨.roundOffered, s.htb.time, [u8 d, u8 z] ++ given.roundFields d⟩] := by
    rw [ringJoined_cons h (.inl hl), formed, notify_told (by exact hroom), ringJoined_emptied]
    · rfl
    · rw [told_ringsOf, rings]
      exact hstop.imp_right fun h => ⟨List.drop_eq_nil_iff.mpr h, rfl⟩
  refine ⟨_, offered, rings, fun y hy => (ringsOf_setRings ..).trans (if_neg hy),
    (collectorOf_setCollector ..).trans (if_pos rfl), fun b hb => (collectorOf_setCollector ..).trans (if_neg hb), rfl, rfl⟩

theorem clampTo_eq (low high n : Nat) (h : low ≤ high) : clampTo low high n = max low (min high n) := by
  unfold clampTo
  split
  · omega
  · split <;> omega

theorem takeCollectorOn_badValue {l : List Nat} {n t : Option Nat} (h : 8 ≤ c ∨ l = [] ∨ (∃ z ∈ l, 8 ≤ z) ∨ ¬l.Nodup) :
    takeCollectorOn c l n t s = refuse s .badValue := by
  refine if_pos ?_
  have twice : ¬l.Nodup ↔ distinct l = false := by rw [← distinct_iff_nodup, Bool.not_eq_true]
  simp only [Bool.or_eq_true, decide_eq_true_eq, List.isEmpty_iff, Bool.not_eq_true', List.all_eq_false, Nat.not_lt, ← twice]
  simpa only [Config.collectorCount, Config.zoneCount, or_assoc] using h

section
variable {l : List Nat} {n t : Option Nat} (hc : c < 8) (hl : l ≠ []) (hz : ∀ z ∈ l, z < 8) (hd : l.Nodup)
include hc hl hz hd

theorem collectorOn_inRange :
    ¬(Config.collectorCount ≤ c || l.isEmpty || !l.all (· < Config.zoneCount) || !distinct l) = true := by
  simp only [Bool.or_eq_true, decide_eq_true_eq, List.isEmpty_iff, Bool.not_eq_true', List.all_eq_false, Nat.not_lt,
    ← Bool.not_eq_true (distinct l), distinct_iff_nodup, hl, hd, not_true_eq_false, or_false]
  rintro (h | ⟨z, hin, h⟩)
  · exact absurd hc (Nat.not_lt.mpr h)
  · exact absurd (hz z hin) (Nat.not_lt.mpr h)

theorem takeCollectorOn_wrongState (h : (s.collectorOf c).state = .waiting ∨ (s.collectorOf c).state = .round) :
    takeCollectorOn c l n t s = refuse s .wrongState := by
  rw [takeCollectorOn, if_neg (collectorOn_inRange hc hl hz hd)]
  refine if_pos ?_
  simpa using h

theorem takeCollectorOn_on (h : (s.collectorOf c).state = .off ∨ (s.collectorOf c).state = .idle) :
    takeCollectorOn c l n t s =
      let size := max 1 (min 12 (n.getD 8))
      let timeout := max 60 (min 1800 (t.getD 300))
      doneOr (size != n.getD 8 || timeout != t.getD 300) (setCollector c { s.collectorOf c with
        state := .idle, zones := l, size := size, timeout := timeout } s)
        (u8 l.length :: l.map u8 ++ [u8 size, u16 timeout]) := by
  rw [takeCollectorOn, if_neg (collectorOn_inRange hc hl hz hd)]
  have free : ((s.collectorOf c).state == .waiting || (s.collectorOf c).state == .round) = false := by
    rcases h with h | h <;> simp [h]
  simp only [free, clampTo_eq 1 12 _ (by decide), clampTo_eq 60 1800 _ (by decide), listField]
  rw [show (l.flatMap fun z => [u8 z]) = l.map u8 from (List.map_eq_flatMap ..).symm]
  rfl

end

/-! ### COLLECTOR OFF (R131) -/

/-- A round given back by a collector that stops, before anyone is offered it. -/
def State.givenBack (s : State) (c z : Nat) : State := setCollector c .initial
  (setRings z { s.ringsOf z with urgent := (s.collectorOf c).round ++ (s.ringsOf z).urgent } s)

theorem seatsField_eq (l : List Entry) : listField (fun e : Entry => [u16 e.seat]) l =
    u8 l.length :: l.map fun e => u16 e.seat := by
  rw [listField, List.map_eq_flatMap]

theorem takeCollectorOff_out (hc : 8 ≤ c) : takeCollectorOff c s = refuse s .badValue := if_pos hc

section
variable (hc : c < 8)
include hc

theorem takeCollectorOff_free (h : (s.collectorOf c).state = .off ∨ (s.collectorOf c).state = .idle) :
    takeCollectorOff c s = done (setCollector c .initial s)
      (listField (fun e : Entry => [u16 e.seat]) (s.collectorOf c).round) := by
  rw [takeCollectorOff, if_neg (show ¬Config.collectorCount ≤ c from Nat.not_le.mpr hc)]
  dsimp only
  rcases h with h | h <;> rw [h]

theorem takeCollectorOff_waiting (h : (s.collectorOf c).state = .waiting) (hz : (s.collectorOf c).zone = some z) :
    takeCollectorOff c s = done (stopWaiting c z (setCollector c .initial s))
      (listField (fun e : Entry => [u16 e.seat]) (s.collectorOf c).round) := by
  rw [takeCollectorOff, if_neg (show ¬Config.collectorCount ≤ c from Nat.not_le.mpr hc)]
  dsimp only
  rw [h, hz]
  rfl

theorem takeCollectorOff_round (h : (s.collectorOf c).state = .round) (hz : (s.collectorOf c).zone = some z) :
    takeCollectorOff c s = done (ringJoined z (s.givenBack c z))
      (u8 (s.collectorOf c).round.length :: (s.collectorOf c).round.map fun e => u16 e.seat) := by
  rw [takeCollectorOff, if_neg (show ¬Config.collectorCount ≤ c from Nat.not_le.mpr hc)]
  dsimp only
  rw [h, hz, ← seatsField_eq]
  rfl

end

theorem ringsOf_givenBack (c z y : Nat) (s : State) : (s.givenBack c z).ringsOf y =
    if y = z then { s.ringsOf z with urgent := (s.collectorOf c).round ++ (s.ringsOf z).urgent } else s.ringsOf y :=
  ringsOf_setRings ..

theorem collectorOf_givenBack (c z d : Nat) (s : State) : (s.givenBack c z).collectorOf d =
    if d = c then .initial else s.collectorOf d := collectorOf_setCollector ..

/-! ### TAKE ROUND (R123) -/

theorem takeTakeRound_out (h : 8 ≤ c ∨ 8 ≤ z) : takeTakeRound c z s = refuse s .badValue := by
  refine if_pos ?_
  rw [Bool.or_eq_true, decide_eq_true_eq, decide_eq_true_eq]
  exact h

section
variable (hc : c < 8) (hz : z < 8)
include hc hz

theorem takeTakeRound_inRange : ¬(Config.collectorCount ≤ c || Config.zoneCount ≤ z) = true := by
  rw [Bool.or_eq_true, decide_eq_true_eq, decide_eq_true_eq]
  exact fun h => h.elim (Nat.not_le.mpr hc) (Nat.not_le.mpr hz)

theorem takeTakeRound_undefined (h : s.zone? z = none) : takeTakeRound c z s = refuse s .notFound := by
  rw [takeTakeRound, if_neg (takeTakeRound_inRange hc hz)]
  simp [h]

variable (hd : (s.zone? z).isSome = true)
include hd

theorem takeTakeRound_wrongState (h : (s.collectorOf c).state ≠ .idle) : takeTakeRound c z s = refuse s .wrongState := by
  rw [takeTakeRound, if_neg (takeTakeRound_inRange hc hz)]
  simp [Option.isSome_iff_ne_none.mp hd, h]

theorem takeTakeRound_conflict (h : (s.collectorOf c).state = .idle) (hn : z ∉ (s.collectorOf c).zones) :
    takeTakeRound c z s = refuse s .conflict := by
  rw [takeTakeRound, if_neg (takeTakeRound_inRange hc hz)]
  simp [Option.isSome_iff_ne_none.mp hd, h, hn]

theorem takeTakeRound_given (h : (s.collectorOf c).state = .idle) (hin : z ∈ (s.collectorOf c).zones) :
    takeTakeRound c z s = done (giveRound c z s) ((giveRound c z s).collectorState c :: (giveRound c z s).roundFields c) := by
  rw [takeTakeRound, if_neg (takeTakeRound_inRange hc hz)]
  simp [Option.isSome_iff_ne_none.mp hd, h, hin]

end

theorem giveRound_waits (hu : (s.ringsOf z).urgent = []) (hm : (s.ringsOf z).main = []) : giveRound c z s =
    setCollector c { s.collectorOf c with state := .waiting, zone := some z, expired := [] }
      (setRings z ⟨[], [], (s.ringsOf z).waiters ++ [c]⟩ s) := by
  have empty : (State.ringsOf (setCollector c { s.collectorOf c with expired := [] } s) z) = ⟨[], [], (s.ringsOf z).waiters⟩ := by
    refine (show _ = s.ringsOf z from rfl).trans ?_
    cases h : s.ringsOf z
    simp_all
  simp only [giveRound, empty, collectorOf_setCollector, if_true]
  simp [setCollector, setRings, Table.put_put]

theorem giveRound_forms (h : (s.ringsOf z).urgent ≠ [] ∨ (s.ringsOf z).main ≠ []) : giveRound c z s =
    formRound c z (setCollector c { s.collectorOf c with expired := [] } s) := by
  refine if_neg ?_
  rw [Bool.and_eq_true, List.isEmpty_iff, List.isEmpty_iff]
  exact fun empty => h.elim (fun h => h empty.1) fun h => h empty.2

/-- Settles O40. -/
theorem collectorRequests : Obligations.CollectorRequests := by
  unfold Obligations.CollectorRequests
  refine ⟨fun s c hs => ⟨fun l n t h => ?_, fun l n t hc hl hz hd => ⟨fun h => ?_, fun h => ?_⟩, fun h => ⟨?_, fun z => ?_⟩,
    fun hc h => ?_, fun z hc h hz h0 => ?_, fun z hc h hz => ⟨fun hw => ?_, fun d ws hr hdc hl hsize hstop hroom => ?_⟩,
    fun z hc hz => ⟨fun h => ?_, fun hd => ⟨fun h => ?_, fun h hn => ?_, fun h hin => ⟨fun hu hm => ?_, fun hne => ?_⟩⟩⟩⟩,
    fun s c z hs hc => ⟨fun hz => ?_, fun h hz => ?_⟩⟩
  · rw [exec_collectorOn_ready hs, takeCollectorOn_badValue h, finishTaking_refuse]
  · rw [exec_collectorOn_ready hs, takeCollectorOn_wrongState hc hl hz hd h, finishTaking_refuse]
  · rw [exec_collectorOn_ready hs, takeCollectorOn_on hc hl hz hd h, finishTaking_doneOr]
  · rw [exec_collectorOff_ready hs, takeCollectorOff_out h, finishTaking_refuse]
  · rw [exec_takeRound_ready hs, takeTakeRound_out (.inl h), finishTaking_refuse]
  · rw [exec_collectorOff_ready hs, takeCollectorOff_free hc h, finishTaking_done]
    rfl
  · rw [exec_collectorOff_ready hs, takeCollectorOff_waiting hc h hz, h0, finishTaking_done]
    rfl
  · rw [exec_collectorOff_ready hs, takeCollectorOff_round hc h hz, finishTaking_done]
    have unwaited : (s.givenBack c z).ringsOf z = _ := (ringsOf_givenBack ..).trans (if_pos rfl)
    rw [ringJoined_noWaiter ((congrArg Rings.waiters unwaited).trans hw)]
    refine ⟨_, rfl, (ringsOf_givenBack ..).trans (if_pos rfl), fun y hy => (ringsOf_givenBack ..).trans (if_neg hy),
      (collectorOf_givenBack ..).trans (if_pos rfl), fun d hd => (collectorOf_givenBack ..).trans (if_neg hd), rfl, rfl, rfl⟩
  · have rings : (s.givenBack c z).ringsOf z = ⟨(s.collectorOf c).round, [], d :: ws⟩ := by
      rw [ringsOf_givenBack, if_pos rfl, hr, List.append_nil]
    have waiter : (s.givenBack c z).collectorOf d = s.collectorOf d := (collectorOf_givenBack ..).trans (if_neg hdc)
    rw [← waiter] at hstop
    obtain ⟨t, joined, hzone, hother, hfirst, hrest, hsli, hsame⟩ := ringJoined_stops rings hl hstop hroom
    rw [waiter] at hzone hfirst
    rw [exec_collectorOff_ready hs, takeCollectorOff_round hc h hz, finishTaking_done]
    refine ⟨t, congrArg (fun u : State => Host.Outcome.next (u.replied 97 _)) joined, hzone, fun y hy => ?_, ?_, hfirst,
      fun b hbc hbd => ?_, hsli, ?_, ?_⟩
    · exact (hother y hy).trans ((ringsOf_givenBack ..).trans (if_neg hy))
    · exact (hrest c hdc.symm).trans ((collectorOf_givenBack ..).trans (if_pos rfl))
    · exact (hrest b hbd).trans ((collectorOf_givenBack ..).trans (if_neg hbc))
    · rw [hsame]
      rfl
    · rw [hsame]
      rfl
  · rw [exec_takeRound_ready hs, takeTakeRound_undefined hc hz h, finishTaking_refuse]
  · rw [exec_takeRound_ready hs, takeTakeRound_wrongState hc hz hd h, finishTaking_refuse]
  · rw [exec_takeRound_ready hs, takeTakeRound_conflict hc hz hd h hn, finishTaking_refuse]
  · have state : (giveRound c z s).collectorOf c = { s.collectorOf c with state := .waiting, zone := some z, expired := [] } := by
      rw [giveRound_waits hu hm, collectorOf_setCollector, if_pos rfl]
    have code : (giveRound c z s).collectorState c = u8 2 := by
      rw [State.collectorState, state]
      rfl
    rw [exec_takeRound_ready hs, takeTakeRound_given hc hz hd h hin, finishTaking_done, code]
    refine ⟨_, rfl, state, ?_⟩
    rw [giveRound_waits hu hm]
    exact ⟨(ringsOf_setRings ..).trans (if_pos rfl), fun y hy => (ringsOf_setRings ..).trans (if_neg hy),
      fun d hd => (collectorOf_setCollector ..).trans (if_neg hd), rfl⟩
  · have size : (State.collectorOf (setCollector c { s.collectorOf c with expired := [] } s) c) =
        { s.collectorOf c with expired := [] } := (collectorOf_setCollector ..).trans (if_pos rfl)
    have rings (y : Nat) : (setCollector c { s.collectorOf c with expired := [] } s).ringsOf y = s.ringsOf y := rfl
    have state : (giveRound c z s).collectorOf c = { s.collectorOf c with
        state := .round, zone := some z, expired := [], timer := some (s.collectorOf c).timeout
        round := ((s.ringsOf z).urgent ++ (s.ringsOf z).main).take (s.collectorOf c).size } := by
      rw [giveRound_forms hne, collectorOf_formRound, if_pos rfl, size, rings, ← take_append_take]
    have code : (giveRound c z s).collectorState c = u8 3 := by
      rw [State.collectorState, state]
      rfl
    rw [exec_takeRound_ready hs, takeTakeRound_given hc hz hd h hin, finishTaking_done, code]
    refine ⟨_, rfl, state, ?_⟩
    rw [giveRound_forms hne]
    refine ⟨?_, fun y hy => ?_, fun d hd => ?_, rfl⟩
    · rw [ringsOf_formRound, if_pos rfl, size, rings, drop_take_length]
    · rw [ringsOf_formRound, if_neg hy, rings]
    · rw [collectorOf_formRound, if_neg hd, collectorOf_setCollector, if_neg hd]
  · rw [exec_takeRound_ready hs, takeTakeRound_out (.inr hz), finishTaking_refuse]
  · rw [exec_collectorOff_ready hs, takeCollectorOff_round hc h hz, finishTaking_done]
    rfl

end Sys2Proof.Machine

/-! PROOFS. A candidate collected, and PAPER COLLECTED behind it (R128, R129, R136); DEFER and COLLECT DIRECT (O41). -/

namespace Sys2Proof.Machine

set_option Elab.async false

variable {s t u : State} {c k n p z : Nat} {x y : Slot} {r : Seat} {e : Entry}

/-! ### A paper's candidates with one slot written -/

theorem Table.put_perm {α : Type} {t : Table α} (h : t.sorted = true) (k : Nat) (a : α) :
    (t.put k a).Perm ((k, a) :: t.filter fun e => e.1 != k) := by
  have nodup {t : Table α} (h : t.sorted = true) : List.Nodup t :=
    List.Nodup.of_map Prod.fst (by simpa using Table.keys_nodup h fun _ => true)
  refine (List.perm_ext_iff_of_nodup (nodup (Table.put_sorted h ..)) ?_).mpr fun e => ?_
  · refine List.nodup_cons.mpr ⟨fun hin => ?_, (nodup h).filter _⟩
    simpa using List.of_mem_filter hin
  · obtain ⟨j, b⟩ := e
    rw [Table.mem_iff_find (Table.put_sorted h ..), Table.find_put, List.mem_cons, List.mem_filter,
      Table.mem_iff_find h]
    by_cases hj : j = k
    · simp [hj, eq_comm]
    · simp [hj]

/-- The readable candidates of a paper but for one slot. -/
def State.othersOf (s : State) (k p : Nat) : List (Nat × Slot) :=
  s.rsu.slots.filter fun e => e.1 != k && !e.2.suspect && e.2.shadow.paper == some p

theorem readable_put (hs : s.rsu.slots.sorted = true) (ht : t.rsu.slots = s.rsu.slots.put k y) (hy : y.suspect = false)
    (hp : y.shadow.paper = some p) : (t.readable p).Perm ((k, y) :: s.othersOf k p) := by
  have split := (Table.put_perm hs k y).filter fun e => !e.2.suspect && e.2.ofPaper p
  rw [List.filter_cons_of_pos (by simp [hy, Slot.ofPaper, hp]), List.filter_filter] at split
  rw [State.readable, ht]
  refine split.trans (.cons _ (.of_eq (List.filter_congr fun e _ => ?_)))
  rw [Bool.and_comm, Bool.and_assoc, Slot.ofPaper]

/-- PAPER COLLECTED of a paper one of whose slots has just been written COLLECTED. -/
theorem collectedNotices_put (hs : s.rsu.slots.sorted = true) (ht : t.rsu.slots = s.rsu.slots.put k y)
    (hy : y.suspect = false) (hp : y.shadow.paper = some p) (hst : y.cand.state = .collected) :
    t.collectedNotices p =
      let collected := (s.othersOf k p).filter fun e => e.2.cand.state == .collected
      if ∀ e ∈ s.othersOf k p, e.2.cand.state ≠ .finished then
        [⟨.paperCollected, t.htb.time, [u8 p,
          u16 ((collected.map fun e => e.2.cand.returned.getD 0).sum + y.cand.returned.getD 0),
          u16 ((collected.filter (·.2.cand.discrepancy)).length + y.cand.discrepancy.toNat)]⟩]
      else [] := by
  have perm := readable_put hs ht hy hp
  have finished : ((t.readable p).any fun e => e.2.cand.state == .finished) = true ↔
      ¬∀ e ∈ s.othersOf k p, e.2.cand.state ≠ .finished := by
    rw [List.any_eq_true]
    push Not
    constructor
    · rintro ⟨e, he, hfin⟩
      refine ⟨e, (List.mem_cons.mp (perm.mem_iff.mp he)).resolve_left fun h => ?_, by simpa using hfin⟩
      rw [h] at hfin
      simp [hst] at hfin
    · rintro ⟨e, he, hfin⟩
      exact ⟨e, perm.mem_iff.mpr (List.mem_cons_of_mem _ he), by simpa using hfin⟩
  have collected := perm.filter fun e => e.2.cand.state == .collected
  rw [List.filter_cons_of_pos (by simp [hst])] at collected
  have total := (collected.map fun e => e.2.cand.returned.getD 0).sum_eq
  rw [List.map_cons, List.sum_cons, Nat.add_comm] at total
  have differing := (collected.filter fun e => e.2.cand.discrepancy).length_eq
  rw [List.filter_cons] at differing
  have count : (((t.readable p).filter fun e => e.2.cand.state == .collected).filter fun e => e.2.cand.discrepancy).length =
      (((s.othersOf k p).filter fun e => e.2.cand.state == .collected).filter fun e => e.2.cand.discrepancy).length
        + y.cand.discrepancy.toNat := by
    rw [differing]
    cases y.cand.discrepancy <;> rfl
  simp only [State.collectedNotices, finished, total, count, ite_not]

/-! ### A candidate collected (R128, R133) -/

/-- A candidate as its collection leaves it. -/
def Candidate.collectedWith (c : Candidate) (expected returned : Nat) : Candidate :=
  { c with
    state := .collected, seat := none, returned := some returned
    discrepancy := c.discrepancy || returned != expected }

/-- The notice DISCREPANCY of a slot, its seat labelled as it last was. -/
def State.discrepancyNotice (s : State) (k : Nat) (x : Slot) (expected returned : Nat) : Notice :=
  let last := if x.cand.seat = none then none else x.cand.lastSeat
  ⟨.discrepancy, s.htb.time, [u16 k, u32 x.cand.number, u8 x.cand.paper, o16 last] ++ s.labelFields last
    ++ [u8 expected, u8 returned]⟩

theorem collectCandidate_reports {expected returned : Nat} (hk : s.slot? k = some x) (hu : x.suspect = false) :
    State.Reports (if returned != expected then [s.discrepancyNotice k x expected returned] else [])
      (s.withSlot k (x.cand.collectedWith expected returned) x.clock) (collectCandidate k expected returned s) := by
  have written : modCand k (fun c => c.collectedWith expected returned) s =
      s.withSlot k (x.cand.collectedWith expected returned) x.clock := modSlot_eq_withSlot hk hu _ id
  have last : (if x.cand.seat.isSome then x.cand.lastSeat else none) = if x.cand.seat = none then none else x.cand.lastSeat := by
    cases x.cand.seat <;> rfl
  have steps : collectCandidate k expected returned s = if returned == expected then
        modCand k (fun c => c.collectedWith expected returned) s
      else notify .discrepancy (s.discrepancyNotice k x expected returned).fields
        (modCand k (fun c => c.collectedWith expected returned) s) := by
    simp only [collectCandidate, hk, last]
    rfl
  rw [steps, written]
  by_cases h : returned = expected
  · simp only [h, beq_self_eq_true, bne_self_eq_false, if_true]
    exact .refl _
  · simp only [beq_eq_false_iff_ne.mpr h, bne_iff_ne.mpr h, if_true]
    exact notify_reports ..

theorem paperCollectedTest_all (hc : s.clean = true) : s.Reports
    (if (s.paper? p).map (·.state) = some .closed then s.collectedNotices p else []) (paperCollectedTest p s) := by
  by_cases h : (s.paper? p).map (·.state) = some .closed
  · obtain ⟨r, hr, hst⟩ := Option.map_eq_some_iff.mp h
    rw [if_pos h]
    exact paperCollectedTest_reports hc hr hst
  · rw [if_neg h, paperCollectedTest, if_neg (by simpa [State.paperIn] using h)]
    exact .refl s

/-- The notices of a collection, DISCREPANCY and PAPER COLLECTED. -/
def State.collectionNotices (s : State) (k : Nat) (x : Slot) (expected returned : Nat) : List Notice :=
  let collected := (s.othersOf k x.cand.paper).filter fun e => e.2.cand.state == .collected
  (if returned != expected then [s.discrepancyNotice k x expected returned] else [])
    ++ if (s.paper? x.cand.paper).map (·.state) = some .closed ∧ ∀ e ∈ s.othersOf k x.cand.paper, e.2.cand.state ≠ .finished then
      [⟨.paperCollected, s.htb.time, [u8 x.cand.paper, u16 ((collected.map fun e => e.2.cand.returned.getD 0).sum + returned),
        u16 ((collected.filter (·.2.cand.discrepancy)).length + (x.cand.discrepancy || returned != expected).toNat)]⟩]
    else []

theorem collection_reports {expected returned : Nat} (hc : s.clean = true) (hs : s.rsu.slots.sorted = true)
    (hk : s.slot? k = some x) (hu : x.suspect = false) : State.Reports (s.collectionNotices k x expected returned)
      (s.withSlot k (x.cand.collectedWith expected returned) x.clock)
      (paperCollectedTest x.cand.paper (collectCandidate k expected returned s)) := by
  obtain ⟨b, collected, told⟩ := collectCandidate_reports (expected := expected) (returned := returned) hk hu
  rw [collected]
  refine State.Reports.trans ⟨b, rfl, told⟩ ?_
  have notices := collectedNotices_put (p := x.cand.paper) (y := .write (x.cand.collectedWith expected returned) x.clock false)
    (t := { s.withSlot k (x.cand.collectedWith expected returned) x.clock with sli := b }) hs rfl rfl rfl rfl
  have test := paperCollectedTest_all (p := x.cand.paper)
    (s := { s.withSlot k (x.cand.collectedWith expected returned) x.clock with sli := b }) hc
  rw [notices] at test
  dsimp only at test
  rw [← ite_and] at test
  exact test

theorem notify_grows (kind : NoticeKind) (l : List Field) (s : State) :
    ∃ rest, (notify kind l s).sli.notices = s.sli.notices ++ rest := by
  rw [notify, joinQueue]
  split
  · exact ⟨_, rfl⟩
  · exact ⟨[], (List.append_nil _).symm⟩

/-- A collection whatever the form of the tables: the slot written, and some notices. -/
theorem collection_some {expected returned : Nat} (hc : s.clean = true) (hk : s.slot? k = some x) (hu : x.suspect = false) :
    ∃ b, paperCollectedTest x.cand.paper (collectCandidate k expected returned s) =
        { s.withSlot k (x.cand.collectedWith expected returned) x.clock with sli := b }
      ∧ (returned ≠ expected → s.sli.notices.length < 64 →
        ∃ rest, b.notices = s.sli.notices ++ s.discrepancyNotice k x expected returned :: rest) := by
  obtain ⟨a, collected, told⟩ := collectCandidate_reports (expected := expected) (returned := returned) hk hu
  obtain ⟨b, tested, rest, grown⟩ : ∃ b, paperCollectedTest x.cand.paper (collectCandidate k expected returned s) =
      { s.withSlot k (x.cand.collectedWith expected returned) x.clock with sli := b }
      ∧ ∃ rest, b.notices = a.notices ++ rest := by
    rw [collected]
    rcases paperCollectedTest_cases (s := { s.withSlot k (x.cand.collectedWith expected returned) x.clock with sli := a })
      hc x.cand.paper with same | ⟨l, same⟩
    · exact ⟨a, same, [], (List.append_nil _).symm⟩
    · obtain ⟨c, noted⟩ := notify_rest .paperCollected l
        { s.withSlot k (x.cand.collectedWith expected returned) x.clock with sli := a }
      obtain ⟨rest, grown⟩ := notify_grows .paperCollected l
        { s.withSlot k (x.cand.collectedWith expected returned) x.clock with sli := a }
      rw [noted] at grown
      exact ⟨c, same.trans noted, rest, grown⟩
  refine ⟨b, tested, fun differs room => ⟨rest, ?_⟩⟩
  rw [if_pos (bne_iff_ne.mpr differs)] at told
  rw [grown, told (.inr (by exact room)), List.append_assoc]
  rfl

/-! ### COLLECT DIRECT (R133) -/

theorem takeCollectDirect_out {v : Nat} (h : 576 ≤ k) : takeCollectDirect k v s = refuse s .badValue := if_pos h

section
variable {v : Nat} (hc : s.clean = true) (hlt : k < 576)
include hlt

theorem collectDirect_inRange : ¬Config.slotCount ≤ k := Nat.not_le.mpr hlt

include hc

theorem takeCollectDirect_unused (h : s.slot? k = none) : takeCollectDirect k v s = refuse s .notFound := by
  simp [takeCollectDirect, collectDirect_inRange hlt, readSlot_clean hc, h]

variable (hk : s.slot? k = some x)
include hk

theorem takeCollectDirect_suspect (hu : x.suspect = true) : takeCollectDirect k v s = refuse s .suspect := by
  simp [takeCollectDirect, collectDirect_inRange hlt, readSlot_clean hc, hk, hu]

variable (hu : x.suspect = false)
include hu

theorem takeCollectDirect_wrongState (h : x.cand.state ≠ .finished ∨ x.cand.seat.isSome = true) :
    takeCollectDirect k v s = refuse s .wrongState := by
  have refused : (x.cand.state != .finished || x.cand.seat.isSome) = true := by simpa using h
  simp [takeCollectDirect, collectDirect_inRange hlt, readSlot_clean hc, hk, hu, refused]

theorem takeCollectDirect_collects (hst : x.cand.state = .finished) (hseat : x.cand.seat = none) :
    takeCollectDirect k v s = doneOr (8 < v)
      (paperCollectedTest x.cand.paper (collectCandidate k x.cand.issued (min v 8) s))
      [u32 x.cand.number, u8 x.cand.issued, u8 (min v 8), flag (min v 8 != x.cand.issued)] := by
  simp [takeCollectDirect, collectDirect_inRange hlt, readSlot_clean hc, hk, hu, hst, hseat]

end

/-! ### DEFER (R130) -/

theorem takeDefer_out (h : 8 ≤ c ∨ 511 < n) : takeDefer c n s = refuse s .badValue := by
  refine if_pos ?_
  rw [Bool.or_eq_true, decide_eq_true_eq, decide_eq_true_eq]
  exact h

theorem missing_eq (q : Collector) (n : Nat) : q.missing n = if n ∈ q.expired then .roundExpired else .notInRound := by
  simp [Collector.missing]

theorem entryAt_none {q : Collector} (h : ∀ e ∈ q.round, e.seat ≠ n) : q.entryAt n = none := by
  simpa [Collector.entryAt] using h

theorem without_eq (q : Collector) (e : Entry) : q.without e =
    if (q.round.filter fun x => x.slot != e.slot) = [] then { q with state := .idle, zone := none, round := [], timer := none }
    else { q with round := q.round.filter fun x => x.slot != e.slot } := by
  simp only [Collector.without, Collector.withRound, List.isEmpty_iff, Collector.idled]

theorem without_round (q : Collector) (e : Entry) : (q.without e).round = q.round.filter fun x => x.slot != e.slot := by
  rw [without_eq]
  split
  next h => exact h.symm
  · rfl

theorem without_idle {q : Collector} (h : q.state = .round) (e : Entry) :
    (q.without e).state = .idle ↔ (q.without e).round = [] := by
  rw [without_round, without_eq]
  split
  next h => simp [h]
  next h' => simp [h, h']

section
variable (hcol : c < 8) (hn : n ≤ 511)
include hcol hn

theorem defer_inRange : ¬(Config.collectorCount ≤ c || 511 < n) = true := by
  rw [Bool.or_eq_true, decide_eq_true_eq, decide_eq_true_eq]
  exact fun h => h.elim (Nat.not_le.mpr hcol) (Nat.not_lt.mpr hn)

theorem takeDefer_off (h : (s.collectorOf c).state = .off) : takeDefer c n s = refuse s .wrongState := by
  simp [takeDefer, defer_inRange hcol hn, h]

theorem takeDefer_missing (h : (s.collectorOf c).state ≠ .off) (hno : ∀ e ∈ (s.collectorOf c).round, e.seat ≠ n) :
    takeDefer c n s = refuse s (if n ∈ (s.collectorOf c).expired then .roundExpired else .notInRound) := by
  simp [takeDefer, defer_inRange hcol hn, h, entryAt_none hno, missing_eq]

/-- The part with an entry deferred, before anyone is offered it. -/
def State.deferred (s : State) (c z : Nat) (e : Entry) : State :=
  setCollector c ((s.collectorOf c).without e) (setRings z { s.ringsOf z with main := (s.ringsOf z).main ++ [e] } s)

theorem takeDefer_deferred (h : (s.collectorOf c).state = .round) (hz : (s.collectorOf c).zone = some z)
    (he : (s.collectorOf c).round.find? (fun e => e.seat == n) = some e) : takeDefer c n s =
      done (ringJoined z (s.deferred c z e)) [u8 ((ringJoined z (s.deferred c z e)).collectorOf c).state.ctorIdx] := by
  rw [takeDefer, if_neg (defer_inRange hcol hn)]
  simp [h, hz, Collector.entryAt, he]
  rfl

end

theorem ringsOf_deferred (c z y : Nat) (e : Entry) (s : State) : (s.deferred c z e).ringsOf y =
    if y = z then { s.ringsOf z with main := (s.ringsOf z).main ++ [e] } else s.ringsOf y := ringsOf_setRings ..

theorem collectorOf_deferred (c z d : Nat) (e : Entry) (s : State) : (s.deferred c z e).collectorOf d =
    if d = c then (s.collectorOf c).without e else s.collectorOf d := collectorOf_setCollector ..

/-- Settles O41. -/
theorem deferAndDirectCollection : Obligations.DeferAndDirectCollection := by
  unfold Obligations.DeferAndDirectCollection
  refine ⟨fun s hs => ⟨fun c n => ⟨fun h => ?_, fun hcol hn => ⟨fun h => ?_, fun h hno => ?_, fun e z h hz he hw => ?_⟩,
    fun e z d ws hcol hn h hz he hr hdc hsize hroom => ?_⟩, fun k v hc => ⟨fun h => ?_, fun hlt h => ?_, fun x hlt hk =>
    ⟨fun hu => ?_, fun hu h => ?_, fun hu hst hseat => ?_⟩⟩⟩, fun s c n z e hs hcol hn h hz he => ?_,
    fun s k v x hs hc ht hlt hk hu hst hseat hroom => ?_⟩
  · rw [exec_defer_ready hs, takeDefer_out h, finishTaking_refuse]
  · rw [exec_defer_ready hs, takeDefer_off hcol hn h, finishTaking_refuse]
  · rw [exec_defer_ready hs, takeDefer_missing hcol hn h hno, finishTaking_refuse]
  · have rings : (s.deferred c z e).ringsOf z = _ := (ringsOf_deferred ..).trans (if_pos rfl)
    have own : (s.deferred c z e).collectorOf c = _ := (collectorOf_deferred ..).trans (if_pos rfl)
    rw [exec_defer_ready hs, takeDefer_deferred hcol hn h hz he, finishTaking_done,
      ringJoined_noWaiter ((congrArg Rings.waiters rings).trans hw)]
    refine ⟨_, rfl, rings, (congrArg Collector.round own).trans (without_round ..), ?_,
      fun d hd => (collectorOf_deferred ..).trans (if_neg hd), rfl, rfl, rfl⟩
    rw [own]
    exact without_idle h e
  · have rings : (s.deferred c z e).ringsOf z = ⟨[], [e], d :: ws⟩ := by
      rw [ringsOf_deferred, if_pos rfl, hr]
      rfl
    have own : (s.deferred c z e).collectorOf c = _ := (collectorOf_deferred ..).trans (if_pos rfl)
    have waiter : (s.deferred c z e).collectorOf d = s.collectorOf d := (collectorOf_deferred ..).trans (if_neg hdc)
    obtain ⟨t, joined, rest, hzone, hother, hfirst, hrest⟩ := ringJoined_one (.inr rings) (by rwa [waiter])
    rw [waiter] at hfirst
    have told : ringJoined z (s.deferred c z e) = t.told [⟨.roundOffered, t.htb.time, [u8 d, u8 z] ++ t.roundFields d⟩] := by
      rw [joined, notify_told]
      rw [rest]
      exact hroom
    have kept : t.collectorOf c = (s.collectorOf c).without e := (hrest c hdc.symm).trans own
    rw [exec_defer_ready hs, takeDefer_deferred hcol hn h hz he, finishTaking_done, told]
    refine ⟨_, rfl, hzone, (congrArg Collector.round kept).trans (without_round ..), ?_, hfirst, fun b hbc hbd => ?_, ?_, ?_, ?_, ?_⟩
    · rw [told_collectorOf, kept]
      exact without_idle h e
    · exact (hrest b hbd).trans ((collectorOf_deferred ..).trans (if_neg hbc))
    · rw [rest]
      rfl
    all_goals
      rw [rest]
      rfl
  · rw [exec_collectDirect_ready hs, takeCollectDirect_out h, finishTaking_refuse]
  · rw [exec_collectDirect_ready hs, takeCollectDirect_unused hc hlt h, finishTaking_refuse]
  · rw [exec_collectDirect_ready hs, takeCollectDirect_suspect hc hlt hk hu, finishTaking_refuse]
  · rw [exec_collectDirect_ready hs, takeCollectDirect_wrongState hc hlt hk hu h, finishTaking_refuse]
  · obtain ⟨b, collected, told⟩ := collection_some (expected := x.cand.issued) (returned := min v 8) hc hk hu
    rw [exec_collectDirect_ready hs, takeCollectDirect_collects hc hlt hk hu hst hseat, finishTaking_doneOr, collected]
    have label : s.discrepancyNotice k x x.cand.issued (min v 8) = ⟨.discrepancy, s.htb.time,
        [u16 k, u32 x.cand.number, u8 x.cand.paper, o16 none] ++ labelFields none ++ [u8 x.cand.issued, u8 (min v 8)]⟩ := by
      rw [State.discrepancyNotice, if_pos hseat]
      rfl
    rw [label] at told
    refine ⟨_, _, rfl, (slot?_withSlot ..).trans (if_pos rfl), rfl, ?_, fun j hj => (slot?_withSlot ..).trans (if_neg hj),
      rfl, rfl, rfl, told⟩
    simp only [Slot.write, Candidate.collectedWith, hseat]
  · rw [exec_defer_ready hs, takeDefer_deferred hcol hn h hz he, finishTaking_done]
    simp only [State.deferred, without_eq]
  · have slots := ((State.tablesSorted_iff s).mp ht).2.2.1
    intro n p others collected differs said
    obtain ⟨b, done, told⟩ := collection_reports (expected := x.cand.issued) (returned := n) hc slots hk hu
    have same : s.collectionNotices k x x.cand.issued n = said := by
      simp only [said, State.collectionNotices, State.discrepancyNotice, if_pos hseat]
      rfl
    have room : s.sli.notices.length + said.length ≤ 64 := by
      have : said.length ≤ 2 := by
        simp only [said, List.length_append]
        split <;> split <;> simp
      omega
    rw [same] at told
    rw [exec_collectDirect_ready hs, takeCollectDirect_collects hc hlt hk hu hst hseat, finishTaking_doneOr, done]
    refine ⟨_, rfl, ?_⟩
    rw [told (.inr room)]
    rfl

end Sys2Proof.Machine

/-! PROOFS. The confirmation of a script (O42). -/

namespace Sys2Proof.Machine

set_option Elab.async false

variable {s : State} {c n v : Nat} {x : Slot} {r : Seat} {e : Entry} {t : BatchTaken}

theorem labelFields_withSeat {r' : Seat} (h : s.seat? n = some r) (hl : Machine.labelOf r' = Machine.labelOf r)
    (o : Option Nat) : (s.withSeat n r').labelFields o = s.labelFields o := by
  have label (m : Nat) : (s.withSeat n r').labelOf m = s.labelOf m := by
    rw [State.labelOf, State.labelOf, seat?_withSeat]
    split
    next hm => rw [hm, h, Option.map_some, Option.map_some, hl]
    · rfl
  rw [State.labelFields, State.labelFields, show (s.withSeat n r').labelOf = s.labelOf from funext label]

/-- A seat given back VACATED, as changes of the blocks (R11). -/
theorem vacateSeat_eq (h : s.seat? n = some r) : vacateSeat n s =
    { s.withSeat n r.vacated with dbc := s.dbc.afterSeat n r r.vacated } := by
  rw [vacateSeat, h]
  exact putSeat_eq h

/-! ### One entry of CONFIRM (R127) -/

theorem takeConfirmEntry_bad (h : 511 < n) : takeConfirmEntry c n v s = (s, .no .badValue) := if_pos h

section
variable (hn : n ≤ 511)
include hn

theorem takeConfirmEntry_off (h : (s.collectorOf c).state = .off) : takeConfirmEntry c n v s = (s, .no .wrongState) := by
  simp [takeConfirmEntry, Nat.not_lt.mpr hn, h]

variable (h : (s.collectorOf c).state ≠ .off)
include h

theorem takeConfirmEntry_missing (hno : ∀ e ∈ (s.collectorOf c).round, e.seat ≠ n) : takeConfirmEntry c n v s =
    (s, .no (if n ∈ (s.collectorOf c).expired then .roundExpired else .notInRound)) := by
  simp [takeConfirmEntry, Nat.not_lt.mpr hn, h, entryAt_none hno, missing_eq]

variable (hc : s.clean = true) (he : (s.collectorOf c).round.find? (fun e => e.seat == n) = some e)
include hc he

theorem takeConfirmEntry_suspect (hu : s.suspectPair n e.slot = true) :
    takeConfirmEntry c n v s = (s, .no .suspect) := by
  simp [takeConfirmEntry, Nat.not_lt.mpr hn, h, Collector.entryAt, he, readSeat_clean hc, readSlot_clean hc, hu]

variable (hu : s.suspectPair n e.slot = false)
include hu

theorem takeConfirmEntry_gone (hr : s.seat? n = none) : takeConfirmEntry c n v s = (s, .no .wrongState) := by
  simp [takeConfirmEntry, Nat.not_lt.mpr hn, h, Collector.entryAt, he, readSeat_clean hc, readSlot_clean hc, hu, hr]

variable (hr : s.seat? n = some r) (hk : s.slot? e.slot = some x)
include hr hk

theorem takeConfirmEntry_judged : takeConfirmEntry c n v s =
    if !(r.state == .held || r.state == .occupied) || x.cand.state != .finished then (s, .no .wrongState)
    else (paperCollectedTest x.cand.paper (collectCandidate e.slot e.booklets (min v 8)
        (vacateSeat n (setCollector c ((s.collectorOf c).without e) s))),
      .doneOr (8 < v) [u16 e.slot, u8 e.booklets, u8 (min v 8), flag (min v 8 != e.booklets)]) := by
  have entry : (s.collectorOf c).entryAt n = some e := he
  rw [takeConfirmEntry, if_neg (Nat.not_lt.mpr hn)]
  dsimp only
  rw [if_neg (by simpa using h)]
  simp only [entry, readSeat_clean hc, readSlot_clean hc, hu, hr, hk, Bool.false_eq_true, if_false]

theorem takeConfirmEntry_wrongState (hst : x.cand.state ≠ .finished ∨ (r.state ≠ .held ∧ r.state ≠ .occupied)) :
    takeConfirmEntry c n v s = (s, .no .wrongState) := by
  refine (takeConfirmEntry_judged hn h hc he hu hr hk).trans (if_pos ?_)
  rcases hst with h | h <;> simp [h]

/-- The part with the seat of an entry VACATED and the entry out of its round. -/
def State.vacatedFor (s : State) (c n : Nat) (e : Entry) (r : Seat) : State :=
  { (setCollector c ((s.collectorOf c).without e) s).withSeat n r.vacated with dbc := s.dbc.afterSeat n r r.vacated }

theorem takeConfirmEntry_collects (hst : x.cand.state = .finished) (hstate : r.state = .held ∨ r.state = .occupied) :
    takeConfirmEntry c n v s = (paperCollectedTest x.cand.paper
        (collectCandidate e.slot e.booklets (min v 8) (s.vacatedFor c n e r)),
      .doneOr (8 < v) [u16 e.slot, u8 e.booklets, u8 (min v 8), flag (min v 8 != e.booklets)]) := by
  refine (takeConfirmEntry_judged hn h hc he hu hr hk).trans ((if_neg ?_).trans ?_)
  · rcases hstate with h | h <;> simp [h, hst]
  · rw [vacateSeat_eq (by exact hr)]
    rfl

end

theorem suspectPair_iff {k : Nat} : s.suspectPair n k = true ↔
    (∃ r, s.seat? n = some r ∧ r.suspect = true) ∨ ∃ x, s.slot? k = some x ∧ x.suspect = true := by
  cases hr : s.seat? n <;> cases hx : s.slot? k <;> simp [State.suspectPair, hr, hx]

theorem suspectPair_clear {k : Nat} (hr : ∀ r, s.seat? n = some r → r.suspect = false)
    (hx : ∀ x, s.slot? k = some x → x.suspect = false) : s.suspectPair n k = false := by
  rw [← Bool.not_eq_true, suspectPair_iff]
  rintro (⟨r, h, hu⟩ | ⟨x, h, hu⟩)
  · simp [hr r h] at hu
  · simp [hx x h] at hu

theorem suspectPair_readable {k : Nat} (hr : s.seat? n = some r) (hk : s.slot? k = some x) (hru : r.suspect = false)
    (hxu : x.suspect = false) : s.suspectPair n k = false :=
  suspectPair_clear (fun r' h => by rwa [← Option.some.inj (hr.symm.trans h)])
    fun x' h => by rwa [← Option.some.inj (hk.symm.trans h)]

theorem handEntry_confirm (h : t.stopped = false) (hr : t.refusal = none) (hh : t.header = .confirm c) :
    handEntry t (.confirm n v, true) s = ((takeConfirmEntry c n v s).1,
      { t with answers := t.answers ++ [(takeConfirmEntry c n v s).2] }) := by
  simp [handEntry, h, hr, hh, runEntry]

/-- The part while an entry of a CONFIRM record is handed on. -/
def State.confirming (s : State) (b : Batch) : State := setReceive (.inBatch { b with left := b.left - 4 } false) s

theorem exec_confirmEntry {b : Batch} {ok : Bool} (hs : s.calm = true) (hd : s.deaf = false)
    (hr : s.sli.receive = .inBatch b false) (hb : b.header = .confirm c) (hl : 4 ≤ b.left)
    (ht : s.sli.taken = some (.batch t)) : exec (.confirmEntry n v ok) s = .next
      (setTaken (some (.batch (handEntry t (.confirm n v, ok) (s.confirming b)).2))
        (handEntry t (.confirm n v, ok) (s.confirming b)).1) :=
  congrArg _ ((settled_calm hs _).trans (receiveEntry_taken hd hr (by rw [hb]; rfl) hl (by omega) ht))

/-- Settles O42. -/
theorem confirmationCollectsAScript : Obligations.ConfirmationCollectsAScript := by
  unfold Obligations.ConfirmationCollectsAScript
  refine ⟨fun s b t c n v hs hc hd hr hb hl ht hh hstop href hcol => ?_,
    fun s b t c n v e r x hs hc hsort hd hrec hb hl ht hh hstop href hcol hn hround he hr hk hru hxu hst hstate hroom => ?_⟩
  · intro after noted refusedEntry
    have taken (ok : Bool) := exec_confirmEntry (n := n) (v := v) (ok := ok) hs hd hr hb hl ht
    have outcome (o : State × Answer) (ho : takeConfirmEntry c n v (s.confirming b) = o) :
        exec (.confirmEntry n v true) s = .next (setTaken (some (.batch { t with answers := t.answers ++ [o.2] })) o.1) := by
      rw [taken, handEntry_confirm hstop href hh, ho]
    refine ⟨?_, fun h => outcome _ (takeConfirmEntry_bad h), fun hn => ⟨fun h => outcome _ (takeConfirmEntry_off hn h),
      fun h hno => outcome _ (takeConfirmEntry_missing hn h hno), fun e h he => ⟨fun hu => ?_, fun hx hr => ?_⟩,
      fun e r x h he hr hk => ⟨fun hu => ?_, fun hru hxu hst => ?_, fun hru hxu hst hstate => ?_⟩⟩⟩
    · rw [taken, handEntry_broken hstop]
      rfl
    · exact outcome _ (takeConfirmEntry_suspect hn h hc he (suspectPair_iff.mpr hu))
    · have clear : (s.confirming b).suspectPair n e.slot = false :=
        suspectPair_clear (fun r h => absurd (hr.symm.trans h) (by simp)) hx
      exact outcome _ (takeConfirmEntry_gone hn h hc he clear hr)
    all_goals have on : ((s.confirming b).collectorOf c).state ≠ .off := fun off => absurd (h.symm.trans off) (by simp)
    · exact outcome _ (takeConfirmEntry_suspect hn on hc he (suspectPair_iff.mpr
        (hu.imp (fun hu => ⟨_, hr, hu⟩) fun hu => ⟨_, hk, hu⟩)))
    all_goals have clear : (s.confirming b).suspectPair n e.slot = false := suspectPair_readable hr hk hru hxu
    · exact outcome _ (takeConfirmEntry_wrongState hn on hc he clear hr hk hst)
    · have done := outcome _ (takeConfirmEntry_collects hn on hc he clear hr hk hst hstate)
      obtain ⟨a, collected, -⟩ := collection_some (s := (s.confirming b).vacatedFor c n e r) (expected := e.booklets)
        (returned := min v 8) hc hk hxu
      rw [collected] at done
      refine ⟨_, _, done, ?_, (seat?_withSeat ..).trans (if_pos rfl), fun m hm => (seat?_withSeat ..).trans (if_neg hm),
        (slot?_withSlot ..).trans (if_pos rfl), rfl, rfl, fun j hj => (slot?_withSlot ..).trans (if_neg hj), ?_, rfl, rfl, rfl⟩
      · have answer (l : List Field) : Answer.doneOr (8 < v) l = ⟨if 8 < v then .clamped else .done, .none, l⟩ := by
          by_cases h8 : 8 < v <;> simp [Answer.doneOr, h8]
        rw [answer]
        rfl
      · exact (congrArg Collector.round ((collectorOf_setCollector ..).trans (if_pos rfl))).trans (without_round ..)
  · intro k l p others collected differs last said
    have slots := ((State.tablesSorted_iff s).mp hsort).2.2.1
    have on : ((s.confirming b).collectorOf c).state ≠ .off := fun off => absurd (hround.symm.trans off) (by simp)
    have clear : (s.confirming b).suspectPair n e.slot = false := suspectPair_readable hr hk hru hxu
    obtain ⟨a, done, told⟩ := collection_reports (s := (s.confirming b).vacatedFor c n e r) (expected := e.booklets)
      (returned := min v 8) hc slots hk hxu
    have labels (o : Option Nat) : ((s.confirming b).vacatedFor c n e r).labelFields o = s.labelFields o :=
      labelFields_withSeat (s := s) (r' := r.vacated) hr rfl o
    have same : ((s.confirming b).vacatedFor c n e r).collectionNotices e.slot x e.booklets (min v 8) = said := by
      simp only [said, State.collectionNotices, State.discrepancyNotice, labels]
      rfl
    have room : s.sli.notices.length + said.length ≤ 64 := by
      have : said.length ≤ 2 := by
        simp only [said, List.length_append]
        split <;> split <;> simp
      omega
    rw [same] at told
    have step : exec (.confirmEntry n v true) s = _ := exec_confirmEntry hs hd hrec hb hl ht
    rw [handEntry_confirm hstop href hh, takeConfirmEntry_collects hn on hc he clear hr hk hst hstate, done,
      told (.inr room)] at step
    refine ⟨_, step, rfl, rfl, ?_, fun d hd => (collectorOf_setCollector ..).trans (if_neg hd), ?_⟩
    · exact ((collectorOf_setCollector ..).trans (if_pos rfl)).trans (without_eq ..)
    · change (Dbc.afterSeat n r r.vacated s.dbc).calls = _
      rcases hstate with h | h <;> simp [Dbc.afterSeat, h, Seat.vacated]

end Sys2Proof.Machine

/-! PROOFS. The queries and STATUS (O35), the requests of the Desk Bus Controller (O36) and its lamps (O39). -/

namespace Sys2Proof.Machine

set_option Elab.async false

variable {s : State} {p n z a : Nat} {r : Paper} {k : Nat} {x : Slot}

/-! ### Queries of papers and rings (R100, R135, R137) -/

theorem takeQueryPaper_done (hc : s.clean = true) (hp : p < 16) (hr : s.paper? p = some r) : takeQueryPaper p s =
    done s (r.fields ++ (List.range 8).map (fun z => u16 (s.cursorOf p z))
      ++ (List.range 8).map (fun i => u16 (s.rsu.slots.filter fun e =>
        !e.2.suspect && e.2.shadow.paper == some p && e.2.cand.state.ctorIdx == i).length)
      ++ (List.range 7).map fun i => u16 (s.rsu.slots.filter fun e =>
        !e.2.suspect && e.2.shadow.paper == some p && e.2.clock.state.ctorIdx == i).length) := by
  have count (q : Slot → Bool) : ((s.readable p).filter fun e => q e.2).length =
      (s.rsu.slots.filter fun e => !e.2.suspect && e.2.shadow.paper == some p && q e.2).length := by
    rw [State.readable, List.filter_filter]
    refine congrArg _ (List.filter_congr fun e _ => ?_)
    rw [Bool.and_comm]
    rfl
  rw [takeQueryPaper, withPaper_defined hp hr, readSlots_clean hc]
  have states (i : Nat) := count fun x => x.cand.state.ctorIdx == i
  have clocks (i : Nat) := count fun x => x.clock.state.ctorIdx == i
  simp only [states, clocks]

theorem outstanding_eq (c : CandidateState) :
    c.outstanding = (c == .waiting || c == .admitted || c == .seated || c == .finished) := by
  cases c <;> rfl

theorem takeQueryReconcile_done (hc : s.clean = true) (hp : p < 16) (hr : s.paper? p = some r) :
    takeQueryReconcile p s =
      let here := s.rsu.slots.filter fun e => !e.2.suspect && e.2.shadow.paper == some p
      let inHand (c : Candidate) : Bool :=
        c.state == .waiting || c.state == .admitted || c.state == .seated || c.state == .finished
      done s [u8 r.state.ctorIdx,
        u16 ((here.filter fun e => inHand e.2.cand || e.2.cand.state == .collected).map fun e => e.2.cand.issued).sum,
        u16 ((here.filter fun e => e.2.cand.state == .collected).map fun e => e.2.cand.returned.getD 0).sum,
        u16 ((here.filter fun e => inHand e.2.cand).map fun e => e.2.cand.issued).sum,
        u16 (here.filter fun e => e.2.cand.state == .collected && e.2.cand.discrepancy).length,
        u16 (here.filter fun e => e.2.cand.state == .finished && e.2.cand.seat.isSome).length,
        u16 (here.filter fun e => e.2.cand.state == .finished && e.2.cand.seat.isNone).length,
        u16 (s.rsu.slots.filter fun e => e.2.suspect && e.2.shadow.paper == some p).length] := by
  have seated (o : Option Nat) (b : Bool) : (o.isSome == b) = if b then o.isSome else o.isNone := by
    cases o <;> cases b <;> rfl
  rw [takeQueryReconcile, withPaper_defined hp hr, readSlots_clean hc]
  simp only [sumOf_eq_sum, outstanding_eq, State.returnedTotal, State.discrepancies, seated]
  rfl

theorem takeQueryQueue_out (h : 8 ≤ z) : takeQueryQueue z s = refuse s .badValue := if_pos h

theorem takeQueryQueue_done (h : z < 8) : takeQueryQueue z s = done s
    (listField s.entryFields (s.ringsOf z).urgent ++ listField s.entryFields (s.ringsOf z).main
      ++ listField (fun c => [u8 c]) (s.ringsOf z).waiters
      ++ listField (fun c => u8 c :: s.roundFields c)
          ((List.range 8).filter fun c => (s.collectorOf c).state == .round && (s.collectorOf c).zone == some z)
      ++ (List.range 8).flatMap fun c => (s.collectorOf c).fields) := by
  rw [takeQueryQueue, if_neg (show ¬Config.zoneCount ≤ z from Nat.not_le.mpr h)]
  rfl

/-! ### READ RESULT (R165) -/

section
variable {number : Nat}

theorem takeReadResult_out (h : 99999999 < number) : takeReadResult number s = refuse s .badValue := by
  rw [takeReadResult, if_neg, withCandidate_out h]
  rw [Bool.and_eq_true, decide_eq_true_eq]
  exact fun hle => absurd hle.1 (Nat.not_le.mpr h)

theorem takeReadResult_none (h : number ≤ 99999999) (hn : (s.slotOf number).bind s.mru.results.find = none) :
    takeReadResult number s = refuse s .notFound := by
  refine if_pos ?_
  rw [hn, Bool.and_eq_true, decide_eq_true_eq]
  exact ⟨h, rfl⟩

theorem readResult_found (hn : ((s.slotOf number).bind s.mru.results.find).isSome = true) :
    ¬(number ≤ Config.maxNumber && ((s.slotOf number).bind s.mru.results.find).isNone) = true := by
  rw [Bool.and_eq_true, Option.isNone_iff_eq_none]
  exact fun h => by simp [h.2] at hn

theorem takeReadResult_suspect (hc : s.clean = true) (h : number ≤ 99999999) (hn : s.slotOf number = some k)
    (hres : (s.mru.results.find k).isSome = true) (hk : s.slot? k = some x) (hu : x.suspect = true) :
    takeReadResult number s = refuse s .suspect := by
  rw [takeReadResult, if_neg (readResult_found (by rw [hn]; exact hres)), withCandidate_suspect hc h hn hk hu]

section
variable {q : ResultRecord} (hc : s.clean = true) (hf : s.finds number k x) (hq : s.mru.results.find k = some q)
include hc hf hq

theorem takeReadResult_marker (hu : q.suspect = true) : takeReadResult number s = done s [flag true] := by
  have found : ((s.slotOf number).bind s.mru.results.find).isSome = true := by
    rw [hf.2.1, Option.bind_some, hq]
    rfl
  rw [takeReadResult, if_neg (readResult_found found), withCandidate_finds hc hf]
  simp only [hq, hu, if_true]

theorem takeReadResult_done (hu : q.suspect = false) : takeReadResult number s =
    done s (flag false :: s.resultFields x.cand.paper q) := by
  have found : ((s.slotOf number).bind s.mru.results.find).isSome = true := by
    rw [hf.2.1, Option.bind_some, hq]
    rfl
  rw [takeReadResult, if_neg (readResult_found found), withCandidate_finds hc hf]
  simp [hq, hu, readResult_clean hc]

end

end

/-- Settles O35. -/
theorem statusAndReportQueries : Obligations.StatusAndReportQueries := by
  unfold Obligations.StatusAndReportQueries
  refine ⟨⟨fun s p hs hc => ⟨fun hp => ?_, fun hp hn => ?_, fun r hp hr => ?_⟩, fun s hs hc => ⟨fun p => ⟨fun hp => ?_,
    fun hp hn => ?_, fun r hp hr => ?_⟩, fun z => ⟨fun hz => ?_, fun hz => ?_⟩⟩, fun s number hs hc => ⟨fun h => ?_,
    fun h hn => ?_, fun k h hn hq => ?_, fun k x h hn hq hk hu => ?_, fun k x hf q hq => ⟨fun hu => ?_, fun hu => ?_⟩⟩⟩,
    fun s hs => ?_⟩
  · rw [exec_queryPaper_ready hs, takeQueryPaper, withPaper_outside hp, finishTaking_refuse]
  · rw [exec_queryPaper_ready hs, takeQueryPaper, withPaper_undefined hp hn, finishTaking_refuse]
  · rw [exec_queryPaper_ready hs, takeQueryPaper_done hc hp hr, finishTaking_done]
    rfl
  · rw [exec_queryReconcile_ready hs, takeQueryReconcile, withPaper_outside hp, finishTaking_refuse]
  · rw [exec_queryReconcile_ready hs, takeQueryReconcile, withPaper_undefined hp hn, finishTaking_refuse]
  · rw [exec_queryReconcile_ready hs, takeQueryReconcile_done hc hp hr, finishTaking_done]
  · rw [exec_queryQueue_ready hs, takeQueryQueue_out hz, finishTaking_refuse]
  · rw [exec_queryQueue_ready hs, takeQueryQueue_done hz, finishTaking_done]
  · rw [exec_readResult_ready hs, takeReadResult_out h, finishTaking_refuse]
  · rw [exec_readResult_ready hs, takeReadResult_none h (by rw [hn]; rfl), finishTaking_refuse]
  · rw [exec_readResult_ready hs, takeReadResult_none h (by rw [hn]; exact hq), finishTaking_refuse]
  · rw [exec_readResult_ready hs, takeReadResult_suspect hc h hn hq hk hu, finishTaking_refuse]
  · rw [exec_readResult_ready hs, takeReadResult_marker hc hf hq hu, finishTaking_done]
  · rw [exec_readResult_ready hs, takeReadResult_done hc hf hq hu, finishTaking_done]
    rfl
  · intro running desks buffer
    have running_eq (n : Nat) : (if (s.htb.cal != .idle) = true then some n else none) = running n := by
      simp only [running, bne_iff_ne, ne_eq, ite_not]
    rw [exec_status_ready hs]
    simp only [takeStatus, State.statusFields, Htb.statusFields, State.intakeFields, running_eq, List.append_assoc]
    rfl

/-! ### The requests of the Desk Bus Controller (R108, R113, R116) -/

theorem takeSetButtonSense_bad {b v : Nat} (h : 4 ≤ b ∨ 2 ≤ v) : takeSetButtonSense b v s = refuse s .badValue := by
  rw [takeSetButtonSense]
  rcases h with h | h
  · rw [show Button.ofCode b = none from List.getElem?_eq_none h]
  · rw [show Sense.ofCode v = none from List.getElem?_eq_none h]
    cases Button.ofCode b <;> rfl

/-- The part with a button's truth value written, its desks as SET BUTTON SENSE leaves them. -/
def State.resensed (s : State) (inv : Buttons) : State :=
  { s with dbc := { s.dbc with inverted := inv, desks := s.dbc.desks.mapAll fun _ d => d.resensed } }

theorem takeSetButtonSense_done {b v : Nat} {k : Button} (hb : Button.ofCode b = some k) (hv : v < 2) :
    takeSetButtonSense b v s = done (s.resensed (s.dbc.inverted.set k (v == 1))) [] := by
  obtain rfl | rfl : v = 0 ∨ v = 1 := by omega
  · rw [takeSetButtonSense, hb]
    rfl
  · rw [takeSetButtonSense, hb]
    rfl

theorem Desk.resensed_eq (d : Desk) : d.resensed = { d with
    presses := [], longPress := none, window := none
    state := if d.state = .online then .quiet else d.state
    cause := if d.state = .online then some .sense else d.cause
    resample := d.state == .online || d.resample } := by
  cases h : d.state <;> simp [Desk.resensed, h]

theorem takeAnswerCall_out (h : 511 < n) : takeAnswerCall n s = refuse s .badValue := if_pos h

theorem takeAnswerCall_notFound (h : n ≤ 511) (hn : s.seat? n = none ∨ ∀ c ∈ s.dbc.calls, c.seat ≠ n) :
    takeAnswerCall n s = refuse s .notFound := by
  rw [takeAnswerCall, if_neg (Nat.not_lt.mpr h)]
  rcases hn with hn | hn
  · rw [hn]
  · have none : (s.dbc.calls.find? fun c => c.seat == n) = none := by simpa using hn
    rw [none]
    cases s.seat? n <;> rfl

section
variable {t : Seat} {c : Call} (h : n ≤ 511) (hr : s.seat? n = some t)
  (hcall : (s.dbc.calls.find? fun c => c.seat == n) = some c)
include h hr hcall

theorem takeAnswerCall_suspect (hu : t.suspect = true) : takeAnswerCall n s = refuse s .suspect := by
  rw [takeAnswerCall, if_neg (Nat.not_lt.mpr h), hr, hcall]
  exact if_pos hu

theorem takeAnswerCall_done (hu : t.suspect = false) : takeAnswerCall n s =
    done (dropCall n s) [u8 c.reason.ctorIdx, u24 c.time] := by
  rw [takeAnswerCall, if_neg (Nat.not_lt.mpr h), hr, hcall]
  exact if_neg (by simp [hu])

end

section
variable {c d t : Nat}

theorem takeSetLamp_bad (h : 4 ≤ c ∨ 3 ≤ d ∨ 511 < n ∨ t = 0 ∨ 600 < t) : takeSetLamp n c d t s = refuse s .badValue := by
  rw [takeSetLamp]
  rcases h with h | h | h
  · rw [show Colour.ofCode c = none from List.getElem?_eq_none h]
  · rw [show Cadence.ofCode d = none from List.getElem?_eq_none h]
    cases Colour.ofCode c <;> rfl
  · split
    · refine if_pos ?_
      simp only [Bool.or_eq_true, decide_eq_true_eq]
      omega
    · rfl

variable {colour : Colour} {cadence : Cadence} (hcol : Colour.ofCode c = some colour)
  (hcad : Cadence.ofCode d = some cadence) (hn : n ≤ 511) (h1 : 1 ≤ t) (h2 : t ≤ 600) (hc : s.clean = true)
include hcol hcad hn h1 h2 hc

theorem takeSetLamp_inRange : takeSetLamp n c d t s =
    ((s.seat? n).elim (refuse s .notFound) fun t' => if t'.suspect then refuse s .suspect else
      t'.desk.elim (refuse s .wrongState) fun a =>
        done (modDesk a (fun r => { r with override := some ⟨⟨colour, cadence⟩, t⟩ }) s) []) := by
  rw [takeSetLamp, hcol, hcad]
  refine (if_neg ?_).trans ?_
  · simp only [Bool.or_eq_true, decide_eq_true_eq]
    omega
  · rw [readSeat_clean hc]
    dsimp only
    cases s.seat? n with
    | none => rfl
    | some t' => cases h : t'.desk <;> simp [h]

end

/-- Settles O36. -/
theorem deskRequests : Obligations.DeskRequests := by
  unfold Obligations.DeskRequests
  refine ⟨⟨fun s b v hs => ⟨fun h => ?_, fun hv => ?_⟩, fun s n c d t hs hc => ⟨fun h => ?_,
    fun colour cadence hcol hcad hn h1 h2 => ⟨fun h => ?_, fun r hr => ⟨fun hu => ?_, fun hu hd => ?_, fun a k hu hd hk => ?_⟩⟩⟩⟩,
    fun s hs => ⟨fun n => ⟨fun h => ?_, fun h hn => ?_, fun h hn => ?_, fun r c h hr hcall => ⟨fun hu => ?_, fun hu => ?_⟩⟩, ?_⟩⟩
  · rw [exec_setButtonSense_ready hs, takeSetButtonSense_bad h, finishTaking_refuse]
  · intro after
    have same (inv : Buttons) : s.resensed inv = after inv := by
      simp only [State.resensed, Desk.resensed_eq, Table.mapAll, after]
    refine ⟨?_, ?_, ?_, ?_⟩ <;> rw [exec_setButtonSense_ready hs, takeSetButtonSense_done rfl hv, finishTaking_done, same] <;> rfl
  · rw [exec_setLamp_ready hs, takeSetLamp_bad h, finishTaking_refuse]
  · rw [exec_setLamp_ready hs, takeSetLamp_inRange hcol hcad hn h1 h2 hc, h]
    rfl
  · rw [exec_setLamp_ready hs, takeSetLamp_inRange hcol hcad hn h1 h2 hc, hr, Option.elim_some, if_pos hu, finishTaking_refuse]
  · rw [exec_setLamp_ready hs, takeSetLamp_inRange hcol hcad hn h1 h2 hc, hr, Option.elim_some, if_neg (by simp [hu]), hd]
    rfl
  · rw [exec_setLamp_ready hs, takeSetLamp_inRange hcol hcad hn h1 h2 hc, hr, Option.elim_some, if_neg (by simp [hu]), hd,
      Option.elim_some, modDesk_eq_withDesk hk, finishTaking_done]
  · rw [exec_answerCall_ready hs, takeAnswerCall_out h, finishTaking_refuse]
  · rw [exec_answerCall_ready hs, takeAnswerCall_notFound h (.inl hn), finishTaking_refuse]
  · rw [exec_answerCall_ready hs, takeAnswerCall_notFound h (.inr hn), finishTaking_refuse]
  · rw [exec_answerCall_ready hs, takeAnswerCall_suspect h hr hcall hu, finishTaking_refuse]
  · rw [exec_answerCall_ready hs, takeAnswerCall_done h hr hcall hu, finishTaking_done]
    rfl
  · rw [exec_queryCalls_ready hs, takeQueryCalls, finishTaking_done]
    rfl

/-! ### The lamp table (R114) -/

section
variable {d : Desk} {t : Seat} (hd : s.desk? a = some d) (hn : s.seatOfDesk a = some n) (ht : s.seat? n = some t)
include hd hn ht

theorem lampPending_eq : s.lampPending a =
    if t.suspect then ⟨.amber, .fast⟩
    else (d.override.map (·.pattern)).getD <| (d.feedback.map (·.pattern)).getD <|
      (d.window.map fun _ => ⟨.red, .fast⟩).getD <| (d.warning.map fun _ => ⟨.amber, .slow⟩).getD (s.seatLamp t) := by
  have named : (s.seatOfDesk a).bind s.seat? = some t := by rw [hn, Option.bind_some, ht]
  rw [State.lampPending, hd, named]
  dsimp only
  split
  · rfl
  · cases d.override <;> cases d.feedback <;> cases d.window <;> cases d.warning <;> rfl

end

theorem seatLamp_eq (s : State) (t : Seat) : s.seatLamp t = ((t.occupant.bind s.slot?).bind Slot.lamp).getD
    (if t.state = .held then ⟨.green, .slow⟩ else if t.state = .occupied then ⟨.green, .steady⟩ else .dark) := by
  rw [State.seatLamp]
  cases (t.occupant.bind s.slot?).bind Slot.lamp with
  | some p => rfl
  | none => cases t.state <;> rfl

/-- Settles O39. -/
theorem lampTable : Obligations.LampTable := by
  unfold Obligations.LampTable
  intro s a n d t hd hn ht
  rw [lampPending_eq hd hn ht]
  refine ⟨fun hu => if_pos hu, fun hu => ?_⟩
  rw [hu, if_neg Bool.false_ne_true]
  refine ⟨fun i h => ?_, fun i ho h => ?_, fun w ho hf h => ?_, fun w ho hf hw h => ?_, fun ho hf hw h => ?_⟩
  · rw [h]
    rfl
  · rw [ho, h]
    rfl
  · rw [ho, hf, h]
    rfl
  · rw [ho, hf, hw, h]
    rfl
  · rw [ho, hf, hw, h]
    change (∀ k x, _ → _ → _ → (_ → s.seatLamp t = _) ∧ (_ → _ → (_ → s.seatLamp t = _) ∧ (_ → _ → s.seatLamp t = _) ∧
      (_ → _ → s.seatLamp t = _))) ∧ (∀ k x, _ → _ → _ → (_ → s.seatLamp t = _) ∧ (_ → s.seatLamp t = _) ∧
      (_ → _ → (s.seatLamp t).colour = _)) ∧ (_ → _ → (s.seatLamp t).colour = _)
    rw [seatLamp_eq]
    refine ⟨fun k x hk hx hxu => ?_, fun k x hk hx hxu => ?_, fun hk hst => ?_⟩
    · have lamp : (t.occupant.bind s.slot?).bind Slot.lamp = x.lamp := by rw [hk, Option.bind_some, hx, Option.bind_some]
      rw [lamp, Slot.lamp, hxu, if_neg Bool.false_ne_true]
      refine ⟨fun h => ?_, fun h1 h2 => ⟨fun h => ?_, fun h hst => ?_, fun h hst => ?_⟩⟩
      · rw [if_pos (by simpa using h)]
        rfl
      all_goals rw [if_neg (by simpa [h1] using h2)]
      · rw [if_pos (by simpa using h)]
        rfl
      all_goals rw [if_neg (by simpa using h), hst]
      · rfl
      · rfl
    · have lamp : (t.occupant.bind s.slot?).bind Slot.lamp = none := by
        rw [hk, Option.bind_some, hx, Option.bind_some, Slot.lamp, if_pos hxu]
      rw [lamp]
      refine ⟨fun h => ?_, fun h => ?_, fun h1 h2 => ?_⟩
      · rw [h]
        rfl
      · rw [h]
        rfl
      · rw [if_neg h1, if_neg h2]
        rfl
    · rw [hk]
      rcases hst with h | h | h <;> rw [h] <;> rfl

end Sys2Proof.Machine

/-! PROOFS. Polls and exchanges of the desk bus (O37): faults, misses and the poll list. -/

namespace Sys2Proof.Machine

set_option Elab.async false

variable {s : State} {a n : Nat} {d : Desk} {r : Seat}

/-! ### Faults (R178) -/

/-- A fault changes Fault Capture and the link alone, and looks at no desk. -/
theorem takeFault_withDbc (f : FaultSource) (g : FaultRecord) (i : Option Nat) (k : FaultKind) (s : State) (b : Dbc) :
    takeFault f g i k { s with dbc := b } = { takeFault f g i k s with dbc := b } := by
  have captured (r : FaultReport) (s : State) : capture r { s with dbc := b } = { capture r s with dbc := b } := by
    rw [capture, capture]
    cases s.fcu.capture <;> rfl
  have notified (r : FaultReport) (s : State) : notifyFault r { s with dbc := b } = { notifyFault r s with dbc := b } := by
    simp only [notifyFault, notify, joinQueue]
    split
    · split <;> rfl
    · split <;> rfl
  simp only [takeFault]
  split
  · rw [captured]
    split
    · exact notified ..
    · rfl
  · split
    · exact notified ..
    · rfl

/-! ### The poll list (R101, R102) -/

theorem pollNext_open (h : s.dbc.exchange.isSome = true) : pollNext s = s := by
  obtain ⟨x, hx⟩ := Option.isSome_iff_exists.mp h
  rw [pollNext, hx]

theorem pollNext_empty (h : s.dbc.desks = []) : pollNext s = s := by
  have none : s.nextPoll = none := by
    rw [State.nextPoll, h]
    rfl
  rw [pollNext, none]
  cases s.dbc.exchange <;> rfl

theorem pollNext_polls (hx : s.dbc.exchange = none) (hp : s.nextPoll = some a) (hd : s.desk? a = some d) :
    pollNext s = { s with dbc := { s.dbc with
      exchange := some ⟨a, false, false⟩, polled := some a, out := some ⟨a, d.lamp, d.ack⟩ } } := by
  rw [pollNext, hx, hp]
  dsimp only
  rw [hd]

theorem find?_least {l : List Nat} {p : Nat → Bool} (hl : l.Pairwise (· < ·)) (hp : p a = true) (ha : a ∈ l)
    (hle : ∀ b ∈ l, p b = true → a ≤ b) : l.find? p = some a := by
  induction l with
  | nil => exact absurd ha List.not_mem_nil
  | cons c l ih =>
    obtain ⟨hc, hl⟩ := List.pairwise_cons.mp hl
    cases h : p c with
    | true =>
      have le := hle c List.mem_cons_self h
      have eq : a = c := (List.mem_cons.mp ha).elim id fun hin => absurd (hc a hin) (Nat.not_lt.mpr le)
      rw [List.find?_cons_of_pos h, eq]
    | false =>
      rw [List.find?_cons_of_neg (by simp [h])]
      have hin : a ∈ l := (List.mem_cons.mp ha).resolve_left fun eq => by simp [← eq, hp] at h
      exact ih hl hin fun b hb => hle b (List.mem_cons_of_mem _ hb)

theorem nextPoll_above (hs : s.dbc.desks.sorted = true) (hd : s.desk? a = some d) (ha : s.dbc.polled.getD 0 < a)
    (hle : ∀ b ∈ s.dbc.desks.keys, s.dbc.polled.getD 0 < b → a ≤ b) : s.nextPoll = some a := by
  have found : (s.dbc.desks.keys.find? fun b => s.dbc.polled.getD 0 < b) = some a := by
    have sorted : s.dbc.desks.keys.Pairwise (· < ·) := List.pairwise_map.mpr ((Table.sorted_iff_pairwise _).mp hs)
    refine find?_least sorted (by simpa using ha) ?_ fun b hb hp => hle b hb (by simpa using hp)
    exact List.mem_map_of_mem ((Table.mem_iff_find hs a d).mpr hd)
  rw [State.nextPoll]
  rw [found]

theorem nextPoll_head (hle : ∀ b ∈ s.dbc.desks.keys, b ≤ s.dbc.polled.getD 0) (h : s.dbc.desks.keys.head? = some a) :
    s.nextPoll = some a := by
  have none : (s.dbc.desks.keys.find? fun b => s.dbc.polled.getD 0 < b) = none := by
    rw [List.find?_eq_none]
    intro b hb
    simpa using hle b hb
  rw [State.nextPoll]
  rw [none, h]

/-! ### Attempts and misses (R103, R105) -/

theorem replyTimesOut_eq {x : Exchange} (h : s.dbc.exchange = some x) : replyTimesOut s = attemptFails x s := by
  rw [replyTimesOut, h]

/-- The desk bus with no exchange, a desk written. -/
def Dbc.missed (b : Dbc) (a : Nat) (d : Desk) : Dbc := { b with desks := b.desks.put a d, exchange := none }

/-- A desk as a miss counts it. -/
def Desk.withMiss (d : Desk) : Desk := { d with misses := min (d.misses + 1) 3 }

theorem countMiss_eq {t : State} (hd : s.desk? a = some d) (ht : t.dbc = (endExchange s).dbc) :
    modDesk a Desk.withMiss t = { t with dbc := s.dbc.missed a d.withMiss } := by
  rw [modDesk_eq_withDesk (d := d) (by rw [State.desk?, ht]; exact hd)]
  simp only [State.withDesk, ht]
  rfl

theorem deskMiss_offline (hd : s.desk? a = some d) (h : d.state = .offline) : deskMiss a (endExchange s) =
    { s with dbc := s.dbc.missed a d.withMiss } := by
  have steps : deskMiss a (endExchange s) = modDesk a Desk.withMiss (endExchange s) := by
    rw [deskMiss, show (endExchange s).desk? a = some d from hd]
    simp [h]
    rfl
  exact steps.trans (countMiss_eq hd rfl)

theorem deskMiss_reported (hd : s.desk? a = some d) (h : d.state ≠ .offline) : deskMiss a (endExchange s) =
    let u : State := { takeFault .desk .desk (some a) .lost s with dbc := s.dbc.missed a d.withMiss }
    if 2 ≤ d.misses then deskOffline a d.announced u else u := by
  have fault : takeFault .desk .desk (some a) .lost (endExchange s) =
      { takeFault .desk .desk (some a) .lost s with dbc := (endExchange s).dbc } := takeFault_withDbc ..
  have steps : deskMiss a (endExchange s) = if 2 ≤ d.misses then
        deskOffline a d.announced (modDesk a Desk.withMiss (takeFault .desk .desk (some a) .lost (endExchange s)))
      else modDesk a Desk.withMiss (takeFault .desk .desk (some a) .lost (endExchange s)) := by
    rw [deskMiss, show (endExchange s).desk? a = some d from hd]
    simp [h]
    rfl
  have counted := countMiss_eq (t := { takeFault .desk .desk (some a) .lost s with dbc := (endExchange s).dbc }) hd rfl
  rw [steps, fault, counted]

/-- A desk as its third miss leaves it. -/
def Desk.lost (d : Desk) : Desk := { d with
  state := .offline, cause := none, announced := false, resample := false, presses := [], longPress := none, window := none }

theorem deskOffline_eq {t : State} (hd : t.desk? a = some d) (b : Bool) : deskOffline a b t =
    if b then deskNotice .deskOffline a (t.withDesk a d.lost) else t.withDesk a d.lost := by
  rw [deskOffline, modDesk_eq_withDesk hd]
  rfl

theorem Dbc.missed_find (b : Dbc) (a : Nat) (d : Desk) (c : Nat) :
    (b.missed a d).desks.find c = if c = a then some d else b.desks.find c := Table.find_put ..

theorem desk?_missed {t : State} (b : Dbc) (a : Nat) (d : Desk) (c : Nat) :
    ({ t with dbc := b.missed a d } : State).desk? c = if c = a then some d else b.desks.find c := Table.find_put ..

/-! ### The polled address as the list changes -/

theorem polledAs_begins {b : Dbc} {l : Table Desk} (h : b.desks = []) (hx : b.exchange = none) (hl : l ≠ []) :
    b.polledAs l = none := by
  have listed : l.isEmpty = false := by simpa using hl
  rw [Dbc.polledAs, h, hx, listed]
  rfl

theorem polledAs_keeps {b : Dbc} {l : Table Desk} (h : b.desks ≠ [] ∨ b.exchange.isSome = true ∨ l = []) :
    b.polledAs l = b.polled := by
  refine if_neg ?_
  rcases h with h | h | h
  · simp [h]
  · simp [Option.isSome_iff_ne_none.mp h]
  · simp [h]

theorem foldl_listed_ne (l : List Nat) (t : Table Desk) (h : t ≠ [] ∨ l ≠ []) :
    l.foldl (fun t a => if (t.find a).isSome then t else t.put a .initial) t ≠ [] := by
  induction l generalizing t with
  | nil => exact h.resolve_right (fun h => h rfl)
  | cons a l ih =>
    refine ih _ (.inl fun empty => ?_)
    dsimp only at empty
    split at empty
    next found => simp [empty, Table.find] at found
    · have := (Table.find_put t a a Desk.initial).trans (if_pos rfl)
      rw [empty] at this
      cases this

/-- Settles O37. -/
theorem deskPollAndTimeout : Obligations.DeskPollAndTimeout := by
  unfold Obligations.DeskPollAndTimeout
  refine ⟨fun s hs => ?_, fun s => ⟨fun h hx hn => ?_, fun h => ?_⟩⟩
  · have polls : exec .deskPoll s = .next (pollNext s) := congrArg Host.Outcome.next (settled_calm hs _)
    have timeout : exec .replyTimeout s = .next (replyTimesOut s) := congrArg Host.Outcome.next (settled_calm hs _)
    rw [polls, timeout]
    refine ⟨fun h => by rw [pollNext_open h], fun h => by rw [pollNext_empty h], fun a d hx hd hp => ?_, fun h => ?_, fun a h => ?_,
      fun a r h => ?_, fun a d h hd => ⟨fun hst => ?_, fun hst hm => ?_, fun hst hm n r hn hr => ?_, fun hi lo b q ck hbad => ?_,
        fun hst hm => ?_⟩⟩
    · refine congrArg Host.Outcome.next (pollNext_polls hx ?_ hd)
      rcases hp with ⟨hle, ha, ht⟩ | ⟨hle, hhead⟩
      · exact nextPoll_above ((State.tablesSorted_iff s).mp ht).2.2.2.2 hd ha hle
      · exact nextPoll_head hle hhead
    · rw [replyTimesOut, h]
    · rw [replyTimesOut_eq h]
      rfl
    · rw [replyTimesOut_eq h]
      rfl
    · rw [replyTimesOut_eq h]
      exact congrArg Host.Outcome.next (deskMiss_offline hd hst)
    · rw [replyTimesOut_eq h]
      refine congrArg Host.Outcome.next ((deskMiss_reported hd hst).trans ((if_neg (Nat.not_le.mpr hm)).trans ?_))
      have count : d.withMiss = { d with misses := d.misses + 1 } := by
        rw [Desk.withMiss, Nat.min_eq_left (by omega)]
      rw [count]
      exact (takeFault_withDbc ..).symm
    · let u : State := { takeFault .desk .desk (some a) .lost s with dbc := s.dbc.missed a d.withMiss }
      have found : u.desk? a = some d.withMiss := (desk?_missed ..).trans (if_pos rfl)
      have named : (u.withDesk a d.withMiss.lost).seatOfDesk a = some n := by
        rw [State.seatOfDesk, State.withDesk_hmu, takeFault_hmu]
        exact hn
      have seat : (u.withDesk a d.withMiss.lost).seat? n = some r := by
        rw [State.seat?, State.withDesk_hmu, takeFault_hmu]
        exact hr
      intro lost hroom
      rw [replyTimesOut_eq h]
      refine ⟨_, congrArg Host.Outcome.next ((deskMiss_reported hd hst).trans ((if_pos (Nat.le_of_eq hm.symm)).trans
        (deskOffline_eq found _))), ?_⟩
      cases d.announced with
      | false => exact ⟨rfl, takeFault_mru .., rfl⟩
      | true =>
        have told := notify_room (s := u.withDesk a d.withMiss.lost) hroom .deskOffline
          (u16 a :: (u.withDesk a d.withMiss.lost).labelFields ((u.withDesk a d.withMiss.lost).seatOfDesk a))
        rw [named, labelFields_seat seat] at told
        rw [if_pos rfl, deskNotice, named, labelFields_seat seat, told]
        refine ⟨rfl, takeFault_mru .., ?_⟩
        rw [if_pos rfl, State.withDesk_htb, takeFault_htb]
        rfl
    · have replied : exec (.deskReply hi lo b q ck) s = .next (deskReplies [hi, lo, b, q, ck] b q s) :=
        congrArg Host.Outcome.next (settled_calm hs _)
      rw [replied, replyTimesOut_eq h]
      have fails : (!sumsToZero [hi, lo, b, q, ck] || numberOf ([hi, lo, b, q, ck].take 2) != a) = true := by
        simpa [sumsToZero, byteSum, numberOf, or_comm] using hbad
      simp only [deskReplies, h, fails]
      rfl
    · let u : State := { takeFault .desk .desk (some a) .lost s with dbc := s.dbc.missed a d.withMiss }
      have found : u.desk? a = some d.withMiss := (desk?_missed ..).trans (if_pos rfl)
      have offline : d.withMiss.lost = { d with
          state := .offline, cause := none, announced := false, misses := 3, resample := false, presses := [],
          longPress := none, window := none } := by
        rw [Desk.lost, Desk.withMiss, hm]
        rfl
      have find (c : Nat) : (u.withDesk a d.withMiss.lost).desk? c = if c = a then some d.withMiss.lost else s.desk? c := by
        refine (Table.find_put ..).trans ?_
        split
        · rfl
        next hc => exact (desk?_missed ..).trans (if_neg hc)
      rw [replyTimesOut_eq h, ← offline]
      refine ⟨_, congrArg Host.Outcome.next ((deskMiss_reported hd hst).trans ((if_pos (Nat.le_of_eq hm.symm)).trans
        (deskOffline_eq found _))), ?_⟩
      have kept (v : State) (hv : v = u.withDesk a d.withMiss.lost ∨ v = deskNotice .deskOffline a (u.withDesk a d.withMiss.lost)) :
          v.dbc = (u.withDesk a d.withMiss.lost).dbc ∧ v.hmu = s.hmu ∧ v.rsu = s.rsu ∧ v.ssu = s.ssu := by
        rcases hv with rfl | rfl
        · exact ⟨rfl, takeFault_hmu .., takeFault_rsu .., takeFault_ssu ..⟩
        · exact ⟨notify_dbc .., (notify_hmu ..).trans (takeFault_hmu ..), (notify_rsu ..).trans (takeFault_rsu ..),
            (notify_ssu ..).trans (takeFault_ssu ..)⟩
      obtain ⟨hdbc, hhmu, hrsu, hssu⟩ := kept (if d.announced = true then deskNotice .deskOffline a (u.withDesk a d.withMiss.lost)
        else u.withDesk a d.withMiss.lost) (by split <;> simp)
      have desk (c : Nat) := congrArg (fun b : Dbc => b.desks.find c) hdbc
      have exchange := congrArg Dbc.exchange hdbc
      exact ⟨(desk a).trans ((find a).trans (if_pos rfl)), fun b hb => (desk b).trans ((find b).trans (if_neg hb)),
        exchange, hhmu, hrsu, hssu⟩
  · exact polledAs_begins h hx (foldl_listed_ne _ _ (.inr hn))
  · by_cases hdesks : s.dbc.desks = []
    · refine polledAs_keeps (h.imp_right (Or.imp_right fun hn => ?_))
      rw [hdesks, hn]
      rfl
    · exact polledAs_keeps (.inl hdesks)

end Sys2Proof.Machine

/-! PROOFS. Output, the link reset (O55), breaks and bad records (O52). -/

namespace Sys2Proof.Machine

set_option Elab.async false

variable {s : State}

/-! ### Output (R172, R173) -/

theorem exec_recordSent (h : s.calm = true) : exec .recordSent s = .next (recordSent s) :=
  congrArg Host.Outcome.next (settled_calm h _)

theorem recordSent_silent (h : s.sli.sending = none) : recordSent s = s := by
  simp [recordSent, h]

/-- The record being sent leaves its place, and the output side then begins the next. -/
theorem recordSent_sending {x : Sending} (h : s.sli.sending = some x) :
    recordSent s = startOutput (recordLeaves s) := by
  simp [recordSent, h]

theorem recordLeaves_start {r : StartRecord} {b : Bool} (h : s.sli.sending = some (.start r b)) :
    recordLeaves s = { s with sli := { s.sli with sending := none, start := none } } := by
  simp only [recordLeaves, h]

theorem recordLeaves_reply {r : Reply} (h : s.sli.sending = some (.reply r)) :
    recordLeaves s = { s with sli := { s.sli with sending := none, replies := s.sli.replies.drop 1 } } := by
  simp only [recordLeaves, h]

theorem recordLeaves_notice {x : Notice} {b : Bool} (h : s.sli.sending = some (.notice x b)) :
    recordLeaves s = { s with sli := { s.sli with sending := none, notices := s.sli.notices.drop 1 } } := by
  simp only [recordLeaves, h]

theorem startOutput_start {r : StartRecord} (h : s.sli.start = some r) (hs : s.sli.sending = none) :
    startOutput s = { s with sli := { s.sli with sending := some (.start r s.sli.lost), lost := false } } := by
  simp only [startOutput, h, hs]

/-! ### The link reset (R174) -/

theorem exec_linkReset (h : s.calm = true) :
    exec .linkReset s = .next { s with sli := s.sli.linkReset s.htb.time } :=
  congrArg Host.Outcome.next (settled_calm h _)

theorem linkReset_lost (l : Sli) (time : Nat) :
    (l.linkReset time).lost = (l.lost || (l.sending.map Sending.carriesLost).getD false) := rfl

/-- Settles O55, from what leaves its place and what then begins. -/
theorem outputAndLinkReset : Obligations.OutputAndLinkReset := by
  unfold Obligations.OutputAndLinkReset
  refine ⟨⟨fun s hc => ?_, fun s r h hs => startOutput_start h hs, fun _ _ _ => rfl, fun _ _ _ _ => rfl,
    fun s hc => ⟨_, exec_linkReset hc, rfl, rfl, rfl, rfl, rfl, rfl, ?_⟩⟩, fun s hc => ?_⟩
  · rw [exec_recordSent hc]
    refine ⟨fun h => by rw [recordSent_silent h], fun r x rest h hst hr hn => ?_, fun r q rest h hst hr => ?_,
      fun x b rest h hst hr hn hnil => ?_, fun r b h hr hn => ?_, fun r b q rest h hr => ?_⟩
    · rw [recordSent_sending h, recordLeaves_reply h]
      simp [startOutput, hst, hr, hn]
    · rw [recordSent_sending h, recordLeaves_reply h]
      simp [startOutput, hst, hr]
    · subst hnil
      rw [recordSent_sending h, recordLeaves_notice h]
      simp [startOutput, hst, hr, hn]
    · rw [recordSent_sending h, recordLeaves_start h]
      simp [startOutput, hr, hn]
    · rw [recordSent_sending h, recordLeaves_start h]
      simp [startOutput, hr]
  · refine ⟨fun h => ?_, fun b h => ?_, fun k d h => ?_, fun h => ?_, fun n h => ?_, fun r h => ?_, fun k a h => ?_,
      fun h => ?_, fun r t h => ?_, fun h => ?_⟩
    · simp [Sli.linkReset, h]
    · simp [Sli.linkReset, h, Taken.afterReset]
    · simp [Sli.linkReset, h, Taken.afterReset]
    · simp [linkReset_lost, h]
    · simp [linkReset_lost, h, Sending.carriesLost]
    · simp [linkReset_lost, h, Sending.carriesLost]
    · simp [linkReset_lost, h, Sending.carriesLost]
    · simp [linkReset_lost, h]
    · simp [Sli.linkReset, Sli.startAfterReset, h]
    · have named : s.sli.startAfterReset s.htb.time =
          .linkRestarted (s.sli.taken.bind Taken.discardedKind) s.sli.notices.length s.htb.time := by
        unfold Sli.startAfterReset
        split
        case h_1 r t hst => exact absurd hst (h r t)
        case h_2 => rfl
      refine congrArg some (named.trans ?_)
      cases s.sli.taken with
      | none => rfl
      | some t => cases t <;> rfl
  · rw [exec_recordSent hc]
    refine ⟨fun x b q rest more h hst hr hn => ?_, fun x b y rest h hst hr hn => ?_, fun r b y rest h hr hn => ?_,
      fun r st h hst => ?_, fun x b st h hst => ?_⟩
    · rw [recordSent_sending h, recordLeaves_notice h]
      simp [startOutput, hst, hr, hn]
    · rw [recordSent_sending h, recordLeaves_notice h]
      simp [startOutput, hst, hr, hn]
    · rw [recordSent_sending h, recordLeaves_start h]
      simp [startOutput, hr, hn]
    · rw [recordSent_sending h, recordLeaves_reply h]
      simp [startOutput, hst]
    · rw [recordSent_sending h, recordLeaves_notice h]
      simp [startOutput, hst]

/-! ### Breaks (R167, R170) -/

theorem exec_recordGap (h : s.calm = true) : exec .recordGap s = .next (breakRecord s) :=
  congrArg Host.Outcome.next (settled_calm h _)

theorem exec_framingFault (h : s.calm = true) : exec .framingFault s = .next (breakRecord s) :=
  congrArg Host.Outcome.next (settled_calm h _)

theorem exec_recordBrokenByLead (h : s.calm = true) (k : Nat) :
    exec (.recordBrokenByLead k) s = .next (receiveLead k s) :=
  congrArg Host.Outcome.next (settled_calm h _)

theorem breakRecord_inRecord {k : Nat} (h : s.sli.receive = .inRecord k) : breakRecord s = setReceive .idle s := by
  simp only [breakRecord, h]

theorem breakRecord_taken {b : Batch} {l : Bool} {t : BatchTaken} (h : s.sli.receive = .inBatch b l)
    (ht : s.sli.taken = some (.batch t)) : breakRecord s =
      addReply b.header.kind ⟨.broken, .none, batchFields t.answers⟩ (setTaken none (setReceive .idle s)) := by
  simp only [breakRecord, h, ht]

/-- A batch that is not being taken is discarded like any other record. -/
theorem breakRecord_untaken {b : Batch} {l : Bool} (h : s.sli.receive = .inBatch b l)
    (ht : ∀ t, s.sli.taken ≠ some (.batch t)) : breakRecord s = setReceive .idle s := by
  unfold breakRecord
  split
  case h_1 b' l' t hr htk => exact absurd htk (ht t)
  case h_2 => rfl

theorem receiveLead_hearing (h : s.deaf = false) (k : Nat) :
    receiveLead k s = setReceive (.inRecord k) (breakRecord s) := by
  rw [receiveLead, h]
  rfl

theorem receiveLead_deaf (h : s.deaf = true) (k : Nat) : receiveLead k s = loseCharacters s := by
  rw [receiveLead, h]
  rfl

/-- With the receive state IDLE there is nothing to lose. -/
theorem loseCharacters_idle (h : s.sli.receive = .idle) : loseCharacters s = s := by
  simp only [loseCharacters, h]

theorem loseCharacters_inBatch {b : Batch} {l : Bool} (h : s.sli.receive = .inBatch b l) :
    loseCharacters s = setReceive (.inBatch b true) s := by
  simp only [loseCharacters, h]

/-! ### Whole records that are no good request (R168) -/

theorem answerBad_ready (h : s.ready = true) (kind : Nat) (ok : Bool) :
    answerBad kind ok s = s.refused kind (if ok then .badRecord else .checkError) := by
  obtain ⟨hc, ht, hw, hr, hd⟩ := (State.ready_iff s).mp h
  simp [answerBad, arrive, hd, breakRecord_idle hr, State.refused]

theorem sumsToZero_iff (bs : List Byte) : sumsToZero bs = true ↔ byteSum bs = 0 := by
  simp [sumsToZero]

/-- A whole record that is not of a batch kind is a request where it decodes to one, and is no good otherwise. -/
theorem receiveRecord_whole (kind : Byte) (body : List Byte) (ck : Byte) (hl : body.length ≤ 240)
    (h1 : kind ≠ 32) (h2 : kind ≠ 99) (h3 : kind ≠ 113)
    (hn : decodeRecord (kind :: BitVec.ofNat 8 body.length :: (body ++ [ck])) = none) (s : State) :
    receiveRecord (kind :: BitVec.ofNat 8 body.length :: (body ++ [ck])) s =
      answerBad kind.toNat (sumsToZero (kind :: BitVec.ofNat 8 body.length :: (body ++ [ck]))) s := by
  have hlen : (BitVec.ofNat 8 body.length).toNat = body.length := by
    rw [BitVec.toNat_ofNat]; omega
  have k1 : kind.toNat ≠ 32 := fun h => h1 (BitVec.eq_of_toNat_eq h)
  have k2 : kind.toNat ≠ 99 := fun h => h2 (BitVec.eq_of_toNat_eq h)
  have k3 : kind.toNat ≠ 113 := fun h => h3 (BitVec.eq_of_toNat_eq h)
  simp only [receiveRecord, List.length_append, List.length_singleton, hlen, bne_self_eq_false, Bool.false_eq_true,
    if_false]
  split
  · exact absurd ‹kind.toNat = 32› k1
  · exact absurd ‹kind.toNat = 99› k2
  · exact absurd ‹kind.toNat = 113› k3
  · rw [hn]

/-- A record whose sum fails, or whose kind and length are no request's, decodes to none. -/
theorem decodeRecord_none (kind : Byte) (body : List Byte) (ck : Byte)
    (h : byteSum (kind :: BitVec.ofNat 8 body.length :: (body ++ [ck])) ≠ 0 ∨
      decodeBody kind.toNat (body.map BitVec.toNat) = none) :
    decodeRecord (kind :: BitVec.ofNat 8 body.length :: (body ++ [ck])) = none := by
  simp only [decodeRecord]
  split_ifs with hgood
  · rcases h with h | h
    · simp only [Bool.and_eq_true, sumsToZero_iff] at hgood
      exact absurd hgood.2 h
    · rwa [List.dropLast_concat]
  · rfl

theorem exec_badRecord (h : s.ready = true) (chars : List Byte) :
    exec (.badRecord chars) s = .next (receiveRecord chars s) :=
  congrArg Host.Outcome.next (settled_calm (State.calm_of_ready h) _)

/-- Settles O52, from what a break leaves and how a whole record that is no good request is answered. -/
theorem brokenAndBadRecords : Obligations.BrokenAndBadRecords := by
  unfold Obligations.BrokenAndBadRecords
  refine ⟨fun s hc => ?_, fun s kind body ck hs hl h1 h2 h3 => ⟨fun hsum => ?_, fun hsum hbody => ?_⟩⟩
  · rw [exec_recordGap hc, exec_framingFault hc]
    refine ⟨fun h => ?_, fun k h => ?_, fun b l t h ht => ?_, fun b l h ht => ?_, fun b l k hd h => ?_,
      fun k hd h => ?_, fun k j hd h => ?_, fun k hd h => ?_⟩
    · rw [breakRecord_idle h]
      exact ⟨rfl, rfl⟩
    · rw [breakRecord_inRecord h]
      exact ⟨rfl, rfl⟩
    · refine ⟨by rw [breakRecord_taken h ht]; rfl, by rw [breakRecord_taken h ht]; rfl, fun hd k => ?_⟩
      rw [exec_recordBrokenByLead hc, receiveLead_hearing hd, breakRecord_taken h ht]
      rfl
    · refine ⟨by rw [breakRecord_untaken h ht]; rfl, by rw [breakRecord_untaken h ht]; rfl, fun hd k => ?_⟩
      rw [exec_recordBrokenByLead hc, receiveLead_hearing hd, breakRecord_untaken h ht]
      rfl
    · rw [exec_recordBrokenByLead hc, receiveLead_deaf hd, loseCharacters_inBatch h]
      rfl
    · rw [exec_recordBrokenByLead hc, receiveLead_hearing hd, breakRecord_idle h]
      rfl
    · rw [exec_recordBrokenByLead hc, receiveLead_hearing hd, breakRecord_inRecord h]
      rfl
    · rw [exec_recordBrokenByLead hc, receiveLead_deaf hd, loseCharacters_idle h]
  · have hno : sumsToZero (kind :: BitVec.ofNat 8 body.length :: (body ++ [ck])) = false :=
      Bool.eq_false_iff.mpr fun h => hsum ((sumsToZero_iff _).mp h)
    rw [exec_badRecord hs, receiveRecord_whole kind body ck hl h1 h2 h3 (decodeRecord_none kind body ck (.inl hsum)),
      answerBad_ready hs, hno]
    rfl
  · rw [exec_badRecord hs, receiveRecord_whole kind body ck hl h1 h2 h3 (decodeRecord_none kind body ck (.inr hbody)),
      answerBad_ready hs, (sumsToZero_iff _).mpr hsum]
    rfl

end Sys2Proof.Machine

/-! PROOFS. Batch records, from their header to their check character (O54). -/

namespace Sys2Proof.Machine

set_option Elab.async false

variable {s : State} {h : BatchHeader} {t : BatchTaken}

/-! ### Headers (R170) -/

/-- The state in which a batch of lawful length is being taken, its body still to come. -/
def State.batchBegun (s : State) (h : BatchHeader) (ok : Bool) (left : Nat) (refusal : Option Reason) : State :=
  { s with sli := { s.sli with
    receive := .inBatch ⟨h, ok, [], left, true⟩ false, taken := some (.batch ⟨h, refusal, [], !ok, false⟩) } }

/-- The owner's judgement looks at no part of the link. -/
theorem headerRefusal_setReceive (r : Receive) : (setReceive r s).headerRefusal h = s.headerRefusal h := by
  cases h <;> rfl

/-- On a free link a header goes straight on to being taken. -/
theorem receiveHeader_ready (hs : s.ready = true) (ok : Bool) (left : Nat) (lengthOk : Bool) :
    receiveHeader h ok left lengthOk s =
      takeArriving (setReceive (.inBatch ⟨h, ok, [], left, lengthOk⟩ false) s) := by
  obtain ⟨hc, ht, hw, hr, hd⟩ := (State.ready_iff s).mp hs
  simp [receiveHeader, arrive, hd, breakRecord_idle hr]

theorem takeArriving_free {b : Batch} (hl : b.lengthOk = true) (ht : s.sli.taken = none) (hw : s.sli.waiting = none) :
    takeArriving (setReceive (.inBatch b false) s) =
      setTaken (some (.batch (takeBatch b (setReceive (.inBatch { b with entries := [] } false) s)).2))
        (takeBatch b (setReceive (.inBatch { b with entries := [] } false) s)).1 := by
  simp [takeArriving, setReceive, hl, ht, hw]

/-- A length that fails its test leaves the record in progress, not taken. -/
theorem receiveHeader_badLength (hs : s.ready = true) (ok : Bool) (left : Nat) :
    receiveHeader h ok left false s = setReceive (.inBatch ⟨h, ok, [], left, false⟩ false) s := by
  rw [receiveHeader_ready hs]
  rfl

/-- A header whose own check fails stops the record. -/
theorem receiveHeader_broken (hs : s.ready = true) (left : Nat) :
    receiveHeader h false left true s = s.batchBegun h false left none := by
  obtain ⟨hc, ht, hw, hr, hd⟩ := (State.ready_iff s).mp hs
  rw [receiveHeader_ready hs, takeArriving_free rfl ht hw]
  rfl

theorem receiveHeader_refused (hs : s.ready = true) {r : Reason} (hr : s.headerRefusal h = some r) (left : Nat) :
    receiveHeader h true left true s = s.batchBegun h true left (some r) := by
  obtain ⟨hc, ht, hw, _, hd⟩ := (State.ready_iff s).mp hs
  rw [receiveHeader_ready hs, takeArriving_free rfl ht hw]
  simp only [takeBatch, handEntries, headerRefusal_setReceive, hr]
  rfl

theorem receiveHeader_accepted (hs : s.ready = true) (hr : s.headerRefusal h = none) (left : Nat) :
    receiveHeader h true left true s = (startBatch h s).batchBegun h true left none := by
  obtain ⟨hc, ht, hw, _, hd⟩ := (State.ready_iff s).mp hs
  rw [receiveHeader_ready hs, takeArriving_free rfl ht hw]
  simp only [takeBatch, handEntries, headerRefusal_setReceive, hr]
  cases h with
  | loadCandidates => rfl
  | confirm c => rfl
  | loadKey p v q m =>
    simp only [Option.isNone_none, Bool.and_true, if_true, startBatch, startStaging]
    split <;> rfl

theorem exec_loadCandidates_ready (hs : s.ready = true) (l n : Nat) (ok : Bool) :
    exec (.loadCandidates l n ok) s =
      .next (receiveHeader .loadCandidates ok (l - 2) (candidatesLengthOk l n) s) :=
  congrArg Host.Outcome.next (settled_calm (State.calm_of_ready hs) _)

theorem exec_confirm_ready (hs : s.ready = true) (l c n : Nat) (ok : Bool) :
    exec (.confirm l c n ok) s = .next (receiveHeader (.confirm c) ok (l - 3) (confirmLengthOk l n) s) :=
  congrArg Host.Outcome.next (settled_calm (State.calm_of_ready hs) _)

theorem exec_loadKey_ready (hs : s.ready = true) (l p v q m : Nat) (ok : Bool) :
    exec (.loadKey l p v q m ok) s = .next (receiveHeader (.loadKey p v q m) ok (l - 6) (keyLengthOk l) s) :=
  congrArg Host.Outcome.next (settled_calm (State.calm_of_ready hs) _)

/-! ### The length tests (R183) -/

theorem candidatesLengthOk_iff (l n : Nat) :
    candidatesLengthOk l n = true ↔ 1 ≤ n ∧ n ≤ 8 ∧ l = 2 + 14 * n := by
  simp [candidatesLengthOk, and_assoc]

theorem confirmLengthOk_iff (l n : Nat) : confirmLengthOk l n = true ↔ 1 ≤ n ∧ n ≤ 12 ∧ l = 3 + 4 * n := by
  simp [confirmLengthOk, and_assoc]

theorem keyLengthOk_iff (l : Nat) : keyLengthOk l = true ↔ 11 ≤ l ∧ l ≤ 234 := by
  simp [keyLengthOk]

/-! ### LOAD KEY's header (R158) -/

variable {p v q m : Nat}

theorem keyHeaderRefusal_range (hx : 16 ≤ p ∨ 4 ≤ v ∨ 2 ≤ m) : s.keyHeaderRefusal p v q m = some .badValue := by
  have hx' : (decide (Config.paperCount ≤ p) || decide (4 ≤ v) || decide (2 ≤ m)) = true := by
    rw [Bool.or_eq_true, Bool.or_eq_true, decide_eq_true_eq, decide_eq_true_eq, decide_eq_true_eq, or_assoc]
    exact hx
  rw [State.keyHeaderRefusal, if_pos hx']

/-- With the numbers in their ranges the paper decides. -/
theorem keyHeaderRefusal_inRange (hp : p < 16) (hv : v < 4) (hm : m < 2) :
    s.keyHeaderRefusal p v q m = (s.paper? p).elim (some .notFound) fun r =>
      if r.versions ≤ v then some .badValue
      else if s.mru.forms.find r.form != some q then some .wrongForm
      else if m == 1 && !(s.mru.staging.map fun g => g.paper == p && g.version == v).getD false then some .wrongState
      else none := by
  have hx : ¬(decide (Config.paperCount ≤ p) || decide (4 ≤ v) || decide (2 ≤ m)) = true := by
    rw [Bool.or_eq_true, Bool.or_eq_true, decide_eq_true_eq, decide_eq_true_eq, decide_eq_true_eq, or_assoc]
    exact fun h => h.elim (Nat.not_le.mpr hp) fun h => h.elim (Nat.not_le.mpr hv) (Nat.not_le.mpr hm)
  rw [State.keyHeaderRefusal, if_neg hx]
  cases s.paper? p <;> rfl

/-- Whether the staging key is of the paper and version. -/
theorem staging_of_iff : (s.mru.staging.map fun g => g.paper == p && g.version == v).getD false = true ↔
    ∃ g, s.mru.staging = some g ∧ g.paper = p ∧ g.version = v := by
  cases s.mru.staging <;> simp

variable {r : Paper}

theorem keyHeaderRefusal_version (hp : p < 16) (hv : v < 4) (hm : m < 2) (hr : s.paper? p = some r)
    (hx : r.versions ≤ v) : s.keyHeaderRefusal p v q m = some .badValue := by
  rw [keyHeaderRefusal_inRange hp hv hm, hr, Option.elim_some, if_pos hx]

theorem keyHeaderRefusal_form (hp : p < 16) (hv : v < 4) (hm : m < 2) (hr : s.paper? p = some r)
    (hx : v < r.versions) (hf : s.mru.forms.find r.form ≠ some q) :
    s.keyHeaderRefusal p v q m = some .wrongForm := by
  rw [keyHeaderRefusal_inRange hp hv hm, hr, Option.elim_some, if_neg (Nat.not_le.mpr hx), if_pos (by simpa using hf)]

/-- The form's questions agree: with CONTINUE the staging key decides. -/
theorem keyHeaderRefusal_staging (hp : p < 16) (hv : v < 4) (hm : m < 2) (hr : s.paper? p = some r)
    (hx : v < r.versions) (hf : s.mru.forms.find r.form = some q) :
    s.keyHeaderRefusal p v q m =
      if m == 1 && !(s.mru.staging.map fun g => g.paper == p && g.version == v).getD false then some .wrongState
      else none := by
  rw [keyHeaderRefusal_inRange hp hv hm, hr, Option.elim_some, if_neg (Nat.not_le.mpr hx), if_neg (by simp [hf])]

theorem exec_loadKey_refused (hs : s.ready = true) {l : Nat} (hl : 11 ≤ l ∧ l ≤ 234) {x : Reason}
    (hx : s.keyHeaderRefusal p v q m = some x) :
    exec (.loadKey l p v q m true) s = .next (s.batchBegun (.loadKey p v q m) true (l - 6) (some x)) := by
  rw [exec_loadKey_ready hs, (keyLengthOk_iff l).mpr hl, receiveHeader_refused (h := .loadKey p v q m) hs hx]

theorem exec_loadKey_accepted (hs : s.ready = true) {l : Nat} (hl : 11 ≤ l ∧ l ≤ 234)
    (hx : s.keyHeaderRefusal p v q m = none) :
    exec (.loadKey l p v q m true) s =
      .next ((startStaging p v q m s).batchBegun (.loadKey p v q m) true (l - 6) none) := by
  rw [exec_loadKey_ready hs, (keyLengthOk_iff l).mpr hl, receiveHeader_accepted (h := .loadKey p v q m) hs hx]
  rfl

/-! ### The check character (R170) -/

theorem exec_batchRecordEnd {b : Batch} (hc : s.calm = true) (hd : s.deaf = false) (hr : s.sli.receive = .inBatch b false)
    (hl : b.left = 0) (ht : s.sli.taken = some (.batch t)) (sumOk : Bool) :
    exec (.batchRecordEnd sumOk) s =
      .next (addReply t.header.kind (s.batchAnswer t sumOk)
        { s with sli := { s.sli with receive := .idle, taken := none } }) := by
  have ends : exec (.batchRecordEnd sumOk) s = .next (receiveEnd sumOk s) :=
    congrArg Host.Outcome.next (settled_calm hc _)
  rw [ends]
  simp only [receiveEnd, hd, hr, hl, bne_self_eq_false, Bool.and_false, Bool.false_eq_true, if_false, setReceive, ht]
  rfl

theorem batchAnswer_broken (sumOk : Bool) (hx : t.stopped = true ∨ sumOk = false) :
    s.batchAnswer t sumOk = ⟨.broken, .checkError, batchFields t.answers⟩ := by
  rw [State.batchAnswer, if_pos (by simpa using hx)]

theorem batchAnswer_refused (hx : t.stopped = false) {r : Reason} (hr : t.refusal = some r) :
    s.batchAnswer t true = ⟨.refused, r, batchFields t.answers⟩ := by
  simp only [State.batchAnswer, hx, hr, Bool.not_true, Bool.or_false, Bool.false_eq_true, if_false]

/-- A header taken: the entries' answers decide. -/
theorem batchAnswer_entries (hx : t.stopped = false) (hr : t.refusal = none) :
    s.batchAnswer t true =
      ⟨(batchOutcome t.answers).1, (batchOutcome t.answers).2, batchFields t.answers ++ s.recordFields t⟩ := by
  simp only [State.batchAnswer, hx, hr, Bool.not_true, Bool.or_false, Bool.false_eq_true, if_false]

variable {l : List Answer}

theorem batchOutcome_refused {a : Answer} (ha : l.find? (fun a => a.result == .refused) = some a) :
    batchOutcome l = (.refused, a.reason) := by
  simp only [batchOutcome, ha]

theorem batchOutcome_clamped (hn : ∀ a ∈ l, a.result ≠ .refused) (hc : ∃ a ∈ l, a.result = .clamped) :
    batchOutcome l = (.clamped, .none) := by
  have none : l.find? (fun a => a.result == .refused) = none := by simpa using hn
  have any : (l.any fun a => a.result == .clamped) = true := by simpa using hc
  simp only [batchOutcome, none, any, if_true]

theorem batchOutcome_done (hn : ∀ a ∈ l, a.result = .done) : batchOutcome l = (.done, .none) := by
  have none : l.find? (fun a => a.result == .refused) = none := by
    simp only [List.find?_eq_none, beq_iff_eq]
    intro a ha hx
    rw [hn a ha] at hx
    cases hx
  have any : (l.any fun a => a.result == .clamped) = false := by
    simp only [List.any_eq_false, beq_iff_eq]
    intro a ha hx
    rw [hn a ha] at hx
    cases hx
  simp only [batchOutcome, none, any, Bool.false_eq_true, if_false]

/-- What a batch answers at its check character, its fields given as those of its entries and the record's own: the
rules of R170 in their order. -/
theorem batch_ends {b : Batch} (hc : s.calm = true) (hd : s.deaf = false) (hr : s.sli.receive = .inBatch b false)
    (hl : b.left = 0) (ht : s.sli.taken = some (.batch t)) :
    let answered (o : Result) (r : Reason) (own : List Field) : Host.Outcome State Fault Refusal :=
      .next (addReply t.header.kind ⟨o, r, batchFields t.answers ++ own⟩
        { s with sli := { s.sli with receive := .idle, taken := none } })
    exec (.batchRecordEnd false) s = answered .broken .checkError []
    ∧ (t.stopped = true → exec (.batchRecordEnd true) s = answered .broken .checkError [])
    ∧ (t.stopped = false →
      (∀ r, t.refusal = some r → exec (.batchRecordEnd true) s = answered .refused r [])
      ∧ (t.refusal = none →
        (∀ a, t.answers.find? (fun a => a.result == .refused) = some a →
          exec (.batchRecordEnd true) s = answered .refused a.reason (s.recordFields t))
        ∧ ((∀ a ∈ t.answers, a.result ≠ .refused) → (∃ a ∈ t.answers, a.result = .clamped) →
          exec (.batchRecordEnd true) s = answered .clamped .none (s.recordFields t))
        ∧ ((∀ a ∈ t.answers, a.result = .done) →
          exec (.batchRecordEnd true) s = answered .done .none (s.recordFields t)))) := by
  simp only [exec_batchRecordEnd hc hd hr hl ht, List.append_nil]
  refine ⟨by rw [batchAnswer_broken false (.inr rfl)], fun hx => by rw [batchAnswer_broken true (.inl hx)],
    fun hx => ⟨fun r hr => by rw [batchAnswer_refused hx hr], fun hr => ?_⟩⟩
  rw [batchAnswer_entries hx hr]
  exact ⟨fun a ha => by rw [batchOutcome_refused ha], fun hn hc => by rw [batchOutcome_clamped hn hc],
    fun hn => by rw [batchOutcome_done hn]⟩

/-! ### O54 -/

/-- Settles O54, from what becomes of a header and from the answer at the check character. -/
theorem batchRecordsBeginAndEnd : Obligations.BatchRecordsBeginAndEnd := by
  unfold Obligations.BatchRecordsBeginAndEnd
  refine ⟨⟨⟨fun s hs => ⟨fun n h1 h8 => ?_, fun l n hx => ?_, fun n c h1 h12 => ?_, fun l p v q m h11 h234 hx => ?_,
    fun l p v q r h11 h234 hp hv hr hver => ⟨fun hf => ?_, fun hf => ?_⟩⟩, fun s b t hc hd hr hl ht hh => ?_⟩,
    fun s b t hc hd hr hl ht => ⟨fun c hh => ?_, fun p v q m hh => ?_⟩⟩, fun s hs => ⟨fun n h1 h8 => ?_,
    fun n c h1 h12 => ?_, fun l p v q m h11 h234 => ?_, fun l c n ok hx => ?_, fun l p v q m ok hx => ?_,
    fun l p v q m h11 h234 hp hv hm => ⟨fun hr => ?_, fun r hr => ⟨fun hver => ?_, fun hver hf => ?_,
      fun hver hf hm1 => ⟨fun hg => ?_, fun hg => ?_⟩⟩⟩⟩⟩
  · rw [exec_loadCandidates_ready hs, (candidatesLengthOk_iff _ _).mpr ⟨h1, h8, rfl⟩, receiveHeader_accepted hs rfl,
      Nat.add_sub_cancel_left]
    rfl
  · have hlen : candidatesLengthOk l n = false := by
      rw [Bool.eq_false_iff, ne_eq, candidatesLengthOk_iff]
      omega
    rw [exec_loadCandidates_ready hs, hlen, receiveHeader_badLength hs]
    rfl
  · rw [exec_confirm_ready hs, (confirmLengthOk_iff _ _).mpr ⟨h1, h12, rfl⟩, Nat.add_sub_cancel_left]
    by_cases hc : 8 ≤ c
    · rw [if_pos hc, receiveHeader_refused (h := .confirm c) hs (if_pos hc)]
      rfl
    · rw [if_neg hc, receiveHeader_accepted (h := .confirm c) hs (if_neg hc)]
      rfl
  · rw [exec_loadKey_refused hs ⟨h11, h234⟩ (keyHeaderRefusal_range hx)]
    rfl
  · rw [exec_loadKey_refused hs ⟨h11, h234⟩ (keyHeaderRefusal_form hp hv Nat.zero_lt_two hr hver hf)]
    rfl
  · rw [exec_loadKey_accepted hs ⟨h11, h234⟩ (keyHeaderRefusal_staging hp hv Nat.zero_lt_two hr hver hf)]
    rfl
  · have ends := batch_ends hc hd hr hl ht
    have own : s.recordFields t = [] := by rw [State.recordFields, hh]
    simpa only [hh, own, List.append_nil, BatchHeader.kind, batchFields] using ends
  · have own : s.recordFields t = [] := by rw [State.recordFields, hh]
    simpa only [hh, own, BatchHeader.kind, batchFields] using batch_ends hc hd hr hl ht
  · have own : s.recordFields t = [flag t.installed, u16 (s.keyOf p v).generation] := by rw [State.recordFields, hh]
    simpa only [hh, own, BatchHeader.kind, batchFields] using batch_ends hc hd hr hl ht
  · rw [exec_loadCandidates_ready hs, (candidatesLengthOk_iff _ _).mpr ⟨h1, h8, rfl⟩, receiveHeader_broken hs,
      Nat.add_sub_cancel_left]
    rfl
  · rw [exec_confirm_ready hs, (confirmLengthOk_iff _ _).mpr ⟨h1, h12, rfl⟩, receiveHeader_broken hs,
      Nat.add_sub_cancel_left]
    rfl
  · rw [exec_loadKey_ready hs, (keyLengthOk_iff l).mpr ⟨h11, h234⟩, receiveHeader_broken hs]
    rfl
  · have hlen : confirmLengthOk l n = false := by
      rw [Bool.eq_false_iff, ne_eq, confirmLengthOk_iff]
      omega
    have free := ((State.ready_iff s).mp hs).2.1
    rw [exec_confirm_ready hs, hlen, receiveHeader_badLength hs]
    simp only [setReceive, Option.map_none, Option.isSome_none, free]
  · have hlen : keyLengthOk l = false := by
      rw [Bool.eq_false_iff, ne_eq, keyLengthOk_iff]
      omega
    have free := ((State.ready_iff s).mp hs).2.1
    rw [exec_loadKey_ready hs, hlen, receiveHeader_badLength hs]
    simp only [setReceive, Option.map_none, Option.isSome_none, free]
  · have refusal : s.keyHeaderRefusal p v q m = some .notFound := by
      rw [keyHeaderRefusal_inRange hp hv hm, hr, Option.elim_none]
    rw [exec_loadKey_refused hs ⟨h11, h234⟩ refusal]
    rfl
  · rw [exec_loadKey_refused hs ⟨h11, h234⟩ (keyHeaderRefusal_version hp hv hm hr hver)]
    rfl
  · rw [exec_loadKey_refused hs ⟨h11, h234⟩ (keyHeaderRefusal_form hp hv hm hr hver hf)]
    rfl
  · have not : ¬(s.mru.staging.map fun g => g.paper == p && g.version == v).getD false = true := by
      rw [staging_of_iff]
      rintro ⟨g, hs, h1, h2⟩
      exact (hg g hs).elim (fun h => h h1) (fun h => h h2)
    have refusal : s.keyHeaderRefusal p v q m = some .wrongState := by
      rw [keyHeaderRefusal_staging hp hv hm hr hver hf, Bool.eq_false_iff.mpr not, hm1]
      rfl
    rw [exec_loadKey_refused hs ⟨h11, h234⟩ refusal]
    rfl
  · have refusal : s.keyHeaderRefusal p v q m = none := by
      rw [keyHeaderRefusal_staging hp hv hm hr hver hf, staging_of_iff.mpr hg, hm1]
      rfl
    rw [exec_loadKey_accepted hs ⟨h11, h234⟩ refusal, hm1]
    rfl

end Sys2Proof.Machine

/-! PROOFS. Requests that wait, and batches taken after their header's arrival (O53). -/

namespace Sys2Proof.Machine

set_option Elab.async false

/-! ### What entries do, they do whatever the link, the time base and the due list hold -/

/-- A state's records, queue of notices and time of day, with the rest of its link, its time base and its due list those
of another state. -/
def State.under (s o : State) : State :=
  { s with
    sli := { o.sli with notices := s.sli.notices, lost := s.sli.lost }
    htb := { o.htb with time := s.htb.time }
    due := o.due }

theorem State.under_self (s : State) : s.under s = s := rfl

/-- An operation that neither reads nor changes what `State.under` replaces. -/
def FreeOfLink (f : State → State) : Prop := ∀ s o : State, f (s.under o) = (f s).under o

/-- The same of an operation that gives a result beside the next state. -/
def AnswersFreeOfLink {α : Type} (f : State → State × α) : Prop :=
  ∀ s o : State, f (s.under o) = ((f s).1.under o, (f s).2)

theorem FreeOfLink.comp {f g : State → State} (hf : FreeOfLink f) (hg : FreeOfLink g) : FreeOfLink fun s => f (g s) :=
  fun s o => (congrArg f (hg s o)).trans (hf (g s) o)

theorem FreeOfLink.ite {f g : State → State} {p : State → Prop} [∀ s, Decidable (p s)]
    (hp : ∀ s o : State, p (s.under o) = p s) (hf : FreeOfLink f) (hg : FreeOfLink g) :
    FreeOfLink fun s => if p s then f s else g s := by
  intro s o
  dsimp only
  by_cases h : p s
  · rw [if_pos ((hp s o).symm ▸ h), if_pos h, hf s o]
  · rw [if_neg ((hp s o).symm ▸ h), if_neg h, hg s o]

theorem FreeOfLink.id : FreeOfLink fun s => s := fun _ _ => rfl

theorem FreeOfLink.foldl {α : Type} {f : State → α → State} (hf : ∀ a, FreeOfLink fun s => f s a) (l : List α) :
    FreeOfLink fun s => l.foldl f s := by
  intro s o
  induction l generalizing s with
  | nil => rfl
  | cons a l ih => exact (congrArg (l.foldl f) (hf a s o)).trans (ih (f s a))

theorem joinQueue_freeOfLink (n : Notice) : FreeOfLink (joinQueue n) :=
  FreeOfLink.ite (p := fun s => s.sli.notices.length < Config.noticeLimit) (fun _ _ => rfl) (fun _ _ => rfl)
    fun _ _ => rfl

theorem notify_freeOfLink (k : NoticeKind) (l : List Field) : FreeOfLink (notify k l) :=
  fun s o => joinQueue_freeOfLink ⟨k, s.htb.time, l⟩ s o

theorem capture_freeOfLink (f : FaultReport) : FreeOfLink (capture f) := by
  intro s o
  have same : (s.under o).fcu = s.fcu := rfl
  simp only [capture, same]
  cases s.fcu.capture <;> rfl

theorem notifyFault_freeOfLink (f : FaultReport) : FreeOfLink (notifyFault f) :=
  FreeOfLink.ite (p := fun s => (f.kind == .corrected && s.mru.marker.isSome) = true) (fun _ _ => rfl)
    (FreeOfLink.ite (p := fun s => s.fcu.held.length < Config.heldLimit) (fun _ _ => rfl) (fun _ _ => rfl)
      fun _ _ => rfl)
    (notify_freeOfLink _ _)

theorem takeFault_freeOfLink (a : FaultSource) (b : FaultRecord) (i : Option Nat) (k : FaultKind) :
    FreeOfLink (takeFault a b i k) := by
  intro s o
  have captured : FreeOfLink fun t => if t.fcu.level.captures k = true then capture ⟨a, b, i, k, s.htb.time⟩ t else t :=
    FreeOfLink.ite (fun _ _ => rfl) (capture_freeOfLink _) .id
  have told : FreeOfLink fun t => if t.fcu.level.reports k = true then notifyFault ⟨a, b, i, k, s.htb.time⟩ t else t :=
    FreeOfLink.ite (fun _ _ => rfl) (notifyFault_freeOfLink _) .id
  exact told.comp captured s o

theorem markSuspect_freeOfLink (r : RecordRef) : FreeOfLink (markSuspect r) := by
  cases r <;> exact fun _ _ => rfl

theorem readWords_freeOfLink (r : RecordRef) (ws : List Nat) : FreeOfLink (readWords r ws) := by
  induction ws with
  | nil => exact .id
  | cons w ws ih =>
    exact FreeOfLink.ite (p := fun s => s.wordLost r w = true) (fun _ _ => rfl)
      ((takeFault_freeOfLink _ _ _ _).comp ((markSuspect_freeOfLink r).comp fun _ _ => rfl))
      (ih.comp ((takeFault_freeOfLink _ _ _ _).comp fun _ _ => rfl))

theorem readRecord_freeOfLink (r : RecordRef) : FreeOfLink (readRecord r) := by
  intro s o
  have same : (s.under o).suspectOf r = s.suspectOf r := by cases r <;> rfl
  have words : (s.under o).wrongWords r = s.wrongWords r := rfl
  rw [readRecord, readRecord, same, words]
  split
  · exact readWords_freeOfLink r _ s o
  · rfl

theorem retryTrigger_freeOfLink : FreeOfLink retryTrigger := fun s o => by
  rw [retryTrigger_eq, retryTrigger_eq]
  rfl

theorem putSeat_freeOfLink (n : Nat) (r : Seat) : FreeOfLink (putSeat n r) := by
  intro s o
  cases h : s.seat? n with
  | none => simp only [putSeat, h, show (s.under o).seat? n = none from h]
  | some old =>
    simp only [putSeat, h, show (s.under o).seat? n = some old from h, seatChanged_eq]
    split
    · exact retryTrigger_freeOfLink { s.withSeat n r with dbc := s.dbc.afterSeat n old r } o
    · rfl

theorem vacateSeat_freeOfLink (n : Nat) : FreeOfLink (vacateSeat n) := by
  intro s o
  cases h : s.seat? n with
  | none => simp only [vacateSeat, h, show (s.under o).seat? n = none from h]
  | some t =>
    simp only [vacateSeat, h, show (s.under o).seat? n = some t from h]
    exact putSeat_freeOfLink n _ s o

theorem collectCandidate_freeOfLink (k e n : Nat) : FreeOfLink (collectCandidate k e n) := by
  intro s o
  cases h : s.slot? k with
  | none => simp only [collectCandidate, h, show (s.under o).slot? k = none from h]
  | some x =>
    simp only [collectCandidate, h, show (s.under o).slot? k = some x from h]
    have moved (f : Candidate → Candidate) : modCand k f (s.under o) = (modCand k f s).under o := rfl
    simp only [moved]
    generalize modCand k _ s = t
    have labels (l : Option Nat) : (t.under o).labelFields l = t.labelFields l := rfl
    simp only [labels]
    split
    · rfl
    · exact notify_freeOfLink _ _ t o

theorem readPaper_freeOfLink (p : Nat) : FreeOfLink (readPaper p) := fun s o =>
  FreeOfLink.foldl (fun k => readRecord_freeOfLink (.candidate k)) (s.rsu.slots.keysWhere (Slot.ofPaper p)) s o

theorem paperCollectedTest_freeOfLink (p : Nat) : FreeOfLink (paperCollectedTest p) :=
  FreeOfLink.ite (p := fun s => s.paperIn p .closed = true) (fun _ _ => rfl)
    (FreeOfLink.comp
      (f := fun s => if ((s.readable p).all fun e => e.2.cand.state != .finished) = true then
        notify .paperCollected [u8 p, u16 (s.returnedTotal p), u16 (s.discrepancies p)] s else s)
      (FreeOfLink.ite (fun _ _ => rfl) (fun s o => notify_freeOfLink _ _ s o) .id)
      (readPaper_freeOfLink p))
    .id

theorem rescoreLater_freeOfLink (p : Nat) : FreeOfLink (rescoreLater p) := by
  have pending : FreeOfLink (rescoreLater.pending p) :=
    FreeOfLink.ite (p := fun s => s.mru.rescorePending.contains p = true) (fun _ _ => rfl) .id fun _ _ => rfl
  intro s o
  have same : (s.under o).mru = s.mru := rfl
  simp only [rescoreLater, same]
  cases s.mru.pass with
  | none => exact pending s o
  | some q =>
    dsimp only
    split
    · rfl
    · exact pending s o

theorem readPaperResults_freeOfLink (p : Nat) : FreeOfLink (readPaperResults p) := fun s o =>
  FreeOfLink.foldl (fun k => readRecord_freeOfLink (.result k)) (s.mru.results.keys.filter (s.slotOfPaper p)) s o

theorem installKey_freeOfLink (g : Staging) : FreeOfLink (installKey g) := by
  intro s o
  have key : (s.under o).keyOf g.paper g.version = s.keyOf g.paper g.version := rfl
  simp only [installKey, readPaperResults_freeOfLink g.paper s o, key]
  generalize readPaperResults g.paper s = t
  have results : (t.under o).mru = t.mru := rfl
  have ofPaper : (t.under o).slotOfPaper = t.slotOfPaper := rfl
  simp only [results, ofPaper]
  split_ifs
  · symm
    refine (rescoreLater_freeOfLink g.paper _ o).symm.trans ?_
    rfl
  · rfl

/-! ### Entries -/

theorem takeCandidateEntry_freeOfLink (k n p c a : Nat) (m b z : Option Nat) :
    AnswersFreeOfLink (takeCandidateEntry k n p c a m b z) := by
  intro s o
  have paper : (s.under o).paper? p = s.paper? p := rfl
  have slot : (s.under o).slot? k = s.slot? k := rfl
  have slots : (s.under o).rsu = s.rsu := rfl
  simp only [takeCandidateEntry, paper, slot, slots]
  cases CandidateClass.ofCode c with
  | none => rfl
  | some cls =>
    dsimp only
    cases s.paper? p with
    | none => split_ifs <;> rfl
    | some r =>
      dsimp only
      split_ifs <;> rfl

theorem takeConfirmEntry_freeOfLink (c n v : Nat) : AnswersFreeOfLink (takeConfirmEntry c n v) := by
  intro s o
  have read (e : Entry) : readSlot e.slot (readSeat n (s.under o)) = (readSlot e.slot (readSeat n s)).under o := by
    rw [readSeat, readRecord_freeOfLink, readSlot, readRecord_freeOfLink]
    rfl
  have collector : (s.under o).collectorOf c = s.collectorOf c := rfl
  simp only [takeConfirmEntry, collector]
  split_ifs
  · rfl
  · rfl
  cases (s.collectorOf c).entryAt n with
  | none => rfl
  | some e =>
    dsimp only
    rw [read e]
    generalize readSlot e.slot (readSeat n s) = t
    have seat : (t.under o).seat? n = t.seat? n := rfl
    have slot : (t.under o).slot? e.slot = t.slot? e.slot := rfl
    have pair : (t.under o).suspectPair n e.slot = t.suspectPair n e.slot := rfl
    rw [seat, slot, pair]
    split_ifs
    · rfl
    cases t.seat? n with
    | none => rfl
    | some r =>
      cases t.slot? e.slot with
      | none => rfl
      | some x =>
        dsimp only
        split_ifs
        · rfl
        · refine congrArg (·, _) ?_
          exact (paperCollectedTest_freeOfLink _).comp
            ((collectCandidate_freeOfLink _ _ _).comp (vacateSeat_freeOfLink n))
            (setCollector c ((s.collectorOf c).without e) t) o

theorem takeKeyEntry_freeOfLink (f r : Nat) (l : List (Nat × Nat)) : AnswersFreeOfLink (takeKeyEntry f r l) := by
  intro s o
  have same : (s.under o).mru = s.mru := rfl
  simp only [takeKeyEntry, same]
  cases s.mru.staging with
  | none => rfl
  | some g =>
    dsimp only
    split_ifs
    · rfl
    cases l.mapM keyEntryOf with
    | none => rfl
    | some es =>
      dsimp only
      split_ifs
      · exact congrArg (·, _) (installKey_freeOfLink _ s o)
      · rfl

theorem runEntry_freeOfLink (h : BatchHeader) (e : BatchEntry) : AnswersFreeOfLink (runEntry h e) := by
  intro s o
  cases h with
  | loadCandidates =>
    cases e with
    | candidate k n p c a m b z => simp only [runEntry, takeCandidateEntry_freeOfLink k n p c a m b z s o]
    | confirm n v => rfl
    | key f r l => rfl
  | confirm c =>
    cases e with
    | candidate k n p c a m b z => rfl
    | confirm n v => simp only [runEntry, takeConfirmEntry_freeOfLink c n v s o]
    | key f r l => rfl
  | loadKey p v q m =>
    cases e with
    | candidate k n p c a m b z => rfl
    | confirm n v => rfl
    | key f r l => exact takeKeyEntry_freeOfLink f r l s o

theorem handEntry_freeOfLink (t : BatchTaken) (e : BatchEntry × Bool) : AnswersFreeOfLink (handEntry t e) := by
  intro s o
  simp only [handEntry, runEntry_freeOfLink t.header e.1 s o]
  split_ifs <;> rfl

theorem handEntries_freeOfLink (l : List (BatchEntry × Bool)) (t : BatchTaken) :
    AnswersFreeOfLink fun s => handEntries l s t := by
  intro s o
  induction l generalizing s t with
  | nil => rfl
  | cons e l ih =>
    simp only [handEntries, handEntry_freeOfLink t e s o]
    exact ih _ _

theorem takeBatch_freeOfLink (b : Batch) : AnswersFreeOfLink (takeBatch b) := by
  intro s o
  have refusal : (s.under o).headerRefusal b.header = s.headerRefusal b.header := by cases b.header <;> rfl
  have start : FreeOfLink (startBatch b.header) := by
    cases b.header with
    | loadCandidates => exact .id
    | confirm c => exact .id
    | loadKey p v q m => exact FreeOfLink.ite (p := fun _ => (m == 0) = true) (fun _ _ => rfl) (fun _ _ => rfl) .id
  have begun := FreeOfLink.ite (p := fun _ =>
    (b.headerOk && (if b.headerOk then s.headerRefusal b.header else none).isNone) = true) (fun _ _ => rfl) start .id s o
  dsimp only at begun
  simp only [takeBatch, refusal]
  rw [begun]
  exact handEntries_freeOfLink b.entries _ _ o

/-! ### A batch taken after its header's arrival (R170) -/

variable {s : State} {h : BatchHeader} {ok : Bool} {es : List (BatchEntry × Bool)}

theorem handEntries_concat (l : List (BatchEntry × Bool)) (e : BatchEntry × Bool) (s : State) (t : BatchTaken) :
    handEntries (l ++ [e]) s t = handEntry (handEntries l s t).2 e (handEntries l s t).1 := by
  induction l generalizing s t with
  | nil => rfl
  | cons x l ih => exact ih _ _

/-- The entries of a batch are handed on one after another. -/
theorem takeBatch_concat (h : BatchHeader) (ok : Bool) (es : List (BatchEntry × Bool)) (e : BatchEntry × Bool)
    (n m : Nat) (x y : Bool) (s : State) :
    takeBatch ⟨h, ok, es ++ [e], n, x⟩ s =
      handEntry (takeBatch ⟨h, ok, es, m, y⟩ s).2 e (takeBatch ⟨h, ok, es, m, y⟩ s).1 :=
  handEntries_concat es e _ _

theorem handEntry_header (t : BatchTaken) (e : BatchEntry × Bool) (s : State) :
    (handEntry t e s).2.header = t.header := by
  unfold handEntry
  split_ifs <;> rfl

theorem takeBatch_header (b : Batch) (s : State) : (takeBatch b s).2.header = b.header := by
  have hands (l : List (BatchEntry × Bool)) (s : State) (t : BatchTaken) : (handEntries l s t).2.header = t.header := by
    induction l generalizing s t with
    | nil => rfl
    | cons e l ih => exact (ih _ _).trans (handEntry_header t e s)
  exact hands b.entries _ _

/-- A batch whose header has arrived with so many body characters to come, and these entries complete. -/
def State.arriving (s : State) (h : BatchHeader) (ok : Bool) (es : List (BatchEntry × Bool)) (left : Nat) : State :=
  setReceive (.inBatch ⟨h, ok, es, left, true⟩ false) s

/-- That batch being taken, all its entries handed on: the owner's work is what it is on any other link. -/
def State.takenBatch (s : State) (h : BatchHeader) (ok : Bool) (es : List (BatchEntry × Bool)) (left : Nat) : State :=
  setTaken (some (.batch (takeBatch ⟨h, ok, es, left, true⟩ s).2))
    ((takeBatch ⟨h, ok, es, left, true⟩ s).1.under (s.arriving h ok [] left))

theorem takeNext_arriving (hs : s.ready = true) (left : Nat) :
    takeNext (s.arriving h ok es left) = takeArriving (s.arriving h ok es left) :=
  if_neg (by rw [State.arriving, setReceive, ((State.ready_iff s).mp hs).2.2.1]; exact Bool.false_ne_true)

/-- A header that arrived while the place was occupied is taken as at its arrival. -/
theorem exec_waitingRequestTaken_header (hs : s.ready = true) (left : Nat) :
    exec .waitingRequestTaken (s.arriving h ok [] left) = .next (receiveHeader h ok left true s) :=
  congrArg Host.Outcome.next ((takeNext_arriving hs left).trans (receiveHeader_ready hs ok left true).symm)

theorem exec_waitingRequestTaken_arriving (hs : s.ready = true) (left : Nat) :
    exec .waitingRequestTaken (s.arriving h ok es left) = .next (s.takenBatch h ok es left) := by
  obtain ⟨hc, ht, hw, hr, hd⟩ := (State.ready_iff s).mp hs
  have free := takeBatch_freeOfLink ⟨h, ok, es, left, true⟩ s (s.arriving h ok [] left)
  refine congrArg Host.Outcome.next ((takeNext_arriving hs left).trans ((takeArriving_free rfl ht hw).trans ?_))
  exact congrArg (fun x => setTaken (some (.batch x.2)) x.1) free

/-- While a record is being sent, nothing of the part's own is due with the batch being taken. -/
theorem takenBatch_calm (hs : s.ready = true) (hx : s.sli.sending.isSome = true) (left : Nat) :
    (s.takenBatch h ok es left).calm = true := by
  obtain ⟨hc, ht, hw, hr, hd⟩ := (State.ready_iff s).mp hs
  obtain ⟨hdue, hsec, href, _, _⟩ := (State.calm_iff s).mp hc
  have busy : (s.takenBatch h ok es left).sli.outputBusy = true := by
    rw [Sli.outputBusy, show (s.takenBatch h ok es left).sli.sending = s.sli.sending from rfl, hx]
    rfl
  exact (State.calm_iff _).mpr ⟨hdue, hsec, href, busy, .inl rfl⟩

theorem takenBatch_deaf (hs : s.ready = true) (left : Nat) : (s.takenBatch h ok es left).deaf = false :=
  ((State.ready_iff s).mp hs).2.2.2.2

/-- An entry that arrives once the batch is taken is handed on as one that arrived before. -/
theorem receiveEntry_takenBatch (hs : s.ready = true) {e : BatchEntry} {x : Bool} {size left : Nat} (he : h.holds e = true)
    (hl : size ≤ left) (h0 : 0 < size) :
    receiveEntry e x size (s.takenBatch h ok es left) = s.takenBatch h ok (es ++ [(e, x)]) (left - size) := by
  let taken := takeBatch ⟨h, ok, es, left, true⟩ s
  have before := takeBatch_concat h ok es (e, x) (left - size) left true true s
  have handed := handEntry_freeOfLink taken.2 (e, x) taken.1
    (setTaken (some (.batch taken.2)) (s.arriving h ok [] (left - size)))
  rw [receiveEntry_taken (takenBatch_deaf hs left) (b := ⟨h, ok, [], left, true⟩) rfl he hl (by dsimp only; omega) rfl,
    State.takenBatch, State.takenBatch, before]
  exact congrArg (fun y : State × BatchTaken => setTaken (some (.batch y.2)) y.1) handed

theorem takeNext_batch {b : Batch} (ht : s.sli.taken = none) (hw : s.sli.waiting = some (.batch b)) :
    takeNext s = takeWholeBatch b (setWaiting none s) := by
  simp only [takeNext, hw, Option.isSome_some, if_true, takeWaitingRequest, ht]

theorem takeNext_request {i : Instr} (ht : s.sli.taken = none) (hw : s.sli.waiting = some (.request i)) :
    takeNext s = takeRequest i (setWaiting none s) := by
  simp only [takeNext, hw, Option.isSome_some, if_true, takeWaitingRequest, ht]

/-- The waiting place emptied again is as it was. -/
theorem setWaiting_none (hw : s.sli.waiting = none) (w : Option Waiting) :
    setWaiting none { s with sli := { s.sli with waiting := w } } = s := by
  have same : setWaiting s.sli.waiting { s with sli := { s.sli with waiting := w } } = s := rfl
  rwa [hw] at same

/-- The check character of the batch taken makes the reply of one that waited whole. -/
theorem exec_batchRecordEnd_takenBatch (hs : s.ready = true) (hx : s.sli.sending.isSome = true) :
    exec (.batchRecordEnd true) (s.takenBatch h ok es 0) =
      exec .waitingRequestTaken { s with sli := { s.sli with waiting := some (.batch ⟨h, ok, es, 0, true⟩) } } := by
  obtain ⟨hc, ht, hw, hr, hd⟩ := (State.ready_iff s).mp hs
  have whole : takeNext { s with sli := { s.sli with waiting := some (.batch ⟨h, ok, es, 0, true⟩) } } =
      takeWholeBatch ⟨h, ok, es, 0, true⟩ s := by
    refine (takeNext_batch ?_ rfl).trans (congrArg (takeWholeBatch _) (setWaiting_none hw _))
    exact ht
  have same : (takeBatch ⟨h, ok, es, 0, true⟩ s).1 = (takeBatch ⟨h, ok, es, 0, true⟩ s).1.under s :=
    congrArg Prod.fst (takeBatch_freeOfLink ⟨h, ok, es, 0, true⟩ s s)
  have idle : setTaken none (setReceive .idle s) = s := by
    rw [← ht, ← hr]
    rfl
  have free : setTaken none (setReceive .idle (s.takenBatch h ok es 0)) = (takeBatch ⟨h, ok, es, 0, true⟩ s).1 := by
    rw [same, ← congrArg (State.under _) idle]
    rfl
  refine (exec_batchRecordEnd (b := ⟨h, ok, [], 0, true⟩) (t := (takeBatch ⟨h, ok, es, 0, true⟩ s).2)
    (takenBatch_calm hs hx 0) (takenBatch_deaf hs 0) rfl rfl rfl true).trans (congrArg Host.Outcome.next ?_)
  rw [whole, takeWholeBatch, takeBatch_header]
  exact congrArg (addReply h.kind _) free

/-! ### Requests that wait (R168, R169) -/

/-- Every request that can arrive arrives as its whole record does; the batch kinds come in parts. -/
theorem exec_request {i : Instr} {k : Nat} (hk : requestKind i = some k) (hw : i.wellFormed = true) (h1 : k ≠ 32)
    (h2 : k ≠ 99) (h3 : k ≠ 113) (s : State) : exec i s = .next (settled (receiveRequest i) s) := by
  cases i
  case setWarnings p l =>
    have hl : l.length ≤ 4 := by
      simp only [Instr.wellFormed, fitsList, Bool.and_eq_true, decide_eq_true_eq] at hw
      exact hw.2.1
    have whole : receiveWarnings p l = receiveRequest (.setWarnings p l) := by
      funext t
      simp [receiveWarnings, hl]
    exact congrArg (fun f => Host.Outcome.next (settled f s)) whole
  case loadCandidates => exact absurd (Option.some.inj hk).symm h1
  case confirm => exact absurd (Option.some.inj hk).symm h2
  case loadKey => exact absurd (Option.some.inj hk).symm h3
  all_goals first | (cases hk; done) | rfl

theorem receiveRequest_deaf (hr : s.sli.receive = .idle) (hd : s.deaf = true) (i : Instr) : receiveRequest i s = s := by
  simp only [receiveRequest, arrive, hd, if_true, loseCharacters_idle hr]

/-- With the taken place occupied a request waits, or is answered OVERRUN. -/
theorem receiveRequest_occupied {i : Instr} {k : Nat} (hk : requestKind i = some k) (hr : s.sli.receive = .idle)
    (hd : s.deaf = false) (ht : s.sli.taken.isSome = true) : receiveRequest i s =
      if s.sli.waiting.isNone then setWaiting (some (.request i)) s else s.refused k .overrun := by
  have occupied : s.sli.taken.isNone = false := by
    obtain ⟨x, hx⟩ := Option.isSome_iff_exists.mp ht
    rw [hx]
    rfl
  simp only [receiveRequest, arrive, hd, breakRecord_idle hr, placeRequest, occupied, hk, Option.getD_some,
    Bool.false_eq_true, if_false]
  rfl

/-- Nothing waits and no record is in progress. -/
theorem takeNext_nothing (hw : s.sli.waiting = none) (hr : s.sli.receive = .idle) : takeNext s = s := by
  simp only [takeNext, hw, Option.isSome_none, Bool.false_eq_true, if_false, takeArriving, hr]

theorem takeNext_occupied {w : Waiting} (ht : s.sli.taken.isSome = true) (hw : s.sli.waiting = some w) :
    takeNext s = s := by
  rw [takeNext, hw, Option.isSome_some, if_pos rfl, takeWaitingRequest_calm (.inl ht)]

/-- A request taken from the waiting place is taken as at its arrival. -/
theorem exec_waitingRequestTaken_request (hs : s.ready = true) (i : Instr) :
    exec .waitingRequestTaken { s with sli := { s.sli with waiting := some (.request i) } } = .next (takeRequest i s) := by
  obtain ⟨hc, ht, hw, hr, hd⟩ := (State.ready_iff s).mp hs
  refine congrArg Host.Outcome.next ((takeNext_request ?_ rfl).trans (congrArg (takeRequest i) (setWaiting_none hw _)))
  exact ht

/-! ### O53 -/

theorem BatchHeader.holds_candidate {k n p c a : Nat} {m w z : Option Nat} (hk : h.kind = 32) :
    h.holds (.candidate k n p c a m w z) = true := by
  cases h <;> first | rfl | cases hk

theorem BatchHeader.holds_confirm {n v : Nat} (hk : h.kind = 99) : h.holds (.confirm n v) = true := by
  cases h <;> first | rfl | cases hk

theorem BatchHeader.holds_key {f r : Nat} {l : List (Nat × Nat)} (hk : h.kind = 113) : h.holds (.key f r l) = true := by
  cases h <;> first | rfl | cases hk

/-- Settles O53, from what becomes of a request on an occupied link and from the batch taken after its header's
arrival. -/
theorem requestsWaitTheirTurn : Obligations.RequestsWaitTheirTurn := by
  unfold Obligations.RequestsWaitTheirTurn
  refine ⟨⟨fun s i k hc hr hk hw h1 h2 h3 ht => ?_, fun s i k hk hw h1 h2 h3 hs => ?_, fun s hs => ?_,
    fun s hw hr => congrArg Host.Outcome.next (takeNext_nothing hw hr),
    fun s w ht hw => congrArg Host.Outcome.next (takeNext_occupied ht hw)⟩, fun s hs =>
    ⟨fun ok n h1 h8 => ?_, fun c ok n h1 h12 => ?_, fun l p v q m ok h11 h234 => ?_, fun h ok es => ⟨?_, fun hx => ⟨?_, ?_⟩⟩⟩⟩
  · rw [exec_request hk hw h1 h2 h3, settled_calm hc]
    refine ⟨fun hd => by rw [receiveRequest_deaf hr hd], fun hd hn => ?_, fun hd hn => ?_⟩
    · rw [receiveRequest_occupied hk hr hd ht, if_pos (by rw [hn]; rfl)]
      rfl
    · rw [receiveRequest_occupied hk hr hd ht, if_neg (by simpa [Option.isSome_iff_ne_none] using hn)]
  · refine ⟨takeRequest i s, exec_waitingRequestTaken_request hs i, ?_⟩
    rw [exec_request hk hw h1 h2 h3, receiveRequest_ready hs]
  · rw [exec_waitingRequestTaken_request hs, takeRequest_other rfl (by decide)]
    refine congrArg (fun l => Host.Outcome.next (State.replied _ 129 (l ++ [flag s.fcu.further]))) ?_
    cases s.fcu.capture <;> rfl
  · rw [exec_loadCandidates_ready hs, (candidatesLengthOk_iff _ _).mpr ⟨h1, h8, rfl⟩, Nat.add_sub_cancel_left]
    exact exec_waitingRequestTaken_header hs _
  · rw [exec_confirm_ready hs, (confirmLengthOk_iff _ _).mpr ⟨h1, h12, rfl⟩, Nat.add_sub_cancel_left]
    exact exec_waitingRequestTaken_header hs _
  · rw [exec_loadKey_ready hs, (keyLengthOk_iff l).mpr ⟨h11, h234⟩]
    exact exec_waitingRequestTaken_header hs _
  · exact ⟨_, _, exec_waitingRequestTaken_arriving hs 0, rfl⟩
  · intro t ht
    rw [← Host.Outcome.next.inj ((exec_waitingRequestTaken_arriving hs 0).symm.trans ht)]
    exact exec_batchRecordEnd_takenBatch hs hx
  · intro left t ht
    rw [← Host.Outcome.next.inj ((exec_waitingRequestTaken_arriving hs left).symm.trans ht)]
    have calm := takenBatch_calm (h := h) (ok := ok) (es := es) hs hx left
    have later {e : BatchEntry} {x : Bool} {size : Nat} (he : h.holds e = true) (hl : size ≤ left) (h0 : 0 < size) :
        .next (settled (receiveEntry e x size) (s.takenBatch h ok es left)) =
          exec .waitingRequestTaken (s.arriving h ok (es ++ [(e, x)]) (left - size)) := by
      rw [settled_calm calm, receiveEntry_takenBatch hs he hl h0, exec_waitingRequestTaken_arriving hs]
    exact ⟨fun n v e hl hk => later (BatchHeader.holds_confirm hk) hl (by omega),
      fun k n p c a m w z e hl hk => later (BatchHeader.holds_candidate hk) hl (by omega),
      fun f r l e hl hk => later (BatchHeader.holds_key hk) hl (by omega)⟩

end Sys2Proof.Machine

/-! PROOFS. Reads that find wrong bits (R177), and the requests on forms and marking settings (O44). -/

namespace Sys2Proof.Machine

set_option Elab.async false

variable {s : State}

/-! ### A read that finds a word lost (R177) -/

/-- The record is not suspect, and the one upset of table memory has lost a word of it. -/
theorem readRecord_lost {r : RecordRef} {w : Nat} (hr : s.suspectOf r = some false) (hu : s.upsets = [⟨r, w, true⟩]) :
    readRecord r s = takeFault .table (recordKind r) (some (recordIndex r)) .uncorrectable
      (markSuspect r { s with upsets := [] }) := by
  have words : s.wrongWords r = [w] := by
    simp [State.wrongWords, hu, dedup, sortBy, insertBy]
  have lost : s.wordLost r w = true := by
    simp [State.wordLost, hu, inWord]
  have mended : mendRecord r s = { s with upsets := [] } := by
    simp [mendRecord, hu]
  rw [readRecord, if_pos hr, words, readWords, if_pos lost, mended]

/-! ### DEFINE FORM (R138) -/

theorem readResults_clean (h : s.clean = true) : readResults s = s := by
  unfold readResults
  induction s.mru.results.keys with
  | nil => rfl
  | cons k l ih => rwa [List.foldl_cons, readResult_clean h]

section
variable {f q : Nat}

theorem takeDefineForm_bad (h : 4 ≤ f ∨ q = 0 ∨ 120 < q) : takeDefineForm f q s = refuse s .badValue := by
  refine if_pos ?_
  rw [Bool.or_eq_true, Bool.or_eq_true, decide_eq_true_eq, decide_eq_true_eq, decide_eq_true_eq, or_assoc, Nat.lt_one_iff]
  exact h

variable (hf : f < 4) (h1 : 1 ≤ q) (h120 : q ≤ 120)
include hf h1 h120

/-- The values in their ranges, the results once read decide. -/
theorem takeDefineForm_inside : takeDefineForm f q s =
    if (readResults s).formInUse f then refuse (readResults s) .wrongState
    else if s.mru.results.count (·.suspect) < (readResults s).mru.results.count (·.suspect) then
      refuse (readResults s) .suspect
    else if (readResults s).ssu.papers.any fun r => r.form == f && decide (q < lastSection r.sections) then
      refuse (readResults s) .conflict
    else done (if ((readResults s).mru.forms.find f).isSome && (readResults s).mru.forms.find f != some q then
        formKeysFollow f { readResults s with mru := { (readResults s).mru with forms := (readResults s).mru.forms.put f q } }
      else { readResults s with mru := { (readResults s).mru with forms := (readResults s).mru.forms.put f q } })
      [u8 (rowsPerFrame q)] := by
  refine if_neg ?_
  rw [Bool.or_eq_true, Bool.or_eq_true, decide_eq_true_eq, decide_eq_true_eq, decide_eq_true_eq, or_assoc, Nat.lt_one_iff]
  exact fun h => h.elim (Nat.not_le.mpr hf) fun h => by omega

variable (hc : s.clean = true)
include hc

theorem takeDefineForm_inUse (hu : s.formInUse f = true) : takeDefineForm f q s = refuse s .wrongState := by
  rw [takeDefineForm_inside hf h1 h120, readResults_clean hc, if_pos hu]

variable (hu : s.formInUse f = false)
include hu

theorem takeDefineForm_conflict (hx : ∃ e ∈ s.ssu.papers, e.2.form = f ∧ q < e.2.sections.getLast?.getD 1) :
    takeDefineForm f q s = refuse s .conflict := by
  obtain ⟨e, he, hform, hq⟩ := hx
  have beyond : (s.ssu.papers.any fun r => r.form == f && decide (q < lastSection r.sections)) = true :=
    Table.any_iff.mpr ⟨e, he, by simp [hform, lastSection, hq]⟩
  rw [takeDefineForm_inside hf h1 h120, readResults_clean hc, hu, if_neg Bool.false_ne_true, if_neg (Nat.lt_irrefl _),
    if_pos beyond]

theorem takeDefineForm_written (hx : ∀ e ∈ s.ssu.papers, e.2.form = f → e.2.sections.getLast?.getD 1 ≤ q) :
    takeDefineForm f q s = done
      (if (s.mru.forms.find f).isSome && s.mru.forms.find f != some q then
        formKeysFollow f { s with mru := { s.mru with forms := s.mru.forms.put f q } }
      else { s with mru := { s.mru with forms := s.mru.forms.put f q } }) [u8 (rowsPerFrame q)] := by
  have within : (s.ssu.papers.any fun r => r.form == f && decide (q < lastSection r.sections)) = false :=
    Table.any_eq_false.mpr fun e he => by
      by_cases hform : e.2.form = f
      · simp [hform, lastSection, Nat.not_lt.mpr (hx e he hform)]
      · simp [hform]
  rw [takeDefineForm_inside hf h1 h120, readResults_clean hc, hu, if_neg Bool.false_ne_true, if_neg (Nat.lt_irrefl _),
    within, if_neg Bool.false_ne_true]

end

/-! ### The keys of a form's papers (R157) -/

/-- The keys of several papers removed, the staging key with them. -/
theorem foldl_removeKeys (ps : List Nat) (s : State) : ∃ keys : Table KeySlot,
    ps.foldl (fun s p => removeKeys p (fun _ => true) s) s =
      { s with mru := { s.mru with keys := keys, staging := s.mru.staging.filter fun g => !ps.contains g.paper } }
    ∧ ∀ p v, v < 4 → (keys.find (p * 4 + v)).getD ⟨none, 0⟩ =
      if p ∈ ps then ⟨none, (s.keyOf p v).generation⟩ else s.keyOf p v := by
  induction ps generalizing s with
  | nil =>
    refine ⟨s.mru.keys, ?_, fun p v _ => by simp [State.keyOf]⟩
    have kept (g : Option Staging) : (g.filter fun g => !([] : List Nat).contains g.paper) = g := by cases g <;> rfl
    rw [kept]
    rfl
  | cons a ps ih =>
    obtain ⟨keys, hstate, hkeys⟩ := ih (removeKeys a (fun _ => true) s)
    refine ⟨keys, ?_, fun p v hv => ?_⟩
    · rw [List.foldl_cons, hstate]
      simp only [removeKeys, Option.filter_filter, Bool.and_true, List.contains_cons, Bool.not_or]
    · rw [hkeys p v hv, keyOf_removeKeys hv]
      by_cases hp : p = a <;> simp [hp]

/-- Settles O44. -/
theorem formAndMarkingRequests : Obligations.FormAndMarkingRequests := by
  unfold Obligations.FormAndMarkingRequests
  refine ⟨⟨⟨fun s f q hs hc => ⟨fun h => ?_, fun hf h1 h120 => ⟨fun hu => ?_, fun hu => ⟨fun hx => ?_, fun hx hold => ?_⟩⟩⟩,
    fun s m p l hs => ?_⟩, fun s f q k w r hs hf h1 h120 hres hr hups hu => ?_⟩,
    fun s f q old hs hc hso hf h1 h120 hu hx hold hne => ?_⟩
  · rw [exec_defineForm_ready hs, takeDefineForm_bad h, finishTaking_refuse]
  · rw [exec_defineForm_ready hs, takeDefineForm_inUse hf h1 h120 hc hu, finishTaking_refuse]
  · rw [exec_defineForm_ready hs, takeDefineForm_conflict hf h1 h120 hc hu hx, finishTaking_refuse]
  · have same : ¬((s.mru.forms.find f).isSome && s.mru.forms.find f != some q) = true := by
      rcases hold with h | h <;> simp [h]
    rw [exec_defineForm_ready hs, takeDefineForm_written hf h1 h120 hc hu hx, if_neg same, finishTaking_done]
    rfl
  · have settings : takeSetMarking m p l s = doneOr (max 40 (min 240 m) != m || max 8 (min 128 p) != p ||
        max 20 (min (max 40 (min 240 m) - 1) l) != l)
        { s with mru := { s.mru with settings := ⟨max 40 (min 240 m), max 8 (min 128 p),
          max 20 (min (max 40 (min 240 m) - 1) l)⟩ } }
        [u8 (max 40 (min 240 m)), u8 (max 8 (min 128 p)), u8 (max 20 (min (max 40 (min 240 m) - 1) l))] := by
      have clamped (a b c : Nat) : ((⟨a, b, c⟩ : Settings) != ⟨m, p, l⟩) = (a != m || b != p || c != l) := by
        rw [Bool.eq_iff_iff]
        simp only [bne_iff_ne, Bool.or_eq_true, ne_eq, Settings.mk.injEq]
        tauto
      simp only [takeSetMarking, clampTo_eq 40 240 m (by omega), clampTo_eq 8 128 p (by omega),
        clampTo_eq 20 (max 40 (min 240 m) - 1) l (by omega), clamped]
    rw [exec_setMarking_ready hs, settings, finishTaking_doneOr]
  · have found : s.mru.results.find k = some r := by simp [hres, Table.find]
    have unsuspect : s.suspectOf (.result k) = some false := by simp [State.suspectOf, found, hr]
    have read : readResults s = takeFault .table .result (some k) .uncorrectable
        (markSuspect (.result k) { s with upsets := [] }) := by
      have one : readResults s = readResult k s := by simp [readResults, hres, Table.keys]
      rw [one, readResult, readRecord_lost unsuspect hups]
      rfl
    have results : (readResults s).mru = { s.mru with results := [(k, { r with suspect := true })] } := by
      simp [read, markSuspect, hres, Table.modify, Table.find, Table.put]
    have papers : (readResults s).ssu = s.ssu := by simp [read, markSuspect]
    have inUse : (readResults s).formInUse f = false := by
      simp only [State.formInUse, hres, Table.any, List.any_cons, List.any_nil, Bool.or_eq_false_iff] at hu
      simp only [State.formInUse, results, papers, Table.any, List.any_cons, List.any_nil, Bool.or_eq_false_iff]
      exact ⟨⟨hu.1.1, rfl, trivial⟩, hu.2⟩
    have more : s.mru.results.count (·.suspect) < (readResults s).mru.results.count (·.suspect) := by
      simp [results, hres, Table.count, hr]
    refine ⟨readResults s, ?_, by rw [results], by rw [results], by simp [read, markSuspect]⟩
    rw [exec_defineForm_ready hs, takeDefineForm_inside hf h1 h120, inUse, if_neg Bool.false_ne_true, if_pos more,
      finishTaking_refuse]
  · have other : ((s.mru.forms.find f).isSome && s.mru.forms.find f != some q) = true := by simp [hold, hne]
    let t : State := { s with mru := { s.mru with forms := s.mru.forms.put f q } }
    obtain ⟨keys, hstate, hkeys⟩ := foldl_removeKeys (s.ssu.papers.keysWhere fun r => r.form == f) t
    have named (p : Nat) : p ∈ (s.ssu.papers.keysWhere fun r => r.form == f) ↔
        ((s.paper? p).map (·.form) == some f) = true := by
      rw [Table.keysWhere, Table.mem_keys_filter ((State.tablesSorted_iff s).mp hso).2.2.2.1]
      simp [State.paper?]
    have contained (p : Nat) : (s.ssu.papers.keysWhere fun r => r.form == f).contains p =
        ((s.paper? p).map (·.form) == some f) := by
      rw [Bool.eq_iff_iff, List.contains_iff_mem, named]
    refine ⟨keys, ?_, fun p v hv => ?_⟩
    · rw [exec_defineForm_ready hs, takeDefineForm_written hf h1 h120 hc hu hx, if_pos other, finishTaking_done,
        formKeysFollow]
      simp only [contained] at hstate
      exact congrArg (fun u => Host.Outcome.next (State.replied u 112 [u8 (10 + q)])) hstate
    · simp only [hkeys p v hv, named]
      rfl

end Sys2Proof.Machine

/-! PROOFS. Frames on the scan link (O45). -/

namespace Sys2Proof.Machine

set_option Elab.async false

variable {s : State} {b f n q serial : Nat} {rows : List (List Byte)}

/-! ### The two buffers -/

theorem filling_zero (h : s.mru.buffer0.state = .filling) : s.filling = some 0 := by
  simp [State.filling, State.bufferOf, h]

theorem filling_one (h0 : s.mru.buffer0.state ≠ .filling) (h1 : s.mru.buffer1.state = .filling) :
    s.filling = some 1 := by
  simp [State.filling, State.bufferOf, h0, h1]

/-- The buffer that is FILLING, no lower one being so. -/
theorem filling_some (hb : b = 0 ∨ (b = 1 ∧ s.mru.buffer0.state ≠ .filling)) (h : (s.bufferOf b).state = .filling) :
    s.filling = some b := by
  rcases hb with rfl | ⟨rfl, h0⟩
  · exact filling_zero h
  · exact filling_one h0 h

theorem freeBuffer_zero (h : s.mru.buffer0.state = .free) : s.freeBuffer = some 0 := by
  simp [State.freeBuffer, State.bufferOf, h]

theorem freeBuffer_one (h0 : s.mru.buffer0.state ≠ .free) (h1 : s.mru.buffer1.state = .free) :
    s.freeBuffer = some 1 := by
  simp [State.freeBuffer, State.bufferOf, h0, h1]

theorem freeBuffer_none (h0 : s.mru.buffer0.state ≠ .free) (h1 : s.mru.buffer1.state ≠ .free) :
    s.freeBuffer = none := by
  simp [State.freeBuffer, State.bufferOf, h0, h1]

theorem setBuffer_eq (b : Nat) (r : Buffer) (s : State) : setBuffer b r s = { s with mru := s.mru.withBuffer b r } := by
  unfold setBuffer Mru.withBuffer
  split <;> rfl

/-! ### FRAME OPEN (R143) -/

/-- The state once a frame that is open is discarded, with no answer and no notice. -/
def State.withoutFrame (s : State) : State := s.filling.elim s fun b => { s with mru := s.mru.withBuffer b .initial }

theorem withoutFrame_closed (h : s.filling = none) : s.withoutFrame = s := by
  rw [State.withoutFrame, h, Option.elim_none]

theorem withoutFrame_zero (h : s.mru.buffer0.state = .filling) :
    s.withoutFrame = { s with mru := { s.mru with buffer0 := .initial } } := by
  rw [State.withoutFrame, filling_zero h, Option.elim_some]
  rfl

theorem withoutFrame_one (h0 : s.mru.buffer0.state ≠ .filling) (h1 : s.mru.buffer1.state = .filling) :
    s.withoutFrame = { s with mru := { s.mru with buffer1 := .initial } } := by
  rw [State.withoutFrame, filling_one h0 h1, Option.elim_some]
  rfl

theorem withoutFrame_forms (s : State) : s.withoutFrame.mru.forms = s.mru.forms := by
  unfold State.withoutFrame Mru.withBuffer
  cases s.filling with
  | none => rfl
  | some b =>
    rw [Option.elim_some]
    split <;> rfl

/-- With no frame left open, the form and the FREE buffers decide. -/
theorem frameOpens_withoutFrame (f n : Nat) (s : State) : frameOpens f n s =
    if (s.mru.forms.find f).isNone then scanAnswer (.reject .noForm (some n)) s.withoutFrame
    else s.withoutFrame.freeBuffer.elim (scanAnswer .busy s.withoutFrame) fun b =>
      setBuffer b ⟨.filling, some f, some n, [], false⟩ s.withoutFrame := by
  rw [← withoutFrame_forms s]
  have discarded : s.withoutFrame = s.filling.elim s fun b => setBuffer b .initial s := by
    cases h : s.filling <;> simp [State.withoutFrame, h, setBuffer_eq]
  rw [discarded]
  unfold frameOpens
  cases s.filling with
  | none =>
    simp only [Option.elim_none]
    cases s.freeBuffer <;> rfl
  | some b =>
    simp only [Option.elim_some]
    cases (setBuffer b .initial s).freeBuffer <;> rfl

theorem frameOpens_noForm (hf : s.mru.forms.find f = none) :
    frameOpens f n s = scanAnswer (.reject .noForm (some n)) s.withoutFrame := by
  simp [frameOpens_withoutFrame, hf]

theorem frameOpens_busy (hf : (s.mru.forms.find f).isSome = true) (hb : s.withoutFrame.freeBuffer = none) :
    frameOpens f n s = scanAnswer .busy s.withoutFrame := by
  obtain ⟨q, hq⟩ := Option.isSome_iff_exists.mp hf
  simp [frameOpens_withoutFrame, hq, hb]

theorem frameOpens_opened (hf : (s.mru.forms.find f).isSome = true) (hb : s.withoutFrame.freeBuffer = some b) :
    frameOpens f n s =
      { s.withoutFrame with mru := s.withoutFrame.mru.withBuffer b ⟨.filling, some f, some n, [], false⟩ } := by
  obtain ⟨q, hq⟩ := Option.isSome_iff_exists.mp hf
  simp [frameOpens_withoutFrame, hq, hb, setBuffer_eq]

/-! ### ROW (R144) and FRAME CLOSE (R145) -/

theorem rejectFrame_eq (hr : s.bufferOf b = ⟨.filling, some f, some serial, rows, false⟩) (cause : RejectCause) :
    rejectFrame b cause s = notify .sheetRejected [u16 serial, u8 f, u8 cause.ctorIdx, u8 rows.length]
      (scanAnswer (.reject cause (some serial)) { s with mru := s.mru.withBuffer b ⟨.free, none, none, [], false⟩ }) := by
  simp only [rejectFrame, hr, setBuffer_eq, Option.getD_some]
  rfl

theorem questionsOf_eq (hr : s.bufferOf b = ⟨.filling, some f, some serial, rows, false⟩)
    (hf : s.mru.forms.find f = some q) : s.questionsOf b = q := by
  simp [State.questionsOf, hr, hf]

section
variable (hb : s.filling = some b) (hr : s.bufferOf b = ⟨.filling, some f, some serial, rows, false⟩)
  (hf : s.mru.forms.find f = some q)
include hb hr hf

theorem rowArrives_open (i : Nat) (l : List Byte) : rowArrives i l s =
    if i ≠ rows.length ∨ 10 + q ≤ i then rejectFrame b .rowOrder s
    else if l.length ≠ rowValues i then rejectFrame b .rowLength s
    else { s with mru := s.mru.withBuffer b ⟨.filling, some f, some serial, rows ++ [l], false⟩ } := by
  simp only [rowArrives, hb, hr, questionsOf_eq hr hf, rowsPerFrame, setBuffer_eq, Bool.or_eq_true, bne_iff_ne,
    decide_eq_true_eq]

theorem frameCloses_open (n : Nat) : frameCloses n s =
    if n ≠ 10 + q ∨ rows.length ≠ 10 + q then rejectFrame b .rowCount s
    else if (references rows).2 < (references rows).1 + 64 then rejectFrame b .lowContrast s
    else scanAnswer (.accept serial) { s with mru := { s.mru.withBuffer b ⟨.full, some f, some serial, rows, false⟩ with
      fullOrder := s.mru.fullOrder ++ [b] } } := by
  have order (r : Buffer) : (s.mru.withBuffer b r).fullOrder = s.mru.fullOrder := by
    unfold Mru.withBuffer
    split <;> rfl
  simp only [frameCloses, hb, hr, questionsOf_eq hr hf, rowsPerFrame, setBuffer_eq, Bool.or_eq_true, bne_iff_ne, order,
    Option.getD_some]

end

/-! ### Broken records (R142, R147) -/

theorem settleWaits_nil (h : s.mru.resendWait = []) (kind : ScanKind) (row : Option Nat) : settleWaits kind row s = s := by
  simp only [settleWaits, h, List.foldl_nil]
  rw [← h]

theorem settleWaits_eq (kind : ScanKind) (row : Option Nat) (s : State) : settleWaits kind row s =
    s.mru.resendWait.foldl (fun t w => takeFault .scan w.kind.faultRecord w.row
      (if w.kind = kind ∧ w.row = row then .corrected else .lost) t) { s with mru := { s.mru with resendWait := [] } } := by
  simp only [settleWaits, settleWait, Bool.and_eq_true, beq_iff_eq]

/-- An operation free of the link keeps a part calm that is sending. -/
theorem FreeOfLink.calm {F : State → State} (hF : FreeOfLink F) (hc : s.calm = true) (hx : s.sli.sending.isSome = true) :
    (F s).calm = true := by
  obtain ⟨hdue, hsec, href, _, ht⟩ := (State.calm_iff s).mp hc
  have same : F s = (F s).under s := hF s s
  have busy : ((F s).under s).sli.outputBusy = true := by
    rw [Sli.outputBusy, show ((F s).under s).sli.sending = s.sli.sending from rfl, hx]
    rfl
  rw [same]
  exact (State.calm_iff _).mpr ⟨hdue, hsec, href, busy, ht⟩

theorem settleWaits_freeOfLink (kind : ScanKind) (row : Option Nat) : FreeOfLink (settleWaits kind row) := by
  intro s o
  rw [settleWaits_eq, settleWaits_eq]
  exact FreeOfLink.foldl (fun w => takeFault_freeOfLink .scan w.kind.faultRecord w.row _) s.mru.resendWait
    { s with mru := { s.mru with resendWait := [] } } o

/-- Settling leaves the Mark Reader Unit with no parity error waiting, and nothing else of it changed. -/
theorem settleWaits_mru (kind : ScanKind) (row : Option Nat) (s : State) :
    (settleWaits kind row s).mru = { s.mru with resendWait := [] } := by
  have kept (l : List ResendWait) (g : ResendWait → FaultKind) (t : State) :
      (l.foldl (fun t w => settleWait (g w) w t) t).mru = t.mru := by
    induction l generalizing t with
    | nil => rfl
    | cons w l ih => rw [List.foldl_cons, ih, settleWait, takeFault_mru]
  exact kept _ _ _

theorem exec_frameOpen (h : s.calm = true) (f n : Nat) :
    exec (.frameOpen f n) s = .next (scanRecord .frameOpen none (frameOpens f n) s) :=
  congrArg Host.Outcome.next (settled_calm h _)

theorem exec_row (h : s.calm = true) (i : Nat) (l : List Byte) :
    exec (.row i l) s = .next (scanRecord .row (some i) (rowArrives i l) s) :=
  congrArg Host.Outcome.next (settled_calm h _)

theorem exec_frameClose (h : s.calm = true) (n : Nat) :
    exec (.frameClose n) s = .next (scanRecord .frameClose none (frameCloses n) s) :=
  congrArg Host.Outcome.next (settled_calm h _)

theorem exec_scanRecordBroken (h : s.calm = true) (k i : Nat) (e : Bool) :
    exec (.scanRecordBroken k i e) s = .next (scanBroken k i e s) :=
  congrArg Host.Outcome.next (settled_calm h _)

theorem exec_scanGap (h : s.calm = true) (m : Bool) : exec (.scanGap m) s = .next (scanSilent m s) :=
  congrArg Host.Outcome.next (settled_calm h _)

theorem scanRecord_taken (hd : s.mru.discarding = false) (kind : ScanKind) (row : Option Nat) (take : State → State) :
    scanRecord kind row take s = take (settleWaits kind row s) := by
  rw [scanRecord, hd, if_neg Bool.false_ne_true]

theorem scanRecord_whole (hd : s.mru.discarding = false) (hw : s.mru.resendWait = []) (kind : ScanKind)
    (row : Option Nat) (take : State → State) : scanRecord kind row take s = take s := by
  rw [scanRecord_taken hd, settleWaits_nil hw]

/-- A record that settles parity errors acts as on the state with them settled. -/
theorem scanRecord_settled (hd : s.mru.discarding = false) (kind : ScanKind) (row : Option Nat) (take : State → State) :
    scanRecord kind row take s = scanRecord kind row take (settleWaits kind row s) := by
  rw [scanRecord_taken hd, scanRecord_whole (by rw [settleWaits_mru]; exact hd) (by rw [settleWaits_mru])]

theorem scanBroken_discarding (hd : s.mru.discarding = true) (k i : Nat) (e : Bool) : scanBroken k i e s = s := by
  rw [scanBroken, if_pos hd]

theorem scanSilent_discarding (hd : s.mru.discarding = true) (m : Bool) :
    scanSilent m s = answerResend { s with mru := { s.mru with discarding := false } } := by
  rw [scanSilent, if_pos hd]

theorem ScanKind.ofCode_eq (k : Nat) : ScanKind.ofCode k = [ScanKind.frameOpen, .row, .frameClose][k]? := rfl

theorem scanBroken_heard (hd : s.mru.discarding = false) {k : Nat} {kind : ScanKind} (hk : ScanKind.ofCode k = some kind)
    (i : Nat) (e : Bool) : scanBroken k i e s = recordBroken kind (if kind = .row then some i else none) e s := by
  rw [scanBroken, hd, if_neg Bool.false_ne_true, hk]
  simp

theorem answerResend_eq (s : State) : answerResend s =
    { s with mru := { s.mru with out := some (.resend (s.filling.map fun b => (s.bufferOf b).rows.length)) } } := rfl

/-- Settles O45, from what each scan event does on each state of the buffers. -/
theorem scanLinkFrames : Obligations.ScanLinkFrames := by
  unfold Obligations.ScanLinkFrames
  refine ⟨⟨fun s hc hd hw => ?_, fun s hc => ⟨fun hd => ⟨fun k i e => ?_, fun m => ?_⟩, fun hd =>
    ⟨fun k i kind hk => ⟨?_, ?_⟩, ?_, ?_⟩⟩⟩, fun s hc hd => ⟨fun hn i l => ?_, fun hx => ⟨fun f n => ?_, fun i l => ?_,
      fun n => ?_⟩, fun hw f n => ?_⟩⟩
  · simp only [exec_frameOpen hc, exec_row hc, exec_frameClose hc, scanRecord_whole hd hw]
    refine ⟨fun f n hn => ⟨fun hf => ?_, fun hf => ⟨fun h0 => ?_, fun h0 h1 => ?_, fun h0 h1 => ?_⟩⟩,
      fun hn => ⟨fun i l => ?_, fun n => ?_⟩, fun b f q serial rows hb hr hf => ?_⟩
    · rw [frameOpens_noForm hf, withoutFrame_closed hn]
      rfl
    · rw [frameOpens_opened hf (by rw [withoutFrame_closed hn]; exact freeBuffer_zero h0), withoutFrame_closed hn]
      rfl
    · rw [frameOpens_opened hf (by rw [withoutFrame_closed hn]; exact freeBuffer_one h0 h1), withoutFrame_closed hn]
      rfl
    · rw [frameOpens_busy hf (by rw [withoutFrame_closed hn]; exact freeBuffer_none h0 h1), withoutFrame_closed hn]
      rfl
    · simp only [rowArrives, hn]
    · simp only [frameCloses, hn]
      rfl
    · have open' : s.filling = some b := filling_some hb (by rw [hr])
      have counts (i : Nat) : rowValues i = if i = 0 then 2 else if i ≤ 8 then 10 else if i = 9 then 4 else 5 := rfl
      refine ⟨fun i l => ⟨fun hx => ?_, fun hi hq => ⟨fun hl => ?_, fun hl => ?_⟩⟩, fun n => ⟨fun hx => ?_,
        fun w k v more hrows hlen hn => ⟨fun hk => ?_, fun hk => ?_⟩⟩⟩
      · rw [rowArrives_open open' hr hf, if_pos hx, rejectFrame_eq hr]
        rfl
      · rw [rowArrives_open open' hr hf, if_neg (by omega), if_pos (by rw [counts]; exact hl), rejectFrame_eq hr]
        rfl
      · rw [rowArrives_open open' hr hf, if_neg (by omega), if_neg (by rw [counts]; exact not_not.mpr hl)]
      · rw [frameCloses_open open' hr hf, if_pos hx, rejectFrame_eq hr]
        rfl
      · rw [frameCloses_open open' hr hf, if_neg (by omega), if_pos (by rw [hrows]; exact hk), rejectFrame_eq hr]
        rfl
      · rw [frameCloses_open open' hr hf, if_neg (by omega), if_neg (by rw [hrows]; exact Nat.not_lt.mpr hk)]
        rfl
  · rw [exec_scanRecordBroken hc, scanBroken_discarding hd]
  · rw [exec_scanGap hc, scanSilent_discarding hd]
    rfl
  · rw [exec_scanRecordBroken hc, scanBroken_heard hd hk]
    rfl
  · rw [exec_scanRecordBroken hc, scanBroken_heard hd hk]
    rfl
  · rw [exec_scanGap hc, scanSilent, hd]
    rfl
  · rw [exec_scanGap hc, scanSilent, hd]
    rfl
  · have closed : (settleWaits .row (some i) s).filling = none := by
      rw [← hn]
      simp only [State.filling, State.bufferOf, settleWaits_mru]
    rw [exec_row hc, scanRecord_taken hd, rowArrives, closed, settleWaits_eq]
  · have calm := (settleWaits_freeOfLink .frameOpen none).calm hc hx
    rw [exec_frameOpen hc, scanRecord_settled hd, ← exec_frameOpen calm, settleWaits_eq]
  · have calm := (settleWaits_freeOfLink .row (some i)).calm hc hx
    rw [exec_row hc, scanRecord_settled hd, ← exec_row calm, settleWaits_eq]
  · have calm := (settleWaits_freeOfLink .frameClose none).calm hc hx
    rw [exec_frameClose hc, scanRecord_settled hd, ← exec_frameClose calm, settleWaits_eq]
  · simp only [exec_frameOpen hc, scanRecord_whole hd hw]
    refine ⟨fun h0 => ⟨fun hf => ?_, fun hf => ?_⟩, fun h0 h1 => ⟨fun hf => ?_, fun hf => ⟨fun hfree => ?_, fun hfree => ?_⟩⟩⟩
    · rw [frameOpens_noForm hf, withoutFrame_zero h0]
      rfl
    · rw [frameOpens_opened hf (by rw [withoutFrame_zero h0]; exact freeBuffer_zero rfl), withoutFrame_zero h0]
      rfl
    · rw [frameOpens_noForm hf, withoutFrame_one h0 h1]
      rfl
    · rw [frameOpens_opened hf (by rw [withoutFrame_one h0 h1]; exact freeBuffer_zero hfree), withoutFrame_one h0 h1]
      rfl
    · rw [frameOpens_opened hf (by rw [withoutFrame_one h0 h1]; exact freeBuffer_one hfree rfl), withoutFrame_one h0 h1]
      rfl

end Sys2Proof.Machine

/-! PROOFS. The station's requests on exception sheets (O48). -/

namespace Sys2Proof.Machine

set_option Elab.async false

variable {s : State} {n number v k : Nat} {e : SheetException} {x : Slot}

/-! ### The marker becomes IDLE (R152, R178) -/

/-- The held CORRECTED notices join the queue, with room for all. -/
theorem releaseHeld_room (h : s.sli.notices.length + s.fcu.held.length ≤ 64) :
    releaseHeld s = State.told { s with fcu := { s.fcu with held := [] } } s.heldNotices := by
  have each (f : FaultReport) (t : State) (ht : t.sli.notices.length < 64) :
      notify .fault f.fields t = t.told [⟨.fault, t.htb.time, f.fields⟩] := notify_told ht _ _
  have all := foldl_told (f := fun t (f : FaultReport) => notify .fault f.fields t)
    (n := fun t f => some ⟨.fault, t.htb.time, f.fields⟩)
    (fun u a hu => each a u (by simpa using hu)) (fun _ _ _ => rfl) s.fcu.held { s with fcu := { s.fcu with held := [] } }
  rw [releaseHeld, all (by rw [List.filterMap_eq_map', List.length_map]; exact h), List.filterMap_eq_map']
  rfl

theorem markerIdle_room (h : s.sli.notices.length + s.fcu.held.length ≤ 64) : markerIdle s =
    { s with
      mru := { s.mru with marker := none }
      sli := { s.sli with notices := s.sli.notices ++ s.heldNotices }
      fcu := { s.fcu with held := [] } } :=
  releaseHeld_room (s := setMarker none s) h

/-! ### DISCARD SHEET and READ EXCEPTION (R165) -/

theorem takeDiscardSheet_none (h : s.exception? n = none) : takeDiscardSheet n s = refuse s .notFound := by
  simp only [takeDiscardSheet, h]

theorem takeDiscardSheet_some (h : s.exception? n = some e) : takeDiscardSheet n s =
    done (if s.retrying n then markerIdle (leaveExceptions n s) else leaveExceptions n s)
      [u16 e.serial, u8 e.reason.ctorIdx] := by
  simp only [takeDiscardSheet, h]

theorem takeReadException_none (h : s.exception? n = none) : takeReadException n s = refuse s .notFound := by
  simp only [takeReadException, h]

theorem takeReadException_some (h : s.exception? n = some e) : takeReadException n s =
    done s ([u16 e.number, u16 e.serial, u8 e.form, u8 e.reason.ctorIdx, ⟨4, e.decNumber⟩, o8 e.decVersion]
      ++ listField (fun o => [o.field]) e.outcomes
      ++ [flag e.queued, o8 (positionOf n (s.mru.exceptions.map (·.number))), u8 s.mru.exceptions.length]) := by
  simp only [takeReadException, h]

/-! ### ASSIGN SHEET (R164) -/

theorem takeAssignSheet_bad (h : 99999999 < number ∨ 4 ≤ v) : takeAssignSheet n number v s = refuse s .badValue := by
  refine if_pos ?_
  rw [Bool.or_eq_true, decide_eq_true_eq, decide_eq_true_eq]
  exact h

section
variable (hn : number ≤ 99999999) (hv : v < 4)
include hn hv

theorem takeAssignSheet_inside : ¬(decide (Config.maxNumber < number) || decide (4 ≤ v)) = true := by
  rw [Bool.or_eq_true, decide_eq_true_eq, decide_eq_true_eq, not_or]
  exact ⟨Nat.not_lt.mpr hn, Nat.not_le.mpr hv⟩

theorem takeAssignSheet_notFound (h : s.exception? n = none ∨ s.slotOf number = none) :
    takeAssignSheet n number v s = refuse s .notFound := by
  rw [takeAssignSheet, if_neg (takeAssignSheet_inside hn hv)]
  rcases h with h | h
  · rw [h]
  · rw [h]
    cases s.exception? n <;> rfl

/-- Entry and candidate found, the record, the paper and the key decide in the order of R164. -/
theorem takeAssignSheet_found (hc : s.clean = true) (he : s.exception? n = some e) (hs : s.slotOf number = some k)
    (hx : s.slot? k = some x) : takeAssignSheet n number v s =
      if x.suspect then refuse s .suspect
      else if !(x.cand.state == .finished || x.cand.state == .collected) then refuse s .wrongState
      else (s.paper? x.cand.paper).elim (refuse s .wrongForm) fun r =>
        if r.form != e.form then refuse s .wrongForm
        else if r.versions ≤ v then refuse s .badValue
        else (s.keyOf x.cand.paper v).key.elim (refuse s .wrongState) fun key =>
          if s.retrying n then refuse s .busy
          else done (leaveExceptions n (writeResult k (assignedResult e v (s.keyOf x.cand.paper v).generation
              (scoreOf r key e.outcomes)) s))
            [u16 k, u16 (scoreOf r key e.outcomes).total, u16 (scoreOf r key e.outcomes).maximum,
              o16 (scoreOf r key e.outcomes).percent] := by
  rw [takeAssignSheet, if_neg (takeAssignSheet_inside hn hv), he, hs]
  simp only [readSlot_clean hc, hx]
  cases s.paper? x.cand.paper with
  | none => rfl
  | some r => cases (s.keyOf x.cand.paper v).key <;> rfl

end

/-- With table memory clean a result written whole mends nothing. -/
theorem writeResult_clean (hc : s.clean = true) (k : Nat) (r : ResultRecord) :
    writeResult k r s = { s with mru := { s.mru with results := s.mru.results.put k r } } := by
  have none := (State.clean_iff s).mp hc
  simp only [writeResult, mendRecord, none, List.filter_nil]

/-- Settles O48, from what each request answers. -/
theorem exceptionSheetRequests : Obligations.ExceptionSheetRequests := by
  unfold Obligations.ExceptionSheetRequests
  intro s n hs
  simp only [exec_discardSheet_ready hs, exec_readException_ready hs, exec_assignSheet_ready hs]
  refine ⟨fun h => ⟨?_, ?_, fun number v hn hv => ?_⟩, fun number v h => ?_, fun e he => ⟨fun hr => ?_, fun hr hroom => ?_, ?_,
    fun number v hn hv h => ?_, fun number v k x hc hn hv hk hx hu => ?_, fun number v k x hc hv hf => ?_⟩⟩
  · rw [takeDiscardSheet_none h, finishTaking_refuse]
  · rw [takeReadException_none h, finishTaking_refuse]
  · rw [takeAssignSheet_notFound hn hv (.inl h), finishTaking_refuse]
  · rw [takeAssignSheet_bad h, finishTaking_refuse]
  · rw [takeDiscardSheet_some he, hr, finishTaking_done]
    rfl
  · rw [takeDiscardSheet_some he, hr, if_pos rfl, markerIdle_room (s := leaveExceptions n s) hroom, finishTaking_done]
    rfl
  · rw [takeReadException_some he, finishTaking_done]
  · rw [takeAssignSheet_notFound hn hv (.inr h), finishTaking_refuse]
  · rw [takeAssignSheet_found hn hv hc he hk hx, if_pos hu, finishTaking_refuse]
  · obtain ⟨hn, hk, hx, hu⟩ := hf
    rw [takeAssignSheet_found hn hv hc he hk hx, hu, if_neg Bool.false_ne_true]
    refine ⟨fun h1 h2 => ?_, fun r hst hr => ?_⟩
    · rw [if_pos (by simp [h1, h2]), finishTaking_refuse]
    · rw [if_neg (by rcases hst with h | h <;> simp [h]), hr, Option.elim_some]
      refine ⟨fun h => ?_, fun h hver => ?_, fun h hver hkey => ?_, fun key h hver hkey => ⟨fun hret => ?_, fun hret => ?_⟩⟩
      · rw [if_pos (by simpa using h), finishTaking_refuse]
      · rw [if_neg (by simp [h]), if_pos hver, finishTaking_refuse]
      · rw [if_neg (by simp [h]), if_neg (Nat.not_le.mpr hver), hkey, Option.elim_none, finishTaking_refuse]
      · rw [if_neg (by simp [h]), if_neg (Nat.not_le.mpr hver), hkey, Option.elim_some, if_pos hret, finishTaking_refuse]
      · rw [if_neg (by simp [h]), if_neg (Nat.not_le.mpr hver), hkey, Option.elim_some, hret, if_neg Bool.false_ne_true,
          finishTaking_done, writeResult_clean hc]
        rfl

end Sys2Proof.Machine

/-! PROOFS. Entries of a LOAD KEY record (O49). -/

namespace Sys2Proof.Machine

set_option Elab.async false

variable {s : State} {first run : Nat} {pairs : List (Nat × Nat)} {g : Staging} {es : List KeyEntry}

/-! ### Pairs (R158) -/

theorem keyEntryOf_void : keyEntryOf (0, 0) = some .void := rfl

theorem keyEntryOf_correct {a b : Nat} (h1 : 1 ≤ a) (h31 : a ≤ 31) (hb1 : 1 ≤ b) (hb32 : b ≤ 32) :
    keyEntryOf (a, b) = some (.correct a b) := by
  unfold keyEntryOf
  split
  next h => simp only [Prod.mk.injEq] at h; omega
  next h =>
    obtain ⟨rfl, rfl⟩ := Prod.mk.inj h
    exact if_neg (by simp only [Bool.or_eq_true, beq_iff_eq, decide_eq_true_eq]; omega)

theorem keyEntryOf_bad {w : Nat × Nat} (h : (w.1 = 0 ∧ w.2 ≠ 0) ∨ 32 ≤ w.1 ∨ (w.1 ≠ 0 ∧ w.2 = 0) ∨ 32 < w.2) :
    keyEntryOf w = none := by
  obtain ⟨a, b⟩ := w
  unfold keyEntryOf
  split
  next h' => simp only [Prod.mk.injEq] at h'; omega
  next h' =>
    obtain ⟨rfl, rfl⟩ := Prod.mk.inj h'
    exact if_pos (by simp only [Bool.or_eq_true, beq_iff_eq, decide_eq_true_eq]; omega)

/-- A run with a refused pair is refused whole. -/
theorem mapM_keyEntryOf_bad (h : ∃ w ∈ pairs, keyEntryOf w = none) : pairs.mapM keyEntryOf = none := by
  induction pairs with
  | nil => simp at h
  | cons a l ih =>
    rw [List.mapM_cons]
    cases ha : keyEntryOf a with
    | none => rfl
    | some e =>
      obtain ⟨w, hw, hn⟩ := h
      rcases List.mem_cons.mp hw with rfl | hw
      · exact absurd (hn.symm.trans ha) nofun
      · simp [ih ⟨w, hw, hn⟩]

theorem mapM_keyEntryOf_taken (h : List.Forall₂ (fun w e => keyEntryOf w = some e) pairs es) :
    pairs.mapM keyEntryOf = some es := by
  induction h with
  | nil => rfl
  | cons hw _ ih => simp [List.mapM_cons, hw, ih]

/-- A run is written question by question. -/
theorem stageRun_eq (t : Table KeyEntry) (q : Nat) (es : List KeyEntry) :
    stageRun t q es = (es.zipIdx q).foldl (fun l e => l.put e.2 e.1) t := by
  induction es generalizing t q with
  | nil => rfl
  | cons e es ih => exact ih _ _

/-! ### One entry (R158) -/

theorem takeKeyEntry_none (h : s.mru.staging = none) :
    takeKeyEntry first run pairs s = (s, ⟨.refused, .wrongState, []⟩, false) := by
  simp only [takeKeyEntry, h]
  rfl

theorem takeKeyEntry_range (hg : s.mru.staging = some g)
    (h : run < 1 ∨ 8 < run ∨ first < 1 ∨ g.questions < first + run - 1) :
    takeKeyEntry first run pairs s = (s, ⟨.refused, .badValue, []⟩, false) := by
  simp only [takeKeyEntry, hg]
  exact if_pos (by simpa [or_assoc] using h)

theorem takeKeyEntry_pair (hg : s.mru.staging = some g) (h : pairs.mapM keyEntryOf = none) :
    takeKeyEntry first run pairs s = (s, ⟨.refused, .badValue, []⟩, false) := by
  simp only [takeKeyEntry, hg, h]
  exact ite_self _

section
variable (hg : s.mru.staging = some g) (h1 : 1 ≤ run) (h8 : run ≤ 8) (hf : 1 ≤ first)
  (hq : first + run - 1 ≤ g.questions) (hp : pairs.mapM keyEntryOf = some es)
include hg h1 h8 hf hq hp

theorem takeKeyEntry_staged : takeKeyEntry first run pairs s =
    if (stageRun g.entries first es).length = g.questions then
      (installKey { g with entries := stageRun g.entries first es } s, ⟨.done, .none, []⟩, true)
    else ({ s with mru := { s.mru with staging := some { g with entries := stageRun g.entries first es } } },
      ⟨.done, .none, []⟩, false) := by
  simp only [takeKeyEntry, hg, hp, Staging.complete, beq_iff_eq]
  rw [if_neg (by simp only [Bool.or_eq_true, decide_eq_true_eq]; omega)]
  rfl

end

/-! ### An install (R158, R159) -/

theorem readPaperResults_clean (hc : s.clean = true) (p : Nat) : readPaperResults p s = s := by
  unfold readPaperResults
  generalize s.mru.results.keys.filter _ = l
  induction l with
  | nil => rfl
  | cons k l ih => rwa [List.foldl_cons, readResult_clean hc]

/-- The Mark Reader Unit with a result of a paper becoming stale, if one does. -/
theorem rescoreLater_eq (c : Bool) (p : Nat) (s : State) : (if c then rescoreLater p s else s) =
    { s with mru := { s.mru with
      pass := s.mru.pass.map fun w => { w with again := w.again || (c && s.mru.pass.map (·.paper) == some p) }
      rescorePending := if c && !(s.mru.pass.map (·.paper) == some p) && !s.mru.rescorePending.contains p then
        insertBy id p s.mru.rescorePending else s.mru.rescorePending } } := by
  cases c with
  | false =>
    have kept (w : Option Pass) : (w.map fun w => { w with again := w.again || false }) = w := by
      cases w <;> simp
    simp only [Bool.false_eq_true, if_false, Bool.false_and, kept]
  | true =>
    rw [if_pos rfl]
    by_cases hq : s.mru.pass.map (·.paper) = some p
    · obtain ⟨q, hp, rfl⟩ := Option.map_eq_some_iff.mp hq
      simp [rescoreLater, hp]
    · have later : rescoreLater p s = rescoreLater.pending p s := by
        cases hp : s.mru.pass with
        | none => simp only [rescoreLater, hp]
        | some q =>
          have other : ¬q.paper = p := fun h => hq (by rw [hp, Option.map_some, h])
          simp only [rescoreLater, hp, beq_iff_eq, if_neg other]
      have other : (s.mru.pass.map (·.paper) == some p) = false := beq_false_of_ne hq
      have kept (w : Option Pass) : (w.map fun w => { w with again := w.again || (true && false) }) = w := by
        cases w <;> simp
      rw [later, rescoreLater.pending, other, kept]
      cases s.mru.rescorePending.contains p <;> rfl

/-- Whether the slot of a result is of a paper, its record not looked at. -/
theorem slotOfPaper_eq (p k : Nat) : s.slotOfPaper p k = ((s.slot? k).map (·.shadow.paper) == some (some p)) := by
  rw [State.slotOfPaper]
  cases s.slot? k with
  | none => rfl
  | some x => simp [Slot.ofPaper]

/-- What an install leaves, where no result has a wrong bit. -/
theorem installKey_eq (hr : readPaperResults g.paper s = s) :
    let gen := ((s.keyOf g.paper g.version).generation + 1) % 65536
    let ages (e : Nat × ResultRecord) : Bool :=
      s.slotOfPaper g.paper e.1 && !e.2.suspect && e.2.version == g.version && e.2.generation != gen
    let aged := List.any s.mru.results ages
    let runs : Bool := s.mru.pass.map (·.paper) == some g.paper
    installKey g s = { s with mru := { s.mru with
      staging := none
      keys := s.mru.keys.put (g.paper * 4 + g.version) (KeySlot.mk (some (g.entries.map Prod.snd)) gen)
      results := s.mru.results.map fun e => if ages e then (e.1, { e.2 with stale := true }) else e
      exceptions := s.mru.exceptions.map fun e => if s.awaitsKey g.paper g.version e then { e with queued := true } else e
      pass := s.mru.pass.map fun w => { w with again := w.again || (aged && runs) }
      rescorePending := if aged && !runs && !s.mru.rescorePending.contains g.paper then
        insertBy id g.paper s.mru.rescorePending else s.mru.rescorePending } } := by
  intro gen ages aged runs
  have results : (s.mru.results.mapAll fun k r =>
      if s.slotOfPaper g.paper k then r.afterInstall g.version gen else r) =
        s.mru.results.map fun e => if ages e then (e.1, { e.2 with stale := true }) else e := by
    refine List.map_congr_left fun e _ => ?_
    simp only [ages, ResultRecord.afterInstall, Bool.and_assoc]
    cases s.slotOfPaper g.paper e.1
    · rfl
    · rw [if_pos rfl, Bool.true_and]
      split <;> rfl
  have anyAged : (List.any s.mru.results fun e => s.slotOfPaper g.paper e.1 &&
      (!e.2.suspect && e.2.version == g.version && e.2.generation != gen)) = aged := by
    simp only [aged, ages, Bool.and_assoc]
  simp only [installKey, hr]
  rw [rescoreLater_eq]
  simp only [queueRetries]
  rw [results, anyAged]
  rfl

/-- With no result and no exception entry standing an install writes the key and clears the staging key. -/
theorem installKey_bare (hres : s.mru.results = []) (hexc : s.mru.exceptions = []) : installKey g s =
    { s with mru := { s.mru with
      staging := none
      keys := s.mru.keys.put (g.paper * 4 + g.version)
        (KeySlot.mk (some (g.entries.map Prod.snd)) (((s.keyOf g.paper g.version).generation + 1) % 65536)) } } := by
  have read : readPaperResults g.paper s = s := by
    rw [readPaperResults, hres]
    rfl
  simp only [installKey, read, hres, hexc, queueRetries, List.any_nil, Bool.false_eq_true, if_false, List.map_nil]
  rfl

/-- Which exception entries an install queues, told by the shadows. -/
theorem awaitsKey_eq (p v : Nat) (e : SheetException) : s.awaitsKey p v e =
    (e.reason == .noKey && e.decVersion == some v &&
      ((e.decNumber.bind s.slotOf).map fun k => (s.slot? k).map (·.shadow.paper) == some (some p)) == some true) := by
  have told : s.slotOfPaper p = fun k => (s.slot? k).map (·.shadow.paper) == some (some p) :=
    funext fun k => slotOfPaper_eq p k
  rw [State.awaitsKey, told]
  cases e.decNumber.bind s.slotOf <;> simp

/-! ### Entries of the record (R170) -/

variable {t : BatchTaken} {b : Batch} {p v q m : Nat}

theorem handEntry_key (h : t.stopped = false) (hr : t.refusal = none) (hh : t.header = .loadKey p v q m) :
    handEntry t (.key first run pairs, true) s = ((takeKeyEntry first run pairs s).1,
      { t with
        answers := t.answers ++ [(takeKeyEntry first run pairs s).2.1]
        installed := t.installed || (takeKeyEntry first run pairs s).2.2 }) := by
  simp [handEntry, h, hr, hh, runEntry]

/-- The part while an entry of a LOAD KEY record is handed on. -/
def State.loadingKey (s : State) (b : Batch) (run : Nat) : State :=
  setReceive (.inBatch { b with left := b.left - (3 + 2 * run) } false) s

theorem exec_loadKeyEntry {ok : Bool} (hs : s.calm = true) (hd : s.deaf = false)
    (hr : s.sli.receive = .inBatch b false) (hb : b.header = .loadKey p v q m) (hl : 3 + 2 * run ≤ b.left)
    (ht : s.sli.taken = some (.batch t)) : exec (.loadKeyEntry first run pairs ok) s = .next
      (setTaken (some (.batch (handEntry t (.key first run pairs, ok) (s.loadingKey b run)).2))
        (handEntry t (.key first run pairs, ok) (s.loadingKey b run)).1) :=
  congrArg _ ((settled_calm hs _).trans (receiveEntry_taken hd hr (by rw [hb]; rfl) hl (by omega) ht))

theorem pair_entry {w : Nat × Nat} {e : KeyEntry} (h : (w = (0, 0) ∧ e = .void)
    ∨ (1 ≤ w.1 ∧ w.1 ≤ 31 ∧ 1 ≤ w.2 ∧ w.2 ≤ 32 ∧ e = KeyEntry.correct w.1 w.2)) : keyEntryOf w = some e := by
  rcases h with ⟨rfl, rfl⟩ | ⟨h1, h31, h1', h32, rfl⟩
  · exact keyEntryOf_void
  · exact keyEntryOf_correct h1 h31 h1' h32

/-- Settles O49, from the outcomes of one entry and what an install leaves. -/
theorem keyEntryIsStaged : Obligations.KeyEntryIsStaged := by
  unfold Obligations.KeyEntryIsStaged
  refine ⟨fun s b t p v q m first g hs hd hr hb hl ht hh hstop href hg => ?_,
    fun s b t p v q m first run pairs hs hd hr hb hl hlen ht hh hstop href => ?_⟩
  · intro after noted bad
    have outcome {run : Nat} {pairs : List (Nat × Nat)} (hlen : 3 + 2 * run ≤ b.left) {o : State × Answer × Bool}
        (ho : takeKeyEntry first run pairs (s.loadingKey b run) = o) : exec (.loadKeyEntry first run pairs true) s =
          .next (setTaken (some (.batch (noted o.2.1 o.2.2))) o.1) := by
      rw [exec_loadKeyEntry hs hd hr hb hlen ht, handEntry_key hstop href hh, ho]
    refine ⟨?_, fun run pairs hrun hlen => outcome hlen (takeKeyEntry_range hg (by omega)),
      fun h => outcome hl (takeKeyEntry_range hg (by omega)),
      fun set weight h => outcome hl (takeKeyEntry_pair hg (mapM_keyEntryOf_bad ⟨_, List.mem_singleton.mpr rfl, keyEntryOf_bad h⟩)),
      fun set weight entry h1 hq hentry => ?_⟩
    · rw [exec_loadKeyEntry hs hd hr hb hl ht, handEntry_broken hstop]
      rfl
    · have one : [(set, weight)].mapM keyEntryOf = some [entry] := mapM_keyEntryOf_taken
        (.cons (pair_entry (hentry.imp (fun ⟨h1, h2, h3⟩ => ⟨by rw [h1, h2], h3⟩) id)) .nil)
      have taken := takeKeyEntry_staged (s := s.loadingKey b 1) hg le_rfl (by omega) h1 (by omega) one
      refine ⟨fun hn => (outcome hl (taken.trans (if_neg hn))).trans rfl, fun hfull hres hexc => ?_⟩
      refine (outcome hl (taken.trans (if_pos hfull))).trans ?_
      rw [installKey_bare (s := s.loadingKey b 1) hres hexc]
      rfl
  · intro after
    have outcome {o : State × Answer × Bool} (ho : takeKeyEntry first run pairs (s.loadingKey b run) = o) :
        exec (.loadKeyEntry first run pairs true) s = .next (setTaken (some (.batch { t with
          answers := t.answers ++ [o.2.1], installed := t.installed || o.2.2 })) o.1) := by
      rw [exec_loadKeyEntry hs hd hr hb hlen ht, handEntry_key hstop href hh, ho]
    refine ⟨fun hg => outcome (takeKeyEntry_none hg), fun g hg => ⟨fun h => outcome (takeKeyEntry_range hg (by omega)),
      fun ⟨w, hw, h⟩ => outcome (takeKeyEntry_pair hg (mapM_keyEntryOf_bad ⟨w, hw, keyEntryOf_bad h⟩)),
      fun es h1 h8 _ hf hq hpairs => ?_⟩⟩
    have taken := takeKeyEntry_staged (s := s.loadingKey b run) hg h1 h8 hf hq
      (mapM_keyEntryOf_taken (hpairs.imp fun _ _ => pair_entry))
    rw [stageRun_eq] at taken
    refine ⟨fun hn => (outcome (taken.trans (if_neg hn))).trans rfl, fun hfull hc => ?_⟩
    refine (outcome (taken.trans (if_pos hfull))).trans ?_
    rw [installKey_eq (s := s.loadingKey b run) (readPaperResults_clean (s := s.loadingKey b run) hc _)]
    simp only [slotOfPaper_eq, awaitsKey_eq]
    rfl

end Sys2Proof.Machine

/-! PROOFS. Faults by their level, and the reads that find wrong bits (O56). -/

namespace Sys2Proof.Machine

set_option Elab.async false

variable {s : State} {a : FaultSource} {b : FaultRecord} {i : Option Nat} {k : FaultKind}

/-! ### Faults (R178, R179) -/

/-- Fault Capture with a fault captured: the record takes it if it is empty. -/
def Fcu.captured (u : Fcu) (f : FaultReport) : Fcu :=
  if u.capture = none then { u with capture := some f } else { u with further := true }

theorem Fcu.captured_empty {u : Fcu} (h : u.capture = none) (f : FaultReport) :
    u.captured f = { u with capture := some f } := if_pos h

theorem Fcu.captured_further {u : Fcu} (h : u.capture ≠ none) (f : FaultReport) :
    u.captured f = { u with further := true } := if_neg h

theorem capture_eq (f : FaultReport) (s : State) : capture f s = { s with fcu := s.fcu.captured f } := by
  cases h : s.fcu.capture with
  | none => simp only [capture, h, Fcu.captured, if_true]
  | some g => simp only [capture, h, Fcu.captured, reduceCtorEq, if_false]

/-- A level that neither captures nor reports faults of a kind. -/
theorem takeFault_ignored (hc : s.fcu.level.captures k = false) (hr : s.fcu.level.reports k = false) :
    takeFault a b i k s = s := by
  simp only [takeFault, hc, Bool.false_eq_true, if_false, hr]

/-- At level QUIET an UNCORRECTABLE fault is captured alone. -/
theorem takeFault_quiet (h : s.fcu.level = .quiet) : takeFault a b i .uncorrectable s =
    { s with fcu := s.fcu.captured ⟨a, b, i, .uncorrectable, s.htb.time⟩ } := by
  have level : (s.fcu.captured ⟨a, b, i, .uncorrectable, s.htb.time⟩).level = .quiet := by
    unfold Fcu.captured
    split <;> exact h
  simp only [takeFault, h, Reporting.captures, if_true, capture_eq, level, Reporting.reports, Bool.false_eq_true, if_false]

/-- A fault of a kind its level reports is captured, and its notice goes out or is held. -/
theorem takeFault_reported (h : s.fcu.level.reports k = true) : takeFault a b i k s =
    notifyFault ⟨a, b, i, k, s.htb.time⟩ { s with fcu := s.fcu.captured ⟨a, b, i, k, s.htb.time⟩ } := by
  have captures : s.fcu.level.captures k = true := by
    cases hl : s.fcu.level <;> cases k <;> simp_all [Reporting.reports, Reporting.captures]
  have level : (s.fcu.captured ⟨a, b, i, k, s.htb.time⟩).level = s.fcu.level := by
    unfold Fcu.captured
    split <;> rfl
  simp only [takeFault, captures, if_true, capture_eq, level, h]

/-- The notice goes out at once where it need not wait for the marker. -/
theorem takeFault_told (h : s.fcu.level.reports k = true) (hm : k ≠ .corrected ∨ s.mru.marker = none) :
    takeFault a b i k s = notify .fault [u8 a.ctorIdx, u8 b.ctorIdx, o16 i, u8 k.ctorIdx, u24 s.htb.time]
      { s with fcu := s.fcu.captured ⟨a, b, i, k, s.htb.time⟩ } := by
  have free : ¬(k == .corrected && s.mru.marker.isSome) = true := by
    rcases hm with h | h <;> simp [h]
  rw [takeFault_reported h, notifyFault, if_neg free]
  rfl

theorem takeFault_room (h : s.fcu.level.reports k = true) (hm : k ≠ .corrected ∨ s.mru.marker = none)
    (hroom : s.sli.notices.length < 64) : takeFault a b i k s =
      State.told { s with fcu := s.fcu.captured ⟨a, b, i, k, s.htb.time⟩ }
        [⟨.fault, s.htb.time, [u8 a.ctorIdx, u8 b.ctorIdx, o16 i, u8 k.ctorIdx, u24 s.htb.time]⟩] := by
  rw [takeFault_told h hm]
  exact notify_told (by exact hroom) _ _

/-- With the marker BUSY the notice of a CORRECTED fault is held. -/
theorem takeFault_held (h : s.fcu.level = .record) (hm : s.mru.marker ≠ none) : takeFault a b i .corrected s =
    if s.fcu.held.length < 8 then
      { s with fcu := { s.fcu.captured ⟨a, b, i, .corrected, s.htb.time⟩ with
        held := s.fcu.held ++ [⟨a, b, i, .corrected, s.htb.time⟩] } }
    else { s with fcu := s.fcu.captured ⟨a, b, i, .corrected, s.htb.time⟩, sli := { s.sli with lost := true } } := by
  have busy : (FaultKind.corrected == .corrected && s.mru.marker.isSome) = true := by
    simpa [Option.isSome_iff_ne_none] using hm
  have held : (s.fcu.captured ⟨a, b, i, .corrected, s.htb.time⟩).held = s.fcu.held := by
    unfold Fcu.captured
    split <;> rfl
  rw [takeFault_reported (by rw [h]; rfl), notifyFault, if_pos busy, held]
  rfl

/-! ### Reads that find wrong bits (R177) -/

variable {r : RecordRef} {w v : Nat}

/-- One wrong bit in one word. -/
theorem readRecord_corrected (hr : s.suspectOf r = some false) (hu : s.upsets = [⟨r, w, false⟩]) :
    readRecord r s = takeFault .table (recordKind r) (some (recordIndex r)) .corrected { s with upsets := [] } := by
  have words : s.wrongWords r = [w] := by simp [State.wrongWords, hu, dedup, sortBy, insertBy]
  have kept : s.wordLost r w = false := by simp [State.wordLost, hu, inWord]
  have mended : mendWord r w s = { s with upsets := [] } := by simp [mendWord, hu, inWord]
  rw [readRecord, if_pos hr, words, readWords, kept, if_neg Bool.false_ne_true, mended, readWords]

/-- Two wrong bits in one word, found one after the other. -/
theorem readRecord_lostTwice (hr : s.suspectOf r = some false) (hu : s.upsets = [⟨r, w, false⟩, ⟨r, w, false⟩]) :
    readRecord r s = takeFault .table (recordKind r) (some (recordIndex r)) .uncorrectable
      (markSuspect r { s with upsets := [] }) := by
  have words : s.wrongWords r = [w] := by simp [State.wrongWords, hu, dedup, sortBy, insertBy]
  have lost : s.wordLost r w = true := by simp [State.wordLost, hu, inWord]
  have mended : mendRecord r s = { s with upsets := [] } := by simp [mendRecord, hu]
  rw [readRecord, if_pos hr, words, readWords, if_pos lost, mended]

/-- A fault looks at no wrong bit of table memory. -/
theorem takeFault_withUpsets (u : List Upset) (s : State) :
    takeFault a b i k { s with upsets := u } = { takeFault a b i k s with upsets := u } := by
  have notified (f : FaultReport) (s : State) : notifyFault f { s with upsets := u } = { notifyFault f s with upsets := u } := by
    simp only [notifyFault, notify, joinQueue]
    split_ifs <;> rfl
  simp only [takeFault, capture_eq]
  split_ifs
  · exact notified _ { s with fcu := s.fcu.captured ⟨a, b, i, k, s.htb.time⟩ }
  · rfl
  · exact notified _ s
  · rfl

theorem readWords_corrected {ws : List Nat} (h : s.wordLost r w = false) : readWords r (w :: ws) s =
    readWords r ws (takeFault .table (recordKind r) (some (recordIndex r)) .corrected (mendWord r w s)) := by
  rw [readWords, h, if_neg Bool.false_ne_true]

/-- Two words are read, each with its one wrong bit corrected. -/
theorem readRecord_correctedTwice (hr : s.suspectOf r = some false) (hwv : w ≠ v)
    (hu : s.upsets = [⟨r, w, false⟩, ⟨r, v, false⟩]) : readRecord r s =
      { takeFault .table (recordKind r) (some (recordIndex r)) .corrected
          (takeFault .table (recordKind r) (some (recordIndex r)) .corrected s) with upsets := [] } := by
  have two (a b : Nat) (h : s.wrongWords r = [a, b]) (first : s.wordLost r a = false)
      (left : mendWord r a s = { s with upsets := [⟨r, b, false⟩] }) : readRecord r s =
        { takeFault .table (recordKind r) (some (recordIndex r)) .corrected
            (takeFault .table (recordKind r) (some (recordIndex r)) .corrected s) with upsets := [] } := by
    have second (t : State) : { t with upsets := [⟨r, b, false⟩] }.wordLost r b = false := by
      simp [State.wordLost, inWord]
    have mended (t : State) : mendWord r b { t with upsets := [⟨r, b, false⟩] } = { t with upsets := [] } := by
      simp [mendWord, inWord]
    rw [readRecord, if_pos hr, h, readWords_corrected first, left, takeFault_withUpsets, readWords_corrected (second _), mended,
      takeFault_withUpsets, readWords]
  have lost (a : Nat) : s.wordLost r a = false := by
    by_cases h1 : w = a
    · subst h1
      simp [State.wordLost, hu, inWord, hwv.symm]
    · by_cases h2 : v = a <;> simp [State.wordLost, hu, inWord, h1, h2]
  rcases Nat.lt_or_gt_of_ne hwv with h | h
  · exact two w v (by simp [State.wrongWords, hu, dedup, sortBy, insertBy, hwv.symm, h]) (lost w)
      (by simp [mendWord, hu, inWord, hwv.symm])
  · exact two v w (by simp [State.wrongWords, hu, dedup, sortBy, insertBy, hwv.symm, Nat.lt_asymm h]) (lost v)
      (by simp [mendWord, hu, inWord, hwv])

/-! ### QUERY SEAT (R20) on a seat with wrong bits -/

variable {n : Nat} {x : Seat}

theorem takeQuerySeat_readSuspect (h : (readSeat n s).seat? n = some x) (hu : x.suspect = true) :
    takeQuerySeat n s = refuse (readSeat n s) .suspect := by
  simp only [takeQuerySeat, h, hu, if_true]

theorem takeQuerySeat_read (h : (readSeat n s).seat? n = some x) (hu : x.suspect = false) :
    takeQuerySeat n s = done (readSeat n s) ([u16 n] ++ (labelOf x).map u8 ++ [u8 x.cls.ctorIdx, o16 x.desk, u8 x.state.ctorIdx,
      o16 x.occupant, o8 x.lastPaper, flag x.used, flag x.override, flag ((readSeat n s).withheld x)]) := by
  simp only [takeQuerySeat, h, hu, Bool.false_eq_true, if_false]
  rfl

/-- The state with faults of source TABLE captured and notified. -/
def State.faulted (s : State) (u : Fcu) (n : Nat) (l : List FaultKind) : State :=
  State.told { s with fcu := u, upsets := [] } (l.map fun k =>
    ⟨.fault, s.htb.time, [u8 0, u8 0, o16 (some n), u8 k.ctorIdx, u24 s.htb.time]⟩)

theorem seat_suspectOf (hx : s.seat? n = some x) (hu : x.suspect = false) : s.suspectOf (.seat n) = some false := by
  simp only [State.suspectOf, hx, Option.map_some, hu]

section
variable (hx : s.seat? n = some x) (hu : x.suspect = false) (hl : s.fcu.level = .record) (hcap : s.fcu.capture = none)
  (hm : s.mru.marker = none) (hroom : s.sli.notices.length < 63)
include hx hu hl hcap hm hroom

theorem readSeat_corrected (hw : s.upsets = [⟨.seat n, w, false⟩]) : readSeat n s =
    s.faulted { s.fcu with capture := some ⟨.table, .seat, some n, .corrected, s.htb.time⟩ } n [.corrected] := by
  have fault := takeFault_room (s := { s with upsets := [] }) (a := .table) (b := .seat) (i := some n) (k := .corrected)
    (by rw [hl]; rfl) (.inr hm) (by exact Nat.lt_succ_of_lt hroom)
  rw [Fcu.captured_empty hcap] at fault
  exact (readRecord_corrected (seat_suspectOf hx hu) hw).trans fault

theorem readSeat_correctedTwice (hwv : w ≠ v) (hw : s.upsets = [⟨.seat n, w, false⟩, ⟨.seat n, v, false⟩]) : readSeat n s =
    s.faulted { s.fcu with capture := some ⟨.table, .seat, some n, .corrected, s.htb.time⟩, further := true } n
      [.corrected, .corrected] := by
  have first := takeFault_room (s := s) (a := .table) (b := .seat) (i := some n) (k := .corrected)
    (by rw [hl]; rfl) (.inr hm) (by omega)
  rw [Fcu.captured_empty hcap] at first
  let one : Notice := ⟨.fault, s.htb.time, [u8 0, u8 0, o16 (some n), u8 FaultKind.corrected.ctorIdx, u24 s.htb.time]⟩
  let once : State := State.told { s with fcu := { s.fcu with
    capture := some ⟨.table, .seat, some n, .corrected, s.htb.time⟩ } } [one]
  have second := takeFault_room (s := once) (a := .table) (b := .seat) (i := some n) (k := .corrected)
    (by exact hl ▸ rfl) (.inr hm) (by simp only [once, State.told, List.length_append, List.length_singleton]; omega)
  rw [Fcu.captured_further (by exact Option.some_ne_none _)] at second
  have both := told_told { s with
    fcu := { s.fcu with capture := some ⟨.table, .seat, some n, .corrected, s.htb.time⟩, further := true }
    upsets := [] } [one] [one]
  have fold : { once.told [one] with fcu := { once.fcu with further := true }, upsets := [] } =
      s.faulted { s.fcu with capture := some ⟨.table, .seat, some n, .corrected, s.htb.time⟩, further := true } n
        [.corrected, .corrected] := both
  calc readSeat n s
      _ = { takeFault .table .seat (some n) .corrected (takeFault .table .seat (some n) .corrected s) with upsets := [] } :=
        readRecord_correctedTwice (seat_suspectOf hx hu) hwv hw
      _ = { takeFault .table .seat (some n) .corrected once with upsets := [] } :=
        congrArg (fun t : State => { takeFault .table .seat (some n) .corrected t with upsets := [] }) first
      _ = { once.told [one] with fcu := { once.fcu with further := true }, upsets := [] } :=
        congrArg (fun t : State => { t with upsets := [] }) second
      _ = _ := fold

theorem readSeat_lost (hw : (∃ w, s.upsets = [⟨.seat n, w, true⟩]) ∨ ∃ w, s.upsets = [⟨.seat n, w, false⟩, ⟨.seat n, w, false⟩]) :
    readSeat n s = (s.withSeat n { x with suspect := true }).faulted
      { s.fcu with capture := some ⟨.table, .seat, some n, .uncorrectable, s.htb.time⟩ } n [.uncorrectable] := by
  have marked : markSuspect (.seat n) { s with upsets := [] } =
      { s.withSeat n { x with suspect := true } with upsets := [] } := by
    rw [markSuspect, Table.modify_eq_put (by exact hx)]
    rfl
  have read : readSeat n s = takeFault .table .seat (some n) .uncorrectable
      { s.withSeat n { x with suspect := true } with upsets := [] } := by
    rw [← marked]
    rcases hw with ⟨w, hw⟩ | ⟨w, hw⟩
    · exact readRecord_lost (seat_suspectOf hx hu) hw
    · exact readRecord_lostTwice (seat_suspectOf hx hu) hw
  have fault := takeFault_room (s := { s.withSeat n { x with suspect := true } with upsets := [] }) (a := .table)
    (b := .seat) (i := some n) (k := .uncorrectable) (by exact hl ▸ rfl) (.inl nofun) (by exact Nat.lt_succ_of_lt hroom)
  rw [Fcu.captured_empty (by exact hcap)] at fault
  exact read.trans fault

end

/-- Settles O56. -/
theorem tableReadsFindWrongBits : Obligations.TableReadsFindWrongBits := by
  unfold Obligations.TableReadsFindWrongBits
  refine ⟨⟨fun s n x hs hx hu hl hcap hm hroom => ?_, fun s a b i => ⟨fun hl => ⟨fun k hk => ?_, fun hcap => ?_,
    fun hcap => ?_⟩, fun hl => ?_, fun hl hm => ⟨fun hroom => ?_, fun hfull => ?_⟩⟩⟩, fun s a b i k h => ?_⟩
  · simp only [exec_querySeat_ready hs]
    have online (u : Fcu) (l : List FaultKind) : (s.faulted u n l).withheld x =
        (x.state == .free && !(x.desk.map s.online).getD false) := State.withheld_eq _ x
    have found (u : Fcu) (l : List FaultKind) : ((s.withSeat n { x with suspect := true }).faulted u n l).seat? n =
        some { x with suspect := true } := (seat?_withSeat ..).trans (if_pos rfl)
    refine ⟨fun w hw => ⟨readSeat n s, ?_⟩, fun w v hwv hw => ⟨readSeat n s, ?_⟩, fun w hw => ⟨readSeat n s, ?_⟩,
      fun w hw => ⟨readSeat n s, ?_⟩, fun w => ?_⟩
    · have read := readSeat_corrected hx hu hl hcap hm hroom hw
      rw [takeQuerySeat_read (x := x) (by rw [read]; exact hx) hu, finishTaking_done, read, online]
      exact ⟨rfl, rfl, hx, rfl, rfl, rfl⟩
    · have read := readSeat_correctedTwice hx hu hl hcap hm hroom hwv hw
      rw [takeQuerySeat_read (x := x) (by rw [read]; exact hx) hu, finishTaking_done, read, online]
      exact ⟨rfl, rfl, hx, rfl, rfl, rfl⟩
    · have read := readSeat_lost hx hu hl hcap hm hroom (.inl ⟨w, hw⟩)
      rw [takeQuerySeat_readSuspect (by rw [read]; exact found _ _) rfl, finishTaking_refuse, read]
      exact ⟨rfl, rfl, found _ _, fun m hm => (seat?_withSeat ..).trans (if_neg hm), rfl, rfl⟩
    · have read := readSeat_lost hx hu hl hcap hm hroom (.inr ⟨w, hw⟩)
      rw [takeQuerySeat_readSuspect (by rw [read]; exact found _ _) rfl, finishTaking_refuse, read]
      exact ⟨rfl, rfl, found _ _, fun m hm => (seat?_withSeat ..).trans (if_neg hm), rfl, rfl⟩
    · refine if_neg ?_
      have marked : (s.withSeat n { x with suspect := true }).seat? n = some { x with suspect := true } :=
        (seat?_withSeat ..).trans (if_pos rfl)
      intro h
      have mark : some true = some false := (congrArg (Option.map Seat.suspect) marked).symm.trans h
      exact nomatch mark
  · refine takeFault_ignored ?_ ?_
    · rw [hl]
      cases k <;> first | rfl | exact absurd rfl hk
    · rw [hl]
      rfl
  · rw [takeFault_quiet hl, Fcu.captured_empty hcap]
  · rw [takeFault_quiet hl, Fcu.captured_further hcap]
  · exact takeFault_ignored (by rw [hl]; rfl) (by rw [hl]; rfl)
  · rw [takeFault_held hl hm, if_pos hroom]
    rfl
  · rw [takeFault_held hl hm, if_neg (Nat.not_lt.mpr hfull)]
    rfl
  · have reported : s.fcu.level.reports k = true := by
      rcases h with ⟨hl, hk⟩ | ⟨hl, -⟩
      · rw [hl]
        cases k <;> first | rfl | exact absurd rfl hk
      · rw [hl]
        rfl
    have told := takeFault_told (a := a) (b := b) (i := i) reported
      (h.elim (fun h => .inl h.2) fun h => h.2)
    exact ⟨fun hcap => by rw [told, Fcu.captured_empty hcap], fun hcap => by rw [told, Fcu.captured_further hcap]⟩

end Sys2Proof.Machine

/-! PROOFS. CLEAR SITTING (O34). -/

namespace Sys2Proof.Machine

set_option Elab.async false

variable {s t : State}

/-! ### When it is refused (R99) -/

theorem underWay_iff (st : PaperState) : st.underWay = true ↔ st = .reading ∨ st = .writing ∨ st = .overtime := by
  simp [PaperState.underWay, or_assoc]

theorem takeClearSitting_busy
    (h : s.ssu.held = true ∨ ∃ e ∈ s.ssu.papers, e.2.state = .reading ∨ e.2.state = .writing ∨ e.2.state = .overtime) :
    takeClearSitting s = refuse s .busy := by
  refine if_pos ?_
  rw [Bool.or_eq_true, Table.any_iff]
  simpa only [underWay_iff] using h

/-- The state as CLEAR SITTING leaves it, before its notices and faults. -/
def State.sittingCleared (s : State) : State := clearedNotices (s.ssu.papers.keysWhere fun r => r.state != .defined) (clearTables s)

theorem takeClearSitting_done (hc : s.clean = true) (hh : s.ssu.held = false)
    (hp : ∀ e ∈ s.ssu.papers, e.2.state = .defined ∨ e.2.state = .admitting ∨ e.2.state = .closed) :
    takeClearSitting s = done (markerIdle (loseWaits (answerDoor 1 (.refused .unknown) (answerDoor 0 (.refused .unknown)
      s.sittingCleared)))) [] := by
  have free : ¬(s.ssu.held || s.ssu.papers.any fun r => r.state.underWay) = true := by
    rw [Bool.or_eq_true, Table.any_iff, hh]
    rintro (h | ⟨e, he, h⟩)
    · cases h
    · rcases hp e he with st | st | st <;> rw [st] at h <;> cases h
  have read : readAllSeats s = s := readSeats_clean hc _
  simp only [takeClearSitting, if_neg free, read]
  rfl

/-! ### Notices (R76, R28) -/

/-- Notice PAPER STATE of papers that return to DEFINED. -/
theorem clearedNotices_reports (ps : List Nat) (s : State) : s.Reports
    (ps.map fun p => ⟨.paperState, s.htb.time, [u8 p, u8 0, u24 s.htb.time]⟩) (clearedNotices ps s) := by
  have each := foldl_reports (f := fun t p => notify .paperState [u8 p, u8 PaperState.defined.ctorIdx, u24 t.htb.time] t)
    (n := fun t p => some ⟨.paperState, t.htb.time, [u8 p, u8 0, u24 t.htb.time]⟩)
    (fun u p => notify_reports _ _ u) (fun _ _ _ => rfl) ps s
  rwa [List.filterMap_eq_map'] at each

/-- A port that answers REFUSED UNKNOWN to a card outstanding. -/
def Port.answered (d : Port) : Port := if d.card = none then d else ⟨none, some (.refused .unknown)⟩

theorem Port.answered_card (d : Port) : d.answered.card = none := by
  unfold Port.answered
  split
  next h => exact h
  next => rfl

/-- The notice of that answer: no used slot holds the number. -/
def State.cardNotice (s : State) (d : Nat) (number : Option Nat) : List Notice := number.toList.map fun n =>
  ⟨.doorAnswer, s.htb.time, [u8 d, u32 n, u8 2, u8 1] ++ Machine.labelFields none ++ [o16 none]⟩

theorem setPort_same (d : Nat) (s : State) : setPort d (s.port d) s = s := by
  unfold setPort State.port
  split <;> rfl

/-- With the roster empty of numbers an outstanding card is answered and reported. -/
theorem answerDoor_reports (d : Nat) (hs : ∀ number, s.slotOf number = none) :
    (setPort d (s.port d).answered s).Reports (s.cardNotice d (s.port d).card) (answerDoor d (.refused .unknown) s) := by
  cases hcard : (s.port d).card with
  | none =>
    rw [Port.answered, if_pos hcard, setPort_same]
    simp only [answerDoor, hcard]
    exact .refl s
  | some number =>
    rw [Port.answered, if_neg (by rw [hcard]; nofun)]
    simp only [answerDoor, hcard, doorNotice]
    have unknown : (setPort d ⟨none, some (.refused .unknown)⟩ s).slotOf number = none := by
      rw [← hs number]
      unfold setPort
      split <;> rfl
    rw [unknown]
    have time : (setPort d ⟨none, some (.refused .unknown)⟩ s).htb = s.htb := by
      unfold setPort
      split <;> rfl
    have told := notify_reports .doorAnswer ([u8 d, u32 number, u8 2, u8 1] ++ labelFields none ++ [o16 none])
      (setPort d ⟨none, some (.refused .unknown)⟩ s)
    rw [time] at told
    exact told

/-! ### Faults and held notices (R147, R178) -/

/-- The fault a parity error unsettled makes. -/
def State.lostFault (s : State) (w : ResendWait) : FaultReport := ⟨.scan, w.kind.faultRecord, w.row, .lost, s.htb.time⟩

/-- Several faults captured: the first where the record is empty, and the flag for every further one. -/
theorem foldl_captured (u : Fcu) (l : List FaultReport) : l.foldl Fcu.captured u = { u with
    capture := u.capture.or l.head?
    further := u.further || (u.capture.isSome && !l.isEmpty) || decide (2 ≤ l.length) } := by
  induction l generalizing u with
  | nil => simp
  | cons f l ih =>
    rw [List.foldl_cons, ih]
    cases hu : u.capture with
    | none =>
      rw [Fcu.captured_empty hu]
      cases l <;> simp
    | some g =>
      rw [Fcu.captured_further (by rw [hu]; nofun)]
      simp [hu]

/-- At another level than QUIET every LOST fault is captured and reported. -/
theorem foldl_lost (ws : List ResendWait) (s : State) (hl : s.fcu.level ≠ .quiet) : ∃ b,
    ws.foldl (fun s w => settleWait .lost w s) s =
      { s with fcu := (ws.map s.lostFault).foldl Fcu.captured s.fcu, sli := b }
    ∧ s.sli.Tells (ws.map fun w => ⟨.fault, s.htb.time,
        [u8 2, u8 w.kind.faultRecord.ctorIdx, o16 w.row, u8 2, u24 s.htb.time]⟩) b := by
  induction ws generalizing s with
  | nil => exact ⟨s.sli, rfl, .refl _⟩
  | cons w ws ih =>
    have reported : s.fcu.level.reports .lost = true := by
      cases h : s.fcu.level <;> first | rfl | exact absurd h hl
    obtain ⟨b, next, told⟩ := notify_reports .fault
      [u8 2, u8 w.kind.faultRecord.ctorIdx, o16 w.row, u8 2, u24 s.htb.time]
      { s with fcu := s.fcu.captured (s.lostFault w) }
    have first : settleWait .lost w s = { s with fcu := s.fcu.captured (s.lostFault w), sli := b } :=
      (takeFault_told reported (.inl nofun)).trans next
    have level : (s.fcu.captured (s.lostFault w)).level ≠ .quiet := by
      unfold Fcu.captured
      split <;> exact hl
    obtain ⟨c, rest, more⟩ := ih { s with fcu := s.fcu.captured (s.lostFault w), sli := b } level
    refine ⟨c, ?_, told.trans more⟩
    rw [List.foldl_cons, first, rest]
    rfl

/-- Every parity error unsettled is lost: a fault of each but at level QUIET. -/
theorem loseWaits_eq (s : State) : ∃ b,
    loseWaits s = { s with
      mru := { s.mru with resendWait := [] }
      fcu := (if s.fcu.level = .quiet then [] else s.mru.resendWait.map s.lostFault).foldl Fcu.captured s.fcu
      sli := b }
    ∧ s.sli.Tells ((if s.fcu.level = .quiet then [] else s.mru.resendWait.map s.lostFault).map fun f =>
        ⟨.fault, s.htb.time, [u8 2, u8 f.record.ctorIdx, o16 f.index, u8 2, u24 s.htb.time]⟩) b := by
  by_cases hl : s.fcu.level = .quiet
  · have silent (ws : List ResendWait) (t : State) (ht : t.fcu.level = .quiet) :
        ws.foldl (fun s w => settleWait .lost w s) t = t := by
      induction ws with
      | nil => rfl
      | cons w ws ih =>
        have ignored : settleWait .lost w t = t := takeFault_ignored (by rw [ht]; rfl) (by rw [ht]; rfl)
        rw [List.foldl_cons, ignored, ih]
    rw [if_pos hl]
    exact ⟨s.sli, silent _ _ hl, .refl _⟩
  · obtain ⟨b, lost, told⟩ := foldl_lost s.mru.resendWait { s with mru := { s.mru with resendWait := [] } } hl
    rw [if_neg hl, List.map_map]
    exact ⟨b, lost, told⟩

/-- The held notices join the queue as the marker becomes IDLE. -/
theorem markerIdle_reports (s : State) : State.Reports s.heldNotices
    { s with mru := { s.mru with marker := none }, fcu := { s.fcu with held := [] } } (markerIdle s) := by
  have each := foldl_reports (f := fun t (f : FaultReport) => notify .fault f.fields t)
    (n := fun t f => some ⟨.fault, t.htb.time, f.fields⟩)
    (fun u f => notify_reports _ _ u) (fun _ _ _ => rfl) s.fcu.held
    { s with mru := { s.mru with marker := none }, fcu := { s.fcu with held := [] } }
  rwa [List.filterMap_eq_map'] at each

/-! ### The state left (R99) -/

/-- The faults of the parity errors unsettled that the reporting level lets through. -/
def State.lostFaults (s : State) : List FaultReport :=
  if s.fcu.level = .quiet then [] else s.mru.resendWait.map s.lostFault

/-- The state CLEAR SITTING leaves, its link but for the notices aside. -/
def State.cleared (s : State) : State :=
  { clearTables s with
    rsu := { (clearTables s).rsu with door0 := s.rsu.door0.answered, door1 := s.rsu.door1.answered }
    mru := { (clearTables s).mru with resendWait := [], marker := none }
    fcu := { s.lostFaults.foldl Fcu.captured s.fcu with held := [] } }

/-- The notices CLEAR SITTING sends, in their order. -/
def State.clearingNotices (s : State) : List Notice :=
  ((s.ssu.papers.keysWhere fun r => r.state != .defined).map fun p =>
      ⟨.paperState, s.htb.time, [u8 p, u8 0, u24 s.htb.time]⟩)
    ++ s.cardNotice 0 s.rsu.door0.card ++ s.cardNotice 1 s.rsu.door1.card
    ++ (s.lostFaults.map fun f => ⟨.fault, s.htb.time, [u8 2, u8 f.record.ctorIdx, o16 f.index, u8 2, u24 s.htb.time]⟩)
    ++ s.heldNotices

/-- The slots that stay used hold no number. -/
theorem clearedSlots_slotOf (h : s.rsu.slots = clearedSlots t.rsu.slots) (number : Nat) : s.slotOf number = none := by
  rw [State.slotOf, h]
  refine Option.map_eq_none_iff.mpr (List.find?_eq_none.mpr fun e he => ?_)
  obtain ⟨f, -, rfl⟩ := List.mem_map.mp he
  simp [Slot.cleared]

theorem clearing_reports (s : State) : s.cleared.Reports s.clearingNotices
    (markerIdle (loseWaits (answerDoor 1 (.refused .unknown) (answerDoor 0 (.refused .unknown) s.sittingCleared)))) := by
  obtain ⟨b1, papers, told1⟩ := clearedNotices_reports (s.ssu.papers.keysWhere fun r => r.state != .defined) (clearTables s)
  have door0 := answerDoor_reports 0 (s := { clearTables s with sli := b1 }) (clearedSlots_slotOf (t := s) rfl)
  obtain ⟨b2, door0, told2⟩ := door0
  have door1 := answerDoor_reports 1
    (s := { setPort 0 s.rsu.door0.answered { clearTables s with sli := b1 } with sli := b2 })
    (clearedSlots_slotOf (t := s) rfl)
  obtain ⟨b3, door1, told3⟩ := door1
  obtain ⟨b4, lost, told4⟩ := loseWaits_eq { setPort 1 s.rsu.door1.answered (setPort 0 s.rsu.door0.answered
    { clearTables s with sli := b1 }) with sli := b3 }
  have held (l : List FaultReport) (u : Fcu) : (l.foldl Fcu.captured u).held = u.held := by rw [foldl_captured]
  obtain ⟨b5, idle, told5⟩ := markerIdle_reports { clearTables s with
    rsu := { (clearTables s).rsu with door0 := s.rsu.door0.answered, door1 := s.rsu.door1.answered }
    mru := { (clearTables s).mru with resendWait := [] }
    fcu := s.lostFaults.foldl Fcu.captured s.fcu
    sli := b4 }
  rw [State.heldNotices, held] at told5
  refine ⟨b5, ?_, (((told1.trans told2).trans told3).trans told4).trans told5⟩
  calc markerIdle (loseWaits (answerDoor 1 (.refused .unknown) (answerDoor 0 (.refused .unknown) s.sittingCleared)))
      _ = markerIdle (loseWaits (answerDoor 1 (.refused .unknown) (answerDoor 0 (.refused .unknown)
          { clearTables s with sli := b1 }))) := by rw [State.sittingCleared, papers]
      _ = markerIdle (loseWaits (answerDoor 1 (.refused .unknown)
          { setPort 0 s.rsu.door0.answered { clearTables s with sli := b1 } with sli := b2 })) :=
        congrArg (fun t => markerIdle (loseWaits (answerDoor 1 (.refused .unknown) t))) door0
      _ = markerIdle (loseWaits { setPort 1 s.rsu.door1.answered (setPort 0 s.rsu.door0.answered
          { clearTables s with sli := b1 }) with sli := b3 }) := congrArg (fun t => markerIdle (loseWaits t)) door1
      _ = _ := (congrArg markerIdle lost).trans idle

/-- Settles O34, from the state left and the notices sent. -/
theorem clearSittingKeepsTheConfiguration : Obligations.ClearSittingKeepsTheConfiguration := by
  unfold Obligations.ClearSittingKeepsTheConfiguration
  refine fun s hs => ⟨fun h => ?_, fun hc hh hp => ?_⟩
  · rw [exec_clearSitting_ready hs, takeClearSitting_busy h, finishTaking_refuse]
  · obtain ⟨b, done, told⟩ := clearing_reports s
    rw [exec_clearSitting_ready hs, takeClearSitting_done hc hh hp, done, finishTaking_done]
    refine ⟨_, rfl, fun p => ?_, fun n => ?_, fun e => ?_, ?_, ?_, ⟨?_, ?_⟩, ⟨fun room => ?_, ?_⟩, rfl, rfl, rfl, rfl, rfl, rfl,
      rfl, fun a => ?_, rfl, rfl, rfl, rfl, rfl, rfl, rfl, rfl, rfl, rfl, rfl, rfl, rfl, rfl, rfl, ?_, fun f hf => ?_⟩
    · exact Table.find_mapAll s.ssu.papers p fun _ r => r.cleared
    · refine (Table.find_mapAll s.hmu.seats n fun _ r => r.cleared).trans (congrArg (Option.map · (s.seat? n)) (funext fun r => ?_))
      simp only [Seat.cleared, beq_iff_eq]
    · constructor
      · intro he
        obtain ⟨f, hf, rfl⟩ := List.mem_map.mp he
        obtain ⟨hf, hu⟩ := List.mem_filter.mp hf
        exact ⟨f.2, hf, hu, rfl⟩
      · rintro ⟨x, hx, hu, h2⟩
        exact List.mem_map.mpr ⟨(e.1, x), List.mem_filter.mpr ⟨hx, hu⟩, Prod.ext rfl h2.symm⟩
    · exact Port.answered_card _
    · exact Port.answered_card _
    · rfl
    · rfl
    · have papers : (s.ssu.papers.keysWhere fun r => r.state != .defined).map
          (fun p => (⟨.paperState, s.htb.time, [u8 p, u8 0, u24 s.htb.time]⟩ : Notice)) =
          (s.ssu.papers.filter fun e => e.2.state != .defined).map fun e =>
            ⟨.paperState, s.htb.time, [u8 e.1, u8 0, u24 s.htb.time]⟩ := List.map_map
      have said : s.clearingNotices = _ ++ s.cardNotice 0 s.rsu.door0.card ++ s.cardNotice 1 s.rsu.door1.card ++ _ ++
        s.heldNotices := congrArg (· ++ _ ++ _ ++ _ ++ _) papers
      rw [said] at told
      exact told (.inr room)
    · exact congrArg (fun u : Fcu => { u with held := [] }) (foldl_captured s.fcu s.lostFaults)
    · exact Table.find_mapAll s.dbc.desks a fun _ d => d.cleared
    · exact (congrArg Fcu.level (foldl_captured s.fcu s.lostFaults)).trans rfl
    · refine (congrArg Fcu.capture (foldl_captured s.fcu s.lostFaults)).trans ?_
      rw [hf]
      rfl

end Sys2Proof.Machine

/-! PROOFS. Desk replies, presses and the call list (O38). -/

namespace Sys2Proof.Machine

set_option Elab.async false

variable {s u : State} {a n k : Nat} {d : Desk} {r : Seat} {x : Slot}

/-! ### One desk's record written -/

theorem desk?_withDesk_same (u : State) (a : Nat) (d : Desk) : (u.withDesk a d).desk? a = some d :=
  (Table.find_put ..).trans (if_pos rfl)

theorem withDesk_withDesk (u : State) (a : Nat) (d e : Desk) : (u.withDesk a d).withDesk a e = u.withDesk a e := by
  simp only [State.withDesk, Table.put_put]

theorem modDesk_withDesk (u : State) (a : Nat) (d : Desk) (f : Desk → Desk) :
    modDesk a f (u.withDesk a d) = u.withDesk a (f d) := by
  rw [modDesk_eq_withDesk (desk?_withDesk_same u a d), withDesk_withDesk]

/-- A notice looks at no desk's record. -/
theorem notify_withDesk (kind : NoticeKind) (f : List Field) (u : State) (a : Nat) (d : Desk) :
    notify kind f (u.withDesk a d) = (notify kind f u).withDesk a d := by
  rw [notify, joinQueue, notify, joinQueue, apply_ite (fun t : State => t.withDesk a d)]
  rfl

theorem retryTrigger_withDesk (u : State) (a : Nat) (d : Desk) :
    retryTrigger (u.withDesk a d) = (retryTrigger u).withDesk a d := by
  rw [retryTrigger_eq, retryTrigger_eq]
  rfl

/-! ### Presses and senses (R107) -/

theorem Buttons.get_sensed (b i : Buttons) (k : Button) : (b.sensed i).get k = (b.get k != i.get k) := by
  cases k <;> rfl

theorem mem_pressesOf {i l p v : Buttons} {k : Button} : k ∈ pressesOf i l p v ↔
    (i.get k = false ∧ (l.get k = true ∨ (p.get k = false ∧ v.get k = true))
      ∨ i.get k = true ∧ p.get k = false ∧ (l.get k = true ∨ v.get k = true)) := by
  have all : k ∈ [Button.present, .finish, .call, .breakKey] := by cases k <;> decide
  rw [pressesOf, List.mem_filter]
  cases i.get k <;> simp [all, pressTaken]

/-! ### A good reply (R104, R106) -/

/-- A desk's record as an accepted reply leaves it. -/
def Desk.accepted (d : Desk) (levels : Buttons) (presses : List Button) : Desk :=
  { d with misses := 0, levels := levels, presses := presses, ack := !d.ack, expected := !d.expected }

/-- What follows an accepted reply: the long press counted, then each press handed on. -/
def handedOn (a : Nat) (levels : Buttons) (presses : List Button) (u : State) : State :=
  presses.foldl (fun u k => handPress a levels k u) (countLongPress a levels.call u)

/-- With no long press at the desk, none is counted (R111). -/
theorem countLongPress_none (hd : u.desk? a = some d) (h : d.longPress = none) (level : Bool) : countLongPress a level u = u := by
  rw [countLongPress, hd, Option.bind_some, h]

theorem acceptReply_withDesk (levels latches : Buttons) : acceptReply a levels latches (u.withDesk a d) =
    let presses := pressesOf u.dbc.inverted latches d.levels levels
    handedOn a levels presses
      (u.withDesk a { d with levels := levels, presses := presses, ack := !d.ack, expected := !d.expected }) := by
  rw [acceptReply, desk?_withDesk_same]
  dsimp only
  rw [modDesk_withDesk]
  rfl

section
variable (hd : u.desk? a = some d) {raw latches : Buttons} {seq : Bool}
include hd

theorem takeReply_offline (h : d.state = .offline) : takeReply a raw latches seq u =
    u.withDesk a { d with
      state := .quiet, cause := some .returned, misses := 0, levels := raw.sensed u.dbc.inverted, expected := !seq
      ack := !d.ack, resample := false } := by
  rw [takeReply, hd]
  dsimp only
  rw [h, modDesk_eq_withDesk hd]
  exact modDesk_withDesk ..

theorem takeReply_sampled (h : d.state = .quiet) (hq : d.resample = true ∨ seq ≠ d.expected) :
    takeReply a raw latches seq u = u.withDesk a { d with
      misses := 0, levels := raw.sensed u.dbc.inverted, expected := !seq, ack := !d.ack, resample := false } := by
  have sample : ¬(seq == d.expected && !d.resample) = true := by
    rcases hq with hq | hq <;> simp [hq]
  rw [takeReply, hd]
  dsimp only
  rw [modDesk_eq_withDesk hd, h]
  dsimp only
  rw [if_neg sample]
  exact modDesk_withDesk ..

theorem takeReply_restarted (h : d.state = .online) (hq : seq ≠ d.expected) : takeReply a raw latches seq u =
    notify .deskRestarted (u16 a :: u.labelFields (u.seatOfDesk a)) (u.withDesk a { d with
      misses := 0, levels := raw.sensed u.dbc.inverted, expected := !seq, ack := !d.ack, resample := false
      longPress := none, window := none }) := by
  rw [takeReply, hd]
  dsimp only
  rw [modDesk_eq_withDesk hd, h]
  dsimp only
  rw [if_neg (by simpa using hq), modDesk_withDesk]
  rfl

theorem takeReply_online (h : d.state = .online) (hq : seq = d.expected) : takeReply a raw latches seq u =
    let levels := raw.sensed u.dbc.inverted
    let presses := pressesOf u.dbc.inverted latches d.levels levels
    handedOn a levels presses (u.withDesk a (d.accepted levels presses)) := by
  rw [takeReply, hd]
  dsimp only
  rw [modDesk_eq_withDesk hd, h]
  dsimp only
  rw [if_pos (by simpa using hq), acceptReply_withDesk, Desk.accepted, h]

/-- The notice of a desk that comes back, where it had gone. -/
def deskTold (a : Nat) (d : Desk) (u : State) : State :=
  if d.cause = some .returned then notify .deskOnline (u16 a :: u.labelFields (u.seatOfDesk a)) u else u

omit hd in
theorem deskTold_withDesk (d e : Desk) : retryTrigger (deskTold a d (u.withDesk a e)) =
    (retryTrigger (deskTold a d u)).withDesk a e := by
  rw [← retryTrigger_withDesk]
  unfold deskTold
  split
  · exact congrArg retryTrigger (notify_withDesk ..)
  · rfl

theorem takeReply_quiet (h : d.state = .quiet) (hr : d.resample = false) (hq : seq = d.expected) :
    takeReply a raw latches seq u =
    let levels := raw.sensed u.dbc.inverted
    let presses := pressesOf u.dbc.inverted latches d.levels levels
    handedOn a levels presses (retryTrigger (deskTold a d (u.withDesk a { d.accepted levels presses with
      state := .online, cause := none, announced := d.announced || d.cause == some .returned }))) := by
  have dbc : (retryTrigger (deskTold a d u)).dbc = u.dbc := by
    unfold deskTold
    split <;> simp
  have online (e : Desk) : deskOnline a d (u.withDesk a e) = retryTrigger (deskTold a d (u.withDesk a { e with
      state := .online, cause := none, announced := e.announced || e.cause == some .returned })) := by
    simp only [deskOnline, modDesk_withDesk, deskTold, deskNotice, beq_iff_eq]
  rw [takeReply, hd]
  dsimp only
  rw [h]
  dsimp only
  rw [if_pos (by simp [hq, hr]), modDesk_eq_withDesk hd, online, deskTold_withDesk, acceptReply_withDesk,
    deskTold_withDesk, dbc]
  rfl

/-- With no press in the reply and no long press before it, nothing is handed on. -/
theorem takeReply_quiet_none (h : d.state = .quiet) (hr : d.resample = false) (hq : seq = d.expected)
    (hlong : d.longPress = none) (hp : pressesOf u.dbc.inverted latches d.levels (raw.sensed u.dbc.inverted) = []) :
    takeReply a raw latches seq u =
    retryTrigger (deskTold a d (u.withDesk a { d.accepted (raw.sensed u.dbc.inverted) [] with
      state := .online, cause := none, announced := d.announced || d.cause == some .returned })) := by
  rw [takeReply_quiet hd h hr hq]
  dsimp only
  rw [hp, deskTold_withDesk]
  rw [handedOn, List.foldl_nil]
  exact countLongPress_none (desk?_withDesk_same ..) (by exact hlong) _
end

/-! ### Exchanges (R103) -/

section
variable (hc : s.calm = true) {hi lo b q ck : Byte}
include hc

theorem exec_deskReply : exec (.deskReply hi lo b q ck) s = .next (deskReplies [hi, lo, b, q, ck] b q s) :=
  congrArg Host.Outcome.next (settled_calm hc _)

variable {retried : Bool} (hx : s.dbc.exchange = some ⟨a, retried, false⟩)
include hx

theorem exec_deskReply_bad (h : hi + lo + b + q + ck ≠ 0 ∨ hi.toNat * 256 + lo.toNat ≠ a) :
    exec (.deskReply hi lo b q ck) s = .next (attemptFails ⟨a, retried, false⟩ s) := by
  have bad : (!sumsToZero [hi, lo, b, q, ck] || numberOf ([hi, lo, b, q, ck].take 2) != a) = true := by
    simpa [sumsToZero, byteSum, numberOf, or_comm] using h
  rw [exec_deskReply hc, deskReplies, hx]
  dsimp only
  rw [if_neg Bool.false_ne_true, if_pos bad]

variable (hz : hi + lo + b + q + ck = 0) (ha : hi.toNat * 256 + lo.toNat = a)
include hz ha

theorem exec_deskReply_good : exec (.deskReply hi lo b q ck) s = .next (takeReply a (replyLevels b) (replyLatches b) (bit q 0)
    (if retried && (s.desk? a).map (·.state) != some .offline then takeFault .desk .desk (some a) .corrected (endExchange s)
      else endExchange s)) := by
  have good : ¬(!sumsToZero [hi, lo, b, q, ck] || numberOf ([hi, lo, b, q, ck].take 2) != a) = true := by
    simp [sumsToZero, byteSum, numberOf, hz, ha]
  rw [exec_deskReply hc, deskReplies, hx]
  dsimp only
  rw [if_neg Bool.false_ne_true, if_neg good]
  rfl
end

/-! ### The call list (R112) -/

theorem offerCall_listed (h : ∃ c ∈ s.dbc.calls, c.seat = n) (why : CallReason) : offerCall a n why s =
    if why = .call then notify .call (s.labelFields (some n) ++ [u8 0]) { s with dbc := { s.dbc with
      calls := s.dbc.calls.map fun c => if c.seat = n then { c with reason := .call } else c } } else s := by
  have listed : (s.dbc.calls.any fun c => c.seat == n) = true := by simpa using h
  have upgraded : Call.upgraded n = fun c => if c.seat = n then { c with reason := .call } else c := by
    funext c
    simp [Call.upgraded]
  rw [offerCall, if_pos listed, upgraded]
  cases why <;> rfl

theorem offerCall_unlisted (h : ∀ c ∈ s.dbc.calls, c.seat ≠ n) (why : CallReason) : offerCall a n why s =
    if s.dbc.calls.length < 64 then notify .call (s.labelFields (some n) ++ [u8 why.ctorIdx])
      { s with dbc := { s.dbc with calls := s.dbc.calls ++ [⟨n, why, s.htb.time⟩] } }
    else notify .callListFull (s.labelFields (some n) ++ [u8 why.ctorIdx]) (setFeedback a ⟨.red, .fast⟩ 3 s) := by
  have unlisted : ¬(s.dbc.calls.any fun c => c.seat == n) = true := by simpa using h
  rw [offerCall, if_neg unlisted]
  rfl

/-! ### The long press (R111) -/

section
variable (hd : u.desk? a = some d) (hn : u.seatOfDesk a = some n) {c : Nat} (h : d.longPress = some c)
include hd hn h

theorem countLongPress_down : countLongPress a true u =
    if c < 3 then u.withDesk a { d with longPress := some (c + 1) }
    else if c = 3 then offerCall a n .booklet (u.withDesk a { d with longPress := some 4 }) else u := by
  rw [countLongPress, hd, Option.bind_some, h, hn]
  simp only [if_true, modDesk_eq_withDesk hd, beq_iff_eq]

theorem countLongPress_up : countLongPress a false u =
    if c < 4 then offerCall a n .call (u.withDesk a { d with longPress := none })
    else u.withDesk a { d with longPress := none } := by
  rw [countLongPress, hd, Option.bind_some, h, hn]
  simp only [Bool.false_eq_true, if_false, modDesk_eq_withDesk hd]
end

/-! ### Presses (R109) -/

/-- A desk's record as the next of its presses leaves it, before the press acts. -/
def Desk.pressed (d : Desk) (k : Button) : Desk :=
  { d with presses := d.presses.drop 1, window := if k = .finish then d.window else none }

section
variable (hc : u.clean = true) (hd : u.desk? a = some d) (hn : u.seatOfDesk a = some n) (hr : u.seat? n = some r)
  {levels : Buttons} {b : Button}
include hc hd hn hr

theorem handPress_eq : handPress a levels b u =
    if r.suspect = true ∨ ((r.occupant.bind u.slot?).map (·.suspect)).getD false = true then u.withDesk a (d.pressed b)
    else handPressAt a n r levels (u.withDesk a (d.pressed b)) b := by
  have window : (if (b == .finish) = true then d.window else none) = if b = .finish then d.window else none := by
    cases b <;> rfl
  have clean : (u.withDesk a (d.pressed b)).clean = true := hc
  rw [handPress, modDesk_eq_withDesk hd, window, ← Desk.pressed]
  dsimp only
  rw [show (u.withDesk a (d.pressed b)).seatOfDesk a = some n from hn]
  dsimp only
  rw [readSeat_clean clean, show (u.withDesk a (d.pressed b)).seat? n = some r from hr]
  dsimp only
  cases r.occupant with
  | none => cases r.suspect <;> rfl
  | some j =>
    dsimp only
    simp only [readSlot_clean clean]
    cases r.suspect with
    | true => rfl
    | false => simp only [Bool.false_eq_true, if_false, false_or]; rfl

theorem handPress_ignored
    (h : r.suspect = true ∨ ∃ j x, r.occupant = some j ∧ u.slot? j = some x ∧ x.suspect = true) :
    handPress a levels b u = u.withDesk a (d.pressed b) := by
  rw [handPress_eq hc hd hn hr, if_pos]
  rcases h with h | ⟨j, x, ho, hx, h⟩
  · exact .inl h
  · exact .inr (by rw [ho, Option.bind_some, hx]; exact h)

theorem handPress_at (hs : r.suspect = false) (ho : ∀ j x, r.occupant = some j → u.slot? j = some x → x.suspect = false) :
    handPress a levels b u = handPressAt a n r levels (u.withDesk a (d.pressed b)) b := by
  have sound : ¬(r.suspect = true ∨ ((r.occupant.bind u.slot?).map (·.suspect)).getD false = true) := by
    cases hj : r.occupant with
    | none => simp [hs]
    | some j =>
      cases hx : u.slot? j with
      | none => simp [hs, hx]
      | some x => simp [hs, hx, ho j x hj hx]
  rw [handPress_eq hc hd hn hr, if_neg sound]
end

section
variable {levels : Buttons}

theorem handPressAt_call (h : r.state = .occupied) : handPressAt a n r levels (u.withDesk a d) .call =
    if levels.call then u.withDesk a { d with longPress := some 1 }
    else offerCall a n .call (u.withDesk a { d with longPress := none }) := by
  rw [handPressAt, if_pos (by rw [h]; rfl)]
  simp only [callPress, modDesk_withDesk]

theorem handPressAt_call_elsewhere (h : r.state ≠ .occupied) :
    handPressAt a n r levels u .call = unexpectedPress r .call u := if_neg (by simpa using h)

theorem handPressAt_break (h : r.state = .occupied) :
    handPressAt a n r levels u .breakKey = offerCall a n .breakRequest u := if_pos (by rw [h]; rfl)

theorem handPressAt_break_elsewhere (h : r.state ≠ .occupied) :
    handPressAt a n r levels u .breakKey = unexpectedPress r .breakKey u := if_neg (by simpa using h)

theorem handPressAt_finish_empty (h : r.occupant = none) :
    handPressAt a n r levels u .finish = unexpectedPress r .finish u := by
  rw [handPressAt, finishPress, h]

theorem handPressAt_finish_opens (h : r.occupant = some k) (hw : d.window = none) :
    handPressAt a n r levels (u.withDesk a d) .finish = u.withDesk a { d with window := some 10 } := by
  rw [handPressAt, finishPress, h, desk?_withDesk_same, Option.bind_some, hw]
  exact modDesk_withDesk ..

theorem handPressAt_finish_asks {w : Nat} (h : r.occupant = some k) (hw : d.window = some w) :
    handPressAt a n r levels (u.withDesk a d) .finish = deskFinish a n k (u.withDesk a { d with window := none }) := by
  rw [handPressAt, finishPress, h, desk?_withDesk_same, Option.bind_some, hw]
  exact congrArg (deskFinish a n k) (modDesk_withDesk ..)
end

theorem finishRefusal_running {p : Paper} (h : x.clock.state = .running ∨ x.clock.state = .paused)
    (hp : s.paper? x.cand.paper = some p) : s.finishRefusal x true =
    if p.elapsed < 60 * p.blackFirst ∨ x.clock.remaining ≤ 60 * p.blackLast then some .blackout else none := by
  rcases h with h | h <;> simp [State.finishRefusal, State.finishRefusal.blackout, h, hp, insideBlackout]

theorem deskFinish_refused (hx : u.slot? k = some x) (hs : x.suspect = false) (hr : u.seat? n = some r) {why : Reason}
    (h : u.finishRefusal x true = some why) : deskFinish a n k (u.withDesk a d) =
    notify .finishRefused (labelFields (some (labelOf r)) ++ [u8 why.ctorIdx])
      (u.withDesk a { d with feedback := some ⟨⟨.amber, .fast⟩, 3⟩ }) := by
  have label : (u.withDesk a d).labelFields (some n) = labelFields (some (labelOf r)) := labelFields_seat hr
  rw [deskFinish, show (u.withDesk a d).slot? k = some x from hx]
  dsimp only
  rw [if_neg (by simp [hs]), show (u.withDesk a d).finishRefusal x true = some why from h]
  dsimp only
  rw [label, setFeedback, notify_withDesk, modDesk_withDesk, notify_withDesk]

theorem deskFinish_accepted (hx : u.slot? k = some x) (hs : x.suspect = false) (h : u.finishRefusal x true = none) :
    deskFinish a n k u = acceptFinish k .early u := by
  rw [deskFinish, hx]
  dsimp only
  rw [if_neg (by simp [hs]), h]

/-! ### PRESENT presses (R34, R94) -/

section
variable (hr : u.seat? n = some r) (hs : r.suspect = false) {f : State → State}
include hr hs

theorem presentPress_seats (h : r.state = .held) (ho : r.occupant = some k) (hx : u.slot? k = some x) (hxs : x.suspect = false)
    (ha : x.cand.state = .admitted) : presentPress n f u =
    (u.withSeat n { r with state := .occupied, used := true }).withSlot k { x.cand with state := .seated, walk := none } x.clock := by
  have occupied : occupySeat n u = u.withSeat n { r with state := .occupied, used := true } := by
    rw [occupySeat, hr]
    dsimp only
    rw [putSeat_same (new := { r with state := .occupied, used := true }) hr rfl (.inr rfl)]
    rfl
  rw [presentPress, hr]
  dsimp only
  rw [if_neg (by simp [hs]), h, ho, Option.bind_some, hx]
  dsimp only
  rw [if_neg (by simp [hxs, ha]), ← ho, occupied]
  exact Slot.eq_write_of_readable hxs _ hx

theorem presentPress_held (h : r.state = .held) (ho : r.occupant = some k) (hx : u.slot? k = some x)
    (ha : x.cand.state ≠ .admitted) : presentPress n f u = u := by
  rw [presentPress, hr]
  dsimp only
  rw [if_neg (by simp [hs]), h, ho, Option.bind_some, hx]
  dsimp only
  rw [if_pos (by simp [ha])]

theorem presentPress_occupied (h : r.state = .occupied) (ho : r.occupant = some k) (hx : u.slot? k = some x)
    (hxs : x.suspect = false) : presentPress n f u =
    if x.clock.state = .paused then notify .breakEnded ([u16 k] ++ labelFields (some (labelOf r)) ++ [u16 x.clock.budget])
      (u.withSlot k x.cand { x.clock with state := .running }) else u := by
  rw [presentPress, hr]
  dsimp only
  rw [if_neg (by simp [hs]), h, ho, Option.bind_some, hx]
  simp only [hxs, Bool.not_false, Bool.true_and, beq_iff_eq]
  refine if_congr Iff.rfl ?_ rfl
  have label (t : State) (ht : t.hmu = u.hmu) : t.labelFields (some n) = labelFields (some (labelOf r)) :=
    labelFields_seat (by rw [State.seat?, ht]; exact hr)
  have found (c : Candidate) (l : Clock) : ((u.withSlot k c l).slot? k).map (·.clock.budget) = some l.budget := by
    simp
    rfl
  rw [endBreak, modClock_eq_withSlot hxs hx]
  rw [label (u.withSlot k x.cand { x.clock with state := .running }) rfl, found]
  rfl

theorem presentPress_unexpected (h : r.state = .free ∨ r.state = .vacated ∨ r.state = .unavailable) : presentPress n f u =
    f (notify .unexpectedPresent (labelFields (some (labelOf r)) ++ [u8 r.state.ctorIdx]) u) := by
  rw [presentPress, hr]
  dsimp only
  rw [if_neg (by simp [hs])]
  rcases h with h | h | h <;> rw [h]
end

/-! ### Replies of a desk that is in step -/

/-- The bus with no exchange and a desk's record written. -/
def State.deskAfter (s : State) (a : Nat) (d : Desk) : State :=
  { s with dbc := { (s.withDesk a d).dbc with exchange := none } }

theorem deskAfter_withDesk (s : State) (a : Nat) (d e : Desk) : (s.deskAfter a d).withDesk a e = s.deskAfter a e :=
  withDesk_withDesk (endExchange s) a d e

theorem desk?_deskAfter (s : State) (a : Nat) (d : Desk) : (s.deskAfter a d).desk? a = some d :=
  desk?_withDesk_same (endExchange s) a d

section
variable {hi lo b q ck : Byte} (hc : s.calm = true) (hx : s.dbc.exchange = some ⟨a, false, false⟩)
  (hz : hi + lo + b + q + ck = 0) (ha : hi.toNat * 256 + lo.toNat = a)
include hc hx hz ha

theorem exec_deskReply_first : exec (.deskReply hi lo b q ck) s =
    .next (takeReply a (replyLevels b) (replyLatches b) (bit q 0) (endExchange s)) := exec_deskReply_good hc hx hz ha

variable (hd : s.desk? a = some d) (ho : d.state = .online) (hq : q.getLsbD 0 = d.expected)
include hd ho hq

theorem exec_deskReply_online : exec (.deskReply hi lo b q ck) s =
    let levels := (replyLevels b).sensed s.dbc.inverted
    let presses := pressesOf s.dbc.inverted (replyLatches b) d.levels levels
    .next (handedOn a levels presses (s.deskAfter a (d.accepted levels presses))) := by
  rw [exec_deskReply_first hc hx hz ha]
  exact congrArg Host.Outcome.next (takeReply_online (u := endExchange s) hd ho hq)

variable (hc' : s.clean = true) (hn : s.seatOfDesk a = some n) (hr : s.seat? n = some r) (hs : r.suspect = false)
  (hoc : ∀ j x, r.occupant = some j → s.slot? j = some x → x.suspect = false) {levels : Buttons} {k : Button}
  (hl : (replyLevels b).sensed s.dbc.inverted = levels)
include hl

theorem exec_deskReply_none (hp : pressesOf s.dbc.inverted (replyLatches b) d.levels levels = []) :
    exec (.deskReply hi lo b q ck) s = .next (countLongPress a levels.call (s.deskAfter a (d.accepted levels []))) := by
  rw [exec_deskReply_online hc hx hz ha hd ho hq, hl]
  dsimp only
  rw [hp]
  rfl

include hc' hn hr hs hoc

/-- One press: it is handed on as the count of a long press left the desk. -/
theorem exec_deskReply_one (hp : pressesOf s.dbc.inverted (replyLatches b) d.levels levels = [k]) {e : Desk}
    (he : countLongPress a levels.call (s.deskAfter a (d.accepted levels [k])) = s.deskAfter a e) :
    exec (.deskReply hi lo b q ck) s = .next (handPressAt a n r levels (s.deskAfter a (e.pressed k)) k) := by
  have handed : handPress a levels k (s.deskAfter a e) = handPressAt a n r levels (s.deskAfter a (e.pressed k)) k := by
    rw [handPress_at (u := s.deskAfter a e) hc' (desk?_deskAfter ..) hn hr hs hoc]
    exact congrArg (fun t => handPressAt a n r levels t k) (deskAfter_withDesk ..)
  rw [exec_deskReply_online hc hx hz ha hd ho hq, hl]
  dsimp only
  rw [hp, handedOn, he]
  exact congrArg Host.Outcome.next handed
end

theorem deskAfter_uncounted (s : State) (a : Nat) {d : Desk} (h : d.longPress = none) (level : Bool) :
    countLongPress a level (s.deskAfter a d) = s.deskAfter a d := countLongPress_none (desk?_deskAfter ..) h level

/-- Of a reply with one latch set, no level and no sense inverted, that button is the one press. -/
theorem pressesOf_latch (p : Buttons) :
    pressesOf .none (replyLatches 16#8) p .none = [.present] ∧ pressesOf .none (replyLatches 32#8) p .none = [.finish]
    ∧ pressesOf .none (replyLatches 64#8) p .none = [.call] ∧ pressesOf .none (replyLatches 128#8) p .none = [.breakKey]
    ∧ pressesOf .none (replyLatches 68#8) p ⟨false, false, true, false⟩ = [.call] := by
  have latch (x : Bool) : pressTaken false true x false = true ∧ pressTaken false false x false = false
      ∧ pressTaken false true x true = true := by cases x <;> decide
  refine ⟨?_, ?_, ?_, ?_, ?_⟩ <;> simp [pressesOf, Buttons.get, Buttons.none, replyLatches, bit, latch]

/-- With no latch set and the CALL key still down, or no key down, no press is taken. -/
theorem pressesOf_no_latch (p : Buttons) : pressesOf .none (replyLatches 0#8) p .none = []
    ∧ (p.call = true → pressesOf .none (replyLatches 4#8) p ⟨false, false, true, false⟩ = []) := by
  have quiet (x : Bool) : pressTaken false false x false = false := by cases x <;> rfl
  have down : pressTaken false false true true = false := rfl
  constructor
  · simp [pressesOf, Buttons.get, Buttons.none, replyLatches, bit, quiet]
  · intro h
    simp [pressesOf, Buttons.get, Buttons.none, replyLatches, bit, quiet, h, down]

/-! ### The fault of a retried exchange (R103) -/

section
variable {hi lo b q ck : Byte} (hc : s.calm = true) (hd : s.desk? a = some d)
  (hz : hi + lo + b + q + ck = 0) (ha : hi.toNat * 256 + lo.toNat = a)
include hc hd hz ha

/-- The state in which the desk's exchange is at its second attempt. -/
def State.atRetry (s : State) (a : Nat) : State := { s with dbc := { s.dbc with exchange := some ⟨a, true, false⟩ } }

theorem exec_deskReply_retried : exec (.deskReply hi lo b q ck) (s.atRetry a) =
    .next (takeReply a (replyLevels b) (replyLatches b) (bit q 0)
      (if d.state = .offline then endExchange s else takeFault .desk .desk (some a) .corrected (endExchange s))) := by
  have reported : (true && ((s.atRetry a).desk? a).map (·.state) != some .offline) = true ↔ ¬d.state = .offline := by
    simp [show (s.atRetry a).desk? a = some d from hd]
  rw [exec_deskReply_good (s := s.atRetry a) (retried := true) hc rfl hz ha]
  refine congrArg (fun t => Host.Outcome.next (takeReply a (replyLevels b) (replyLatches b) (bit q 0) t)) ?_
  rw [if_congr reported rfl rfl, ite_not]
  rfl

theorem exec_deskReply_unreported (h : d.state = .offline ∨ s.fcu.level ≠ .record)
    (hx : s.dbc.exchange = some ⟨a, false, false⟩) :
    exec (.deskReply hi lo b q ck) (s.atRetry a) = exec (.deskReply hi lo b q ck) s := by
  rw [exec_deskReply_retried hc hd hz ha, exec_deskReply_first hc hx hz ha]
  split_ifs with off
  · rfl
  · have low := h.resolve_left off
    rw [takeFault_ignored (s := endExchange s)]
    · show s.fcu.level.captures .corrected = false
      cases hv : s.fcu.level <;> first | rfl | exact absurd hv low
    · show s.fcu.level.reports .corrected = false
      cases hv : s.fcu.level <;> first | rfl | exact absurd hv low

theorem exec_deskReply_corrected (ho : d.state = .online) (hq : q.getLsbD 0 = d.expected) (hlong : d.longPress = none)
    (hl : s.fcu.level = .record) (hcap : s.fcu.capture = none) (hm : s.mru.marker = none)
    (hp : pressesOf s.dbc.inverted (replyLatches b) d.levels ((replyLevels b).sensed s.dbc.inverted) = []) :
    exec (.deskReply hi lo b q ck) (s.atRetry a) =
      .next (notify .fault [u8 1, u8 3, o16 (some a), u8 0, u24 s.htb.time] { s.deskAfter a (d.accepted
        ((replyLevels b).sensed s.dbc.inverted) []) with
          fcu := { s.fcu with capture := some ⟨.desk, .desk, some a, .corrected, s.htb.time⟩ } }) := by
  let w : State := { endExchange s with
    fcu := { s.fcu with capture := some ⟨.desk, .desk, some a, .corrected, s.htb.time⟩ } }
  have fault : takeFault .desk .desk (some a) .corrected (endExchange s) =
      notify .fault [u8 1, u8 3, o16 (some a), u8 0, u24 s.htb.time] w := by
    rw [takeFault_told (s := endExchange s) (by rw [show (endExchange s).fcu.level = .record from hl]; rfl) (.inr hm)]
    rw [show (endExchange s).fcu = s.fcu from rfl, Fcu.captured_empty hcap]
    rfl
  have dbc (f : List Field) : (notify .fault f w).dbc = (endExchange s).dbc := notify_dbc ..
  rw [exec_deskReply_retried hc hd hz ha, if_neg (by rw [ho]; nofun), fault,
    takeReply_online (by rw [State.desk?, dbc]; exact hd) ho (show bit q 0 = d.expected from hq)]
  dsimp only
  rw [dbc, show (endExchange s).dbc.inverted = s.dbc.inverted from rfl, hp]
  refine congrArg Host.Outcome.next ?_
  rw [handedOn, List.foldl_nil, countLongPress_none (d := d.accepted _ []) (desk?_withDesk_same ..) hlong, ← notify_withDesk]
  rfl
end

/-! ### The obligation -/

/-- Settles O38: each reply's exec is `takeReply` on the bus without its exchange, one lemma per desk state and press. -/
theorem deskReplyIsTaken : Obligations.DeskReplyIsTaken := by
  refine ⟨?_, ?_, ?_, ?_, ?_, ?_⟩
  · intro s hi lo b q ck a d hc hx hd
    refine ⟨fun h => (exec_deskReply_bad hc hx h), fun hz ha => ?_, fun hz ha ho hq hinv hc' n r hn hr hs hoc => ?_⟩
    · refine ⟨fun ho => ?_, fun ho hq => ?_, fun ho hq hlong hp => ?_, ?_, ?_, fun ho hq => ?_,
        fun h => exec_deskReply_unreported hc hd hz ha h hx,
        fun ho hq hlong hl hcap hm hp => exec_deskReply_corrected hc hd hz ha ho hq hlong hl hcap hm hp⟩
      · exact (exec_deskReply_first hc hx hz ha).trans (congrArg Host.Outcome.next (takeReply_offline (u := endExchange s) hd ho))
      · exact (exec_deskReply_first hc hx hz ha).trans
          (congrArg Host.Outcome.next (takeReply_sampled (u := endExchange s) hd ho hq))
      · exact (exec_deskReply_none hc hx hz ha hd ho hq rfl hp).trans
          (congrArg Host.Outcome.next (countLongPress_none (d := d.accepted _ []) (desk?_deskAfter ..) hlong _))
      · intro ho hq hlong hinv hb hc' n r k x hn hr hs held hocc _ hk hxs adm
        subst hb
        have sound : ∀ j y, r.occupant = some j → s.slot? j = some y → y.suspect = false := by
          intro j y hj hy
          rw [hocc] at hj
          cases hj
          rw [hk] at hy
          cases hy
          exact hxs
        let idle : Desk := (d.accepted .none [.present]).pressed .present
        have pressed := exec_deskReply_one (b := 16#8) hc hx hz ha hd ho hq hc' hn hr hs sound (levels := .none)
          (k := .present) (by rw [hinv]; rfl) (by rw [hinv]; exact (pressesOf_latch _).1)
          (deskAfter_uncounted s a (d := d.accepted .none [.present]) hlong _)
        have seated := presentPress_seats (u := s.deskAfter a idle) (n := n) (f := setFeedback a ⟨.red, .fast⟩ 5)
          hr hs held hocc hk hxs adm
        refine ⟨_, .write { x.cand with state := .seated, walk := none } x.clock false, pressed.trans (congrArg Host.Outcome.next seated), ?_, fun m hm => ?_, ?_, rfl, rfl, fun j hj => ?_,
          desk?_deskAfter s a idle, rfl, rfl, rfl, rfl, rfl⟩
        · exact (seat?_withSeat ..).trans (if_pos rfl)
        · exact (seat?_withSeat ..).trans (if_neg hm)
        · exact (slot?_withSlot ..).trans (if_pos rfl)
        · exact (slot?_withSlot ..).trans (if_neg hj)
      · intro ho hres hq hlong hp
        exact (exec_deskReply_first hc hx hz ha).trans
          (congrArg Host.Outcome.next (takeReply_quiet_none (u := endExchange s) hd ho hres hq hlong hp))
      · exact (exec_deskReply_first hc hx hz ha).trans
          (congrArg Host.Outcome.next (takeReply_restarted (u := endExchange s) hd ho hq))
    · have one {levels : Buttons} {k : Button} (hl : (replyLevels b).sensed .none = levels)
          (hp : pressesOf .none (replyLatches b) d.levels levels = [k]) (hlong : d.longPress = none) :=
        exec_deskReply_one hc hx hz ha hd ho hq hc' hn hr hs hoc (hinv ▸ hl) (hinv ▸ hp)
          (deskAfter_uncounted s a (d := d.accepted levels [k]) hlong _)
      have then' {t u : State} (h : exec (.deskReply hi lo b q ck) s = .next t) (e : t = u) :
        exec (.deskReply hi lo b q ck) s = .next u := e ▸ h
      refine ⟨fun hlong hb => ?_, fun hlong hb => ?_, fun hlong hb hst => ?_, fun hlong hb => ?_, fun hlong hb => ?_,
        fun c hlong => ?_⟩
      · subst hb
        have pressed := one (k := .finish) rfl (pressesOf_latch _).2.1 hlong
        let asked : Desk := (d.accepted .none [.finish]).pressed .finish
        refine ⟨fun hocc => then' pressed (handPressAt_finish_empty hocc), fun k x hocc hk =>
          ⟨fun hw => then' pressed (handPressAt_finish_opens (u := endExchange s) (d := asked) hocc hw), fun w hw => ?_⟩⟩
        have asks := then' pressed (handPressAt_finish_asks (u := endExchange s) (d := asked) hocc hw)
        have refused {why : Reason} (h : s.finishRefusal x true = some why) :=
          then' asks (deskFinish_refused (u := endExchange s) (d := { asked with window := none }) hk (hoc k x hocc hk) hr h)
        refine ⟨fun h => refused (why := .tooLate) ?_, fun h => refused (why := .wrongState) ?_, fun p h hp =>
          ⟨fun h2 => refused (why := .blackout) ((finishRefusal_running h hp).trans (if_pos h2)), fun h1 h2 => ?_⟩⟩
        · rcases h with h | h <;> rw [State.finishRefusal, h]
        · rcases h with h | h | h <;> rw [State.finishRefusal, h]
        · have accepted : s.finishRefusal x true = none := (finishRefusal_running h hp).trans (if_neg (by omega))
          exact then' asks (deskFinish_accepted (u := s.deskAfter a { asked with window := none }) hk (hoc k x hocc hk) accepted)
      · subst hb
        have pressed := one (k := .call) rfl (pressesOf_latch _).2.2.1 hlong
        let idle : Desk := (d.accepted .none [.call]).pressed .call
        exact ⟨fun hst => then' pressed ((handPressAt_call (u := endExchange s) (d := idle) hst).trans
            (congrArg (fun l => offerCall a n .call (s.deskAfter a { idle with longPress := l })) hlong.symm)),
          fun hst => then' pressed (handPressAt_call_elsewhere hst)⟩
      · subst hb
        have pressed := one (k := .call) rfl (pressesOf_latch _).2.2.2.2 hlong
        exact then' pressed (handPressAt_call (u := endExchange s) hst)
      · subst hb
        have pressed := one (k := .breakKey) rfl (pressesOf_latch _).2.2.2.1 hlong
        exact ⟨fun hst => then' pressed (handPressAt_break hst), fun hst => then' pressed (handPressAt_break_elsewhere hst)⟩
      · subst hb
        have pressed := one (k := .present) rfl (pressesOf_latch _).1 hlong
        let idle : Desk := (d.accepted .none [.present]).pressed .present
        refine ⟨fun k x hst hocc hk => ?_, fun k x hst hocc hk hadm =>
          then' pressed (presentPress_held (u := s.deskAfter a idle) hr hs hst hocc hk hadm), fun hst => ?_⟩
        · have occupied := then' pressed
            (presentPress_occupied (u := s.deskAfter a idle) hr hs hst hocc hk (hoc k x hocc hk))
          exact ⟨fun hcl => then' occupied (if_pos hcl), fun hcl => then' occupied (if_neg hcl)⟩
        · refine then' pressed ((presentPress_unexpected (u := s.deskAfter a idle) hr hs hst).trans ?_)
          have kept (f : List Field) : notify .unexpectedPresent f (s.deskAfter a idle) =
            (notify .unexpectedPresent f (endExchange s)).withDesk a idle := notify_withDesk _ _ (endExchange s) a idle
          rw [kept, setFeedback, modDesk_withDesk, ← notify_withDesk]
          rfl
      · have counted {levels : Buttons} (hl : (replyLevels b).sensed .none = levels)
            (hp : pressesOf .none (replyLatches b) d.levels levels = []) :=
          exec_deskReply_none hc hx hz ha hd ho hq (hinv ▸ hl) (hinv ▸ hp)
        have down (l : Buttons) (ps : List Button) := countLongPress_down (u := s.deskAfter a (d.accepted l ps)) (c := c)
          (desk?_deskAfter ..) hn hlong
        have up (l : Buttons) (ps : List Button) := countLongPress_up (u := s.deskAfter a (d.accepted l ps)) (c := c)
          (desk?_deskAfter ..) hn hlong
        simp only [deskAfter_withDesk] at down up
        refine ⟨fun hb hcall => ?_, fun hb => ?_, fun hb hst h3 => ?_, fun hb hst h4 => ?_⟩
        · subst hb
          have kept := then' (counted rfl ((pressesOf_no_latch _).2 hcall)) (down _ _)
          exact ⟨fun h => then' kept (if_pos h), fun h => then' kept (by rw [if_neg (by omega), if_pos h]; rfl),
            fun h => then' kept (by rw [if_neg (by omega), if_neg (by omega)]; rfl)⟩
        · subst hb
          have freed := then' (counted rfl (pressesOf_no_latch _).1) (up _ _)
          exact ⟨fun h => then' freed (if_pos h), fun h => then' freed (if_neg (by omega))⟩
        · subst hb
          have pressed {e : Desk} := exec_deskReply_one (levels := ⟨false, false, true, false⟩) (k := .call) (e := e)
            hc hx hz ha hd ho hq hc' hn hr hs hoc (hinv ▸ rfl) (hinv ▸ (pressesOf_latch _).2.2.2.2)
          by_cases h : c < 3
          · exact then' (pressed ((down ..).trans (if_pos h))) (handPressAt_call (u := endExchange s) hst)
          · exact then' (pressed ((down ..).trans (by rw [if_neg h, if_neg h3]))) (handPressAt_call (u := endExchange s) hst)
        · subst hb
          have pressed := exec_deskReply_one (levels := .none) (k := .call)
            hc hx hz ha hd ho hq hc' hn hr hs hoc (by rw [hinv]; rfl) (by rw [hinv]; exact (pressesOf_latch _).2.2.1)
            ((up ..).trans (if_neg (by omega)))
          exact then' pressed (handPressAt_call (u := endExchange s) hst)
  · intro s a n why
    refine ⟨fun h => ⟨fun hw => ?_, fun hw => ?_⟩, fun h => ⟨fun hroom => ?_, fun d hfull hd => ?_⟩⟩
    · rw [offerCall_listed h, if_pos hw]
    · rw [offerCall_listed h, if_neg hw]
    · rw [offerCall_unlisted h, if_pos hroom]
    · rw [offerCall_unlisted h, if_neg (Nat.not_lt.mpr hfull), setFeedback, modDesk_eq_withDesk hd]
  · exact fun i l p v k => ⟨mem_pressesOf, List.filter_sublist, Buttons.get_sensed ..⟩
  · intro s hi lo b q ck a d hc hx hd hz ha hq
    refine ⟨fun ho => exec_deskReply_online hc hx hz ha hd ho hq, fun ho hres => ?_⟩
    exact (exec_deskReply_first hc hx hz ha).trans
      (congrArg Host.Outcome.next (takeReply_quiet (u := endExchange s) hd ho hres hq))
  · intro u a n d level hd hn
    refine ⟨fun h => countLongPress_none hd h level, fun c h => ⟨fun hl => ?_, fun hl => ?_⟩⟩
    · rw [hl, countLongPress_down hd hn h]
      exact ⟨fun h3 => if_pos h3, fun h3 => by rw [if_neg (by omega), if_pos h3], fun h3 => by rw [if_neg (by omega), if_neg (by omega)]⟩
    · rw [hl, countLongPress_up hd hn h]
      exact ⟨fun h4 => if_pos h4, fun h4 => if_neg (by omega)⟩
  · intro u a n levels k d r hc hd hn hr
    refine ⟨fun h => handPress_ignored hc hd hn hr h, fun hs hoc hk hst => ?_⟩
    subst hk
    rw [handPress_at hc hd hn hr hs hoc, handPressAt_call hst]
    exact ⟨fun hl => if_pos hl, fun hl => if_neg (by simp [hl])⟩

end Sys2Proof.Machine

/-! PROOFS. Crystal ticks and the hall second (O20). -/

namespace Sys2Proof.Machine

set_option Elab.async false

variable {s t : State}

/-! ### Ticks (R60, R67, R68) -/

theorem exec_crystalTick (h : s.calm = true) (u : List Upset) :
    exec (.crystalTick u) s = .next { s with htb := s.htb.tick, upsets := s.upsets ++ u } :=
  congrArg Host.Outcome.next (settled_calm h _)

theorem Htb.tick_idle {x : Htb} (h : x.cal = .idle) : x.tick = { x with phase := x.phase + 16 } := by
  cases x
  cases h
  rfl

theorem Htb.tick_armed {x : Htb} (h : x.cal = .armed) :
    x.tick = { x with phase := x.phase + 16, window := x.window + 1 } := by
  cases x
  cases h
  rfl

theorem Htb.tick_counting {x : Htb} (h : x.cal = .counting) :
    x.tick = { x with phase := x.phase + 16, window := x.window + 1, ticks := x.ticks + 1 } := by
  cases x
  cases h
  rfl

theorem Htb.second_time {h : Htb} (ht : h.time < 86400) : h.second.time = (h.time + 1) % 86400 := by
  show (if h.time + 1 < 86400 then h.time + 1 else 0) = (h.time + 1) % 86400
  split_ifs <;> omega

/-! ### What the second's reads leave (R177) -/

/-- What no read of a record changes. -/
def State.unread (s : State) := (s.htb, s.hmu.zones, s.hmu.rows, s.sli.replies, s.dbc, s.sal, s.pending, s.ssu)

theorem takeFault_unread (f : FaultSource) (g : FaultRecord) (i : Option Nat) (k : FaultKind) (s : State) :
    (takeFault f g i k s).unread = s.unread := by
  have notified (r : FaultReport) (s : State) : (notifyFault r s).sli.replies = s.sli.replies := by
    unfold notifyFault notify joinQueue
    split_ifs <;> rfl
  have link : (takeFault f g i k s).sli.replies = s.sli.replies := by
    unfold takeFault
    dsimp only
    split_ifs <;> simp [notified]
  simp [State.unread, link]

theorem readRecord_unread (r : RecordRef) (s : State) : (readRecord r s).unread = s.unread :=
  readRecord_keeps State.unread (fun s a b i c => takeFault_unread a b i c s) (fun s => by cases r <;> rfl) (fun _ _ => rfl) s

/-- The reads of a hall second (R177). -/
def secondRead (s : State) : State := readAllSeats (readSlots { s with htb := s.htb.second })

theorem secondRead_unread (s : State) : (secondRead s).unread = ({ s with htb := s.htb.second } : State).unread :=
  (foldl_keeps State.unread (fun s n => readRecord_unread (.seat n) s) _ _).trans
    (foldl_keeps State.unread (fun s k => readRecord_unread (.candidate k) s) _ _)

theorem secondRead_clean (h : s.clean = true) : secondRead s = { s with htb := s.htb.second } := by
  have slots : readSlots { s with htb := s.htb.second } = { s with htb := s.htb.second } := readSlots_clean h
  rw [secondRead, slots]
  exact readAllSeats_clean h

theorem exec_hallSecond_early (h : s.htb.phase < s.htb.trim) : exec .hallSecond s = .next s :=
  congrArg Host.Outcome.next (if_neg (by simpa [State.secondReached] using h))

theorem exec_hallSecond (h : s.htb.trim ≤ s.htb.phase) : exec .hallSecond s =
    .next { countSecond (secondRead s) with
      due := (secondRead s).due ++ dueAfter (secondRead s) (countSecond (secondRead s)) } :=
  congrArg Host.Outcome.next (if_pos (by simpa [State.secondReached] using h))

/-! ### What a second counts (R33, R84, R85, R115, R125) -/

/-- A paper's counters at a hall second, as R85 lists them. -/
theorem Paper.second_eq (held : Bool) (r : Paper) : r.second held = if held then r else { r with
    readingLeft := if r.state = .reading then r.readingLeft - 1 else r.readingLeft
    elapsed := if r.state = .writing ∨ r.state = .overtime then min (r.elapsed + 1) 65535 else r.elapsed } := by
  cases held with
  | true => rfl
  | false => cases h : r.state <;> simp [Paper.second, h, Config.maxElapsed] <;> rw [← h]

theorem Clock.second_eq (k : Clock) : k.second false = { k with
    remaining := if k.state = .running then k.remaining - 1 else k.remaining
    budget := if k.state = .paused then k.budget - 1 else k.budget } := by
  cases h : k.state <;> simp [Clock.second, h] <;> rw [← h]

theorem Candidate.second_eq (c : Candidate) : c.second false =
    { c with walk := if c.state = .admitted then c.walk.map (· - 1) else c.walk } := by
  by_cases h : c.state = .admitted <;> simp [Candidate.second, h]

theorem Clock.second_state (held : Bool) (k : Clock) : (k.second held).state = k.state := by
  cases held with
  | true => rfl
  | false => rw [Clock.second_eq]

/-- What a second leaves of a slot: its states and seat, and all of a suspect one. -/
theorem Slot.second_keeps (held : Bool) (x : Slot) :
    (x.second held).suspect = x.suspect ∧ (x.second held).clock.state = x.clock.state
    ∧ (x.second held).cand.state = x.cand.state ∧ (x.second held).cand.seat = x.cand.seat
    ∧ (x.suspect = true ∨ held = true → (x.second held).clock = x.clock ∧ (x.second held).cand = x.cand)
    ∧ (x.suspect = false → held = false → (x.second held).clock = x.clock.second false
      ∧ (x.second held).cand = x.cand.second false) := by
  cases h : x.suspect with
  | true =>
    have kept : x.second held = x := if_pos h
    rw [kept]
    exact ⟨h, rfl, rfl, rfl, fun _ => ⟨rfl, rfl⟩, nofun⟩
  | false =>
    have counted : x.second held = .write (x.cand.second held) (x.clock.second held) false := if_neg (by simp [h])
    have candidate : (x.cand.second held).state = x.cand.state ∧ (x.cand.second held).seat = x.cand.seat := by
      cases held with
      | true => exact ⟨rfl, rfl⟩
      | false => rw [Candidate.second_eq]; exact ⟨rfl, rfl⟩
    rw [counted]
    refine ⟨rfl, Clock.second_state .., candidate.1, candidate.2, fun hh => ?_, fun _ hh => ?_⟩
    · rw [hh.resolve_left nofun]
      exact ⟨rfl, rfl⟩
    · rw [hh]
      exact ⟨rfl, rfl⟩

theorem Signal.second_eq (g : Signal) : g.second = (match g with
    | .off => .off
    | .hold on => .hold !on
    | .pulse n => .pulse (n - 1)) := by cases g <;> rfl

theorem paper?_countSecond (u : State) (p : Nat) : (countSecond u).paper? p = (u.paper? p).map fun r => r.second u.ssu.held :=
  Table.find_mapAll u.ssu.papers p fun _ r => r.second u.ssu.held

theorem slot?_countSecond (u : State) (k : Nat) : (countSecond u).slot? k = (u.slot? k).map fun x => x.second u.ssu.held :=
  Table.find_mapAll u.rsu.slots k fun _ x => x.second u.ssu.held

theorem desk?_countSecond (u : State) (a : Nat) :
    (countSecond u).desk? a = (u.desk? a).map fun d => d.second u.ssu.held (u.lampPending a) :=
  Table.find_mapAll u.dbc.desks a fun a d => d.second u.ssu.held (u.lampPending a)

theorem collectorOf_counted (held : Bool) (c : Nat)
    (h : t.clu.collectors = s.clu.collectors.mapAll fun _ k => k.second held) :
    t.collectorOf c = (s.collectorOf c).second held := by
  rw [State.collectorOf, h, Table.find_mapAll, State.collectorOf]
  cases s.clu.collectors.find c with
  | some k => rfl
  | none => cases held <;> rfl

/-! ### The steps a second makes due -/

/-- A timer that stands at 1 or 0 runs out at this second. -/
theorem runsOut_eq (o : Option Nat) : runsOut o = (o == some 0 || o == some 1) := by
  rcases o with _ | _ | _ | n <;> simp [runsOut]

theorem slotsWhere_counting {held : Bool} {f g : Slot → Bool} (h : ∀ x, g x = (!held && !x.suspect && f x)) :
    s.slotsWhere g = (s.rsu.slots.filter fun e => !held && !e.2.suspect && f e.2).map Prod.fst := by
  simp only [State.slotsWhere, Table.keysWhere, h]

theorem Slot.walkEnds_eq (held : Bool) (x : Slot) : x.walkEnds held =
    (!held && !x.suspect && (x.cand.state == .admitted && x.cand.walk == some 1)) := by
  rw [Slot.walkEnds]
  cases x.suspect <;> cases held <;> rfl

theorem Slot.breakEnds_eq (held : Bool) (x : Slot) : x.breakEnds held =
    (!held && !x.suspect && (x.clock.state == .paused && x.clock.budget ≤ 1)) := by
  rw [Slot.breakEnds]
  cases x.suspect <;> cases held <;> rfl

theorem Slot.expires_eq (held : Bool) (x : Slot) : x.expires held =
    (!held && !x.suspect && (x.clock.state == .running && x.clock.remaining ≤ 1)) := by
  rw [Slot.expires]
  cases x.suspect <;> cases held <;> rfl

theorem getD_false_eq (o : Option Bool) : o.getD false = (o == some true) := by
  rcases o with _ | _ | _ <;> rfl

theorem warns_eq (s : State) (x : Slot) : s.warns x = (!s.ssu.held && !x.suspect && (x.clock.state == .running &&
    (((s.paper? x.cand.paper).bind fun r => r.warnings[x.clock.warnIndex]?).map fun m =>
      x.clock.remaining - 1 == 60 * m) == some true)) := by
  have warning (r : Paper) (h : x.clock.state = .running) : atWarning r (x.clock.second false) =
      ((r.warnings[x.clock.warnIndex]?.map fun m => x.clock.remaining - 1 == 60 * m) == some true) := by
    rw [atWarning, getD_false_eq, Clock.second_eq, h]
    rfl
  rw [State.warns]
  cases hr : x.clock.state == .running with
  | false => simp
  | true =>
    have running : x.clock.state = .running := by simpa using hr
    cases s.paper? x.cand.paper with
    | none => simp
    | some r => simp [warning r running, Bool.and_comm]

theorem warningsNow_eq (r : Paper) : (!r.warningsNow.isEmpty) =
    (r.state == .writing && r.warnings.any fun m => r.elapsed + 60 * m == 60 * r.duration) := by
  unfold Paper.warningsNow
  cases h : r.state == .writing with
  | false => rfl
  | true =>
    rw [Bool.eq_iff_iff]
    simp

theorem desk_due_eq (held : Bool) (a : Nat) (d : Desk) : deskDue held a d =
    (if (d.window == some 0 || d.window == some 1) = true then [Due.finishWindowExpiry a] else [])
    ++ (if ((d.override.map (·.seconds) == some 0 || d.override.map (·.seconds) == some 1)
      || (d.feedback.map (·.seconds) == some 0 || d.feedback.map (·.seconds) == some 1)
      || !held && (d.warning == some 0 || d.warning == some 1)) = true then [Due.lampItemExpiry a] else []) := by
  simp only [deskDue, Desk.windowEnds, Desk.itemEnds, runsOut_eq]

theorem append_congr {α : Type} {a b c d : List α} (h : a = b) (h' : c = d) : a ++ c = b ++ d := h ▸ h' ▸ rfl

theorem ite_flatMap {α β : Type} (b : Bool) (l : List α) (f : α → List β) :
    (if b = true then [] else l.flatMap f) = l.flatMap fun e => if b = true then [] else f e := by
  cases b <;> simp

theorem ite_map_filter {α β : Type} (b : Bool) (l : List α) {p q : α → Bool} (h : ∀ e, q e = (b && p e)) (g : α → β) :
    (if b = true then (l.filter p).map g else []) = (l.filter q).map g := by
  obtain rfl : q = fun e => b && p e := funext h
  cases b <;> simp

theorem ite_nil_filter {α β : Type} (b : Bool) (l : List α) {p q : α → Bool} (h : ∀ e, q e = (!b && p e)) (g : α → β) :
    (if b = true then [] else (l.filter p).map g) = (l.filter q).map g := by
  obtain rfl : q = fun e => !b && p e := funext h
  cases b <;> simp

/-- Settles O20: `countSecond` counts each table by one function, and `dueAfter` lists segment by segment what it makes due. -/
theorem tickAndHallSecond : Obligations.TickAndHallSecond := by
  refine ⟨fun s u hc => ?_, fun s => ⟨fun h => exec_hallSecond_early h, fun h ht => ?_⟩, fun s t hc h hx => ?_⟩
  · rw [exec_crystalTick hc]
    refine ⟨fun h => ?_, fun h => ?_, fun h => ?_, fun t ht => ?_⟩
    · rw [Htb.tick_idle h]
    · rw [Htb.tick_armed h]
    · rw [Htb.tick_counting h]
    · cases ht
      simp [State.secondReached, Htb.tick_phase, Htb.tick_trim]
  · have kept := secondRead_unread s
    simp only [State.unread, Prod.mk.injEq] at kept
    obtain ⟨htb, zones, rows, replies, dbc, sal, pending, ssu⟩ := kept
    have calls : (secondRead s).dbc.calls = s.dbc.calls := congrArg Dbc.calls dbc
    have held : (secondRead s).ssu.held = s.ssu.held := congrArg Ssu.held ssu
    refine ⟨_, exec_hallSecond h, ?_, zones, rows, replies, calls, sal, pending, held, fun p => ?_⟩
    · refine htb.trans ?_
      rw [← Htb.second_time ht]
      rfl
    · have counted : (countSecond (secondRead s)).paper? p = (s.paper? p).map fun r => r.second (secondRead s).ssu.held := by
        refine (paper?_countSecond ..).trans ?_
        rw [State.paper?, ssu]
        rfl
      refine (congrArg _ counted).trans ?_
      cases s.paper? p with
      | none => rfl
      | some r =>
        simp only [Option.map_some, Paper.second_eq]
        split_ifs <;> rfl
  · rw [exec_hallSecond h, secondRead_clean hc] at hx
    cases hx
    refine ⟨?_, fun k x hk => ?_, fun p r hp => ?_, fun c => ?_, Signal.second_eq _, fun a => ?_, rfl, rfl, rfl, rfl, rfl, rfl⟩
    · let u : State := { s with htb := s.htb.second }
      let counted (r : Paper) : Paper := if s.ssu.held then r else { r with
        readingLeft := if r.state = .reading then r.readingLeft - 1 else r.readingLeft
        elapsed := if r.state = .writing ∨ r.state = .overtime then min (r.elapsed + 1) 65535 else r.elapsed }
      have each : counted = Paper.second s.ssu.held := funext fun r => (Paper.second_eq ..).symm
      have papers : (countSecond u).ssu.papers = s.ssu.papers.map fun e => (e.1, counted e.2) := by
        rw [each]
        rfl
      change s.due ++ dueAfter u (countSecond u) = _
      unfold dueAfter
      dsimp only
      rw [slotsWhere_counting (Slot.walkEnds_eq _), slotsWhere_counting (Slot.breakEnds_eq _),
        slotsWhere_counting (Slot.expires_eq _), slotsWhere_counting (warns_eq u), startsDue_eq, papers]
      simp only [← List.append_assoc]
      refine append_congr (append_congr (append_congr (append_congr (append_congr (append_congr (append_congr (append_congr
        (append_congr rfl ?rounds) ?desks) ?pulse) rfl) ?expiry) ?papers) rfl) ?warnings) ?starts
      case rounds =>
        rw [Table.keysWhere, List.map_map]
        refine congrArg (List.map _) (congrArg (s.clu.collectors.filter ·) (funext fun e => ?_))
        rw [runsOut_eq, Bool.and_comm (e.2.state == .round)]
      case desks => exact congrArg (fun f => s.dbc.desks.flatMap f) (funext fun e => desk_due_eq ..)
      case pulse => rcases s.ssu.signal with _ | _ | _ | _ | n <;> simp
      case expiry =>
        refine (ite_not _ _ _).symm.trans (if_congr ?_ rfl rfl)
        rw [Bool.not_eq_true', Bool.not_eq_true]
      case papers => exact ite_flatMap ..
      case warnings =>
        rw [Table.keysWhere, List.map_map]
        exact ite_nil_filter _ _ (fun e => by rw [warningsNow_eq, Bool.and_assoc]) _
      case starts =>
        rw [List.map_map]
        refine ite_map_filter _ _ (fun e => ?_) _
        rw [Bool.and_assoc]
        cases e.2.scheduled <;> rfl
    · obtain ⟨suspect, clock, cand, seat, kept, counted⟩ := x.second_keeps s.ssu.held
      refine ⟨x.second s.ssu.held, ?_, suspect, clock, cand, seat, kept, fun hx hh => ?_⟩
      · exact (slot?_countSecond { s with htb := s.htb.second } k).trans (congrArg _ hk)
      · obtain ⟨clock, cand⟩ := counted hx hh
        exact ⟨clock.trans (Clock.second_eq _), cand.trans (Candidate.second_eq _)⟩
    · refine (paper?_countSecond { s with htb := s.htb.second } p).trans ?_
      rw [show ({ s with htb := s.htb.second } : State).paper? p = some r from hp]
      exact congrArg some (Paper.second_eq ..)
    · have counted := collectorOf_counted (s := s) (t := countSecond s) s.ssu.held c rfl
      refine (congrArg Collector.timer counted).trans ?_
      rw [Collector.second]
      cases s.ssu.held <;> by_cases hr : (s.collectorOf c).state = .round <;> simp [hr]
    · exact desk?_countSecond { s with htb := s.htb.second } a
end Sys2Proof.Machine

/-! PROOFS. The search, the fill order and the neighbours of a seat (O14). -/

namespace Sys2Proof.Machine

set_option Elab.async false

variable {s : State} {z paper : Nat} {cls : CandidateClass} {rest : List Nat}

/-! ### The next place (R46, R47) -/

/-- How many turns `nextPlace` takes at most before it comes to a place or to the end. -/
def Search.turns (q : Search) : Nat :=
  if q.entered then 5 * q.zones.length - 3 + (if q.second then 0 else 2) + (if q.wrapped then 0 else 1)
  else 5 * q.zones.length + 1

/-- More fuel than the turns changes nothing. -/
theorem nextPlace_succ (f : Nat) (q : Search) (h : q.turns ≤ f) :
    nextPlace s paper cls (f + 1) q = nextPlace s paper cls f q := by
  induction f generalizing q with
  | zero =>
    obtain ⟨zones, entered, second, start, next, wrapped⟩ := q
    cases zones with
    | nil => rfl
    | cons z rest =>
      exfalso
      unfold Search.turns at h
      simp only [List.length_cons] at h
      split_ifs at h <;> omega
  | succ f ih =>
    obtain ⟨zones, entered, second, start, next, wrapped⟩ := q
    cases zones with
    | nil => rfl
    | cons z rest =>
      unfold Search.turns at ih h
      unfold nextPlace
      dsimp only
      cases entered with
      | false =>
        simp only [Bool.not_false, if_true, Bool.false_eq_true, if_false, List.length_cons] at h ⊢
        split
        · exact ih _ (by simp only [Bool.false_eq_true, if_false]; omega)
        · exact ih _ (by simp only [passStart, if_true, Bool.false_eq_true, if_false, List.length_cons]; omega)
      | true =>
        simp only [Bool.not_true, if_true, Bool.false_eq_true, if_false, List.length_cons] at h ⊢
        cases wrapped with
        | false =>
          simp only [Bool.not_false, Bool.true_and, if_true]
          split
          · rfl
          · exact ih _ (by simp only [if_true, List.length_cons]; simp only [Bool.false_eq_true, if_false] at h; omega)
        | true =>
          simp only [Bool.not_true, Bool.false_and, Bool.false_eq_true, if_false]
          split
          · rfl
          · cases second with
            | false =>
              simp only [Bool.not_false, if_true]
              refine ih _ ?_
              simp only [passStart, if_true, Bool.false_eq_true, if_false, List.length_cons]
              simp only [if_true, Bool.false_eq_true, if_false] at h
              omega
            | true =>
              simp only [Bool.not_true, Bool.false_eq_true, if_false]
              exact ih _ (by simp only [Bool.false_eq_true, if_false]; simp only [if_true] at h; omega)

/-- The place the search considers next, with the fuel `searchOn` gives. -/
def State.nextOf (s : State) (paper : Nat) (cls : CandidateClass) (q : Search) : Option (Nat × Nat × Search) :=
  nextPlace s paper cls (5 * q.zones.length + 5) q

theorem nextPlace_enough {q : Search} {f : Nat} (h : q.turns ≤ f) : nextPlace s paper cls f q = nextPlace s paper cls q.turns q := by
  induction f, h using Nat.le_induction with
  | base => rfl
  | succ f hf ih => exact (nextPlace_succ f q hf).trans ih

theorem Search.turns_le (q : Search) : q.turns ≤ 5 * q.zones.length + 3 := by
  unfold Search.turns
  split_ifs <;> omega

theorem nextOf_eq {q : Search} {f : Nat} (hf : 5 * q.zones.length + 3 ≤ f) : nextPlace s paper cls f q = s.nextOf paper cls q :=
  (nextPlace_enough (Nat.le_trans q.turns_le hf)).trans (nextPlace_enough (Nat.le_trans q.turns_le (by omega))).symm

theorem nextOf_nil (a b c d e) : s.nextOf paper cls ⟨[], a, b, c, d, e⟩ = none := rfl

section
variable {entered second wrapped : Bool} {start next : Nat}

/-- One turn at a zone, with one less fuel for what follows. -/
theorem nextOf_turn (z : Nat) (rest : List Nat) : s.nextOf paper cls ⟨z :: rest, entered, second, start, next, wrapped⟩ =
    nextPlace s paper cls (5 * rest.length + 9 + 1) ⟨z :: rest, entered, second, start, next, wrapped⟩ := by
  rw [State.nextOf, List.length_cons, show 5 * (rest.length + 1) + 5 = 5 * rest.length + 9 + 1 by omega]

theorem nextOf_skip (h : s.zoneSkipped z cls = true) :
    s.nextOf paper cls ⟨z :: rest, false, second, start, next, wrapped⟩ =
      s.nextOf paper cls ⟨rest, false, second, start, next, wrapped⟩ := by
  rw [nextOf_turn, nextPlace]
  simp only [h, Bool.not_false, if_true]
  exact nextOf_eq (by simp only; omega)

theorem nextOf_enter (h : s.zoneSkipped z cls = false) :
    s.nextOf paper cls ⟨z :: rest, false, second, start, next, wrapped⟩ =
      s.nextOf paper cls (passStart z rest false (s.cursorOf paper z) (s.seatCount z)) := by
  rw [nextOf_turn, nextPlace]
  simp only [h, Bool.not_false, if_true, Bool.false_eq_true, if_false]
  exact nextOf_eq (by simp only [passStart, List.length_cons]; omega)

theorem nextOf_place (h : next < s.seatCount z) : s.nextOf paper cls ⟨z :: rest, true, second, start, next, false⟩ =
    some (z, next, ⟨z :: rest, true, second, start, next + 1, false⟩) := by
  rw [nextOf_turn, nextPlace]
  simp [h]

theorem nextOf_wrap (h : s.seatCount z ≤ next) : s.nextOf paper cls ⟨z :: rest, true, second, start, next, false⟩ =
    s.nextOf paper cls ⟨z :: rest, true, second, start, 0, true⟩ := by
  rw [nextOf_turn, nextPlace]
  simp only [Nat.not_lt.mpr h, Bool.not_true, Bool.not_false, Bool.false_eq_true, if_false, if_true, decide_false, Bool.and_false]
  exact nextOf_eq (by simp only [List.length_cons]; omega)

theorem nextOf_wrapped (h : next < start) (hs : next < s.seatCount z) :
    s.nextOf paper cls ⟨z :: rest, true, second, start, next, true⟩ =
      some (z, next, ⟨z :: rest, true, second, start, next + 1, true⟩) := by
  rw [nextOf_turn, nextPlace]
  simp [h, hs]

theorem nextOf_again (h : start ≤ next ∨ s.seatCount z ≤ next) :
    s.nextOf paper cls ⟨z :: rest, true, false, start, next, true⟩ =
      s.nextOf paper cls (passStart z rest true start (s.seatCount z)) := by
  have past : (next < start && next < s.seatCount z) = false := by simpa [or_iff_not_imp_left] using h
  rw [nextOf_turn, nextPlace]
  simp only [past, Bool.not_true, Bool.not_false, Bool.false_and, Bool.false_eq_true, if_false, if_true]
  exact nextOf_eq (by simp only [passStart, List.length_cons]; omega)

theorem nextOf_leave (h : start ≤ next ∨ s.seatCount z ≤ next) :
    s.nextOf paper cls ⟨z :: rest, true, true, start, next, true⟩ =
      s.nextOf paper cls ⟨rest, false, true, start, next, true⟩ := by
  have past : (next < start && next < s.seatCount z) = false := by simpa [or_iff_not_imp_left] using h
  rw [nextOf_turn, nextPlace]
  simp only [past, Bool.not_true, Bool.false_and, Bool.false_eq_true, if_false]
  exact nextOf_eq (by simp only; omega)

/-- Between two zones only the zones left count. -/
theorem nextOf_between (l : List Nat) (a a' : Bool) (b b' c c' : Nat) (d d' : Bool) :
    s.nextOf paper cls ⟨l, false, a, b, c, d⟩ = s.nextOf paper cls ⟨l, false, a', b', c', d'⟩ := by
  induction l with
  | nil => rfl
  | cons z l ih =>
    cases h : s.zoneSkipped z cls with
    | true => rw [nextOf_skip h, nextOf_skip h, ih]
    | false => rw [nextOf_enter h, nextOf_enter h]

/-- A pass that has come to its end: it has wrapped and stands at its start, or at the zone's end with nothing before
its start. -/
theorem nextOf_passEnd {second : Bool} (h : (wrapped = true ∧ (start ≤ next ∨ s.seatCount z ≤ next))
      ∨ (wrapped = false ∧ s.seatCount z ≤ next ∧ (start = 0 ∨ s.seatCount z = 0))) :
    s.nextOf paper cls ⟨z :: rest, true, second, start, next, wrapped⟩ =
      if second then s.nextOf paper cls ⟨rest, false, true, start, next, wrapped⟩
      else s.nextOf paper cls (passStart z rest true start (s.seatCount z)) := by
  rcases h with ⟨rfl, h⟩ | ⟨rfl, h, h0⟩
  · cases second with
    | true => exact nextOf_leave h
    | false => exact nextOf_again h
  · have past : start ≤ 0 ∨ s.seatCount z ≤ 0 := by omega
    rw [nextOf_wrap h]
    cases second with
    | true => exact (nextOf_leave past).trans (nextOf_between ..)
    | false => exact nextOf_again past

/-- A zone without seats yields no place. -/
theorem nextOf_seatless (h : s.seatCount z = 0) (second : Bool) :
    s.nextOf paper cls (passStart z rest second start 0) = s.nextOf paper cls ⟨rest, false, false, start, next, wrapped⟩ := by
  have begun (b : Bool) (c : Nat) : passStart z rest b c 0 = ⟨z :: rest, true, b, 0, 0, false⟩ := by simp [passStart]
  have ended (b : Bool) : s.nextOf paper cls ⟨z :: rest, true, b, 0, 0, false⟩ =
      if b then s.nextOf paper cls ⟨rest, false, true, 0, 0, false⟩
      else s.nextOf paper cls (passStart z rest true 0 (s.seatCount z)) :=
    nextOf_passEnd (.inr ⟨rfl, h.le, .inl rfl⟩)
  rw [begun]
  cases second with
  | true => exact (ended true).trans (nextOf_between ..)
  | false =>
    refine (ended false).trans ?_
    rw [h, if_neg Bool.false_ne_true, begun]
    exact (ended true).trans (nextOf_between ..)

end

/-! ### One place considered (R47) -/

theorem nextPlace_serve (a : Allocation) (f : Nat) (q : Search) :
    nextPlace (serve a s) paper cls f q = nextPlace s paper cls f q := by
  induction f generalizing q with
  | zero => rfl
  | succ f ih =>
    unfold nextPlace
    cases q.zones with
    | nil => rfl
    | cons z rest =>
      dsimp only
      simp only [ih]
      rfl

theorem online_iff (a : Nat) : s.online a = true ↔ ∃ d, s.desk? a = some d ∧ d.state = .online := by
  simp [State.online]

/-- A seat that fits the candidate in a pass. -/
def State.fits (s : State) (paper : Nat) (cls : CandidateClass) (r : Seat) (n : Nat) (second : Bool) : Prop :=
  r.state = .free ∧ (∃ a, r.desk = some a ∧ s.online a = true) ∧ r.suspect = false ∧ r.used = second
    ∧ (cls = .arranged ∨ r.cls = .standard ∨ r.cls = .nearExit) ∧ s.spacingHolds paper n = true

theorem CandidateClass.accepts_iff (c : CandidateClass) (d : SeatClass) :
    c.accepts d = true ↔ c = .arranged ∨ d = .standard ∨ d = .nearExit := by
  cases c <;> cases d <;> decide

theorem deskWithholds_iff (r : Seat) : s.deskWithholds r = false ↔ ∃ a, r.desk = some a ∧ s.online a = true := by
  unfold State.deskWithholds
  cases r.desk <;> simp

theorem qualifies_iff {n : Nat} {r : Seat} (h : s.seat? n = some r) (second : Bool) :
    s.qualifies n paper cls second = true ↔ s.fits paper cls r n second := by
  have desk : (!s.deskWithholds r) = true ↔ ∃ a, r.desk = some a ∧ s.online a = true := by
    rw [Bool.not_eq_true', deskWithholds_iff]
  rw [State.qualifies, h]
  simp only [Bool.and_eq_true, beq_iff_eq, desk, Bool.not_eq_true', CandidateClass.accepts_iff, State.fits]
  tauto

/-- What the search makes of the place it considers next. -/
def searched (a : Allocation) (s : State) : Option (Nat × Nat × Search) → State
  | none => serve (a.withStage .noSeat) s
  | some (z, place, on) =>
    ((s.fillOrder z)[place]?).elim (serve (a.withStage (.searching on)) s) fun n =>
      if s.qualifies n a.paper a.cls on.second then serve (a.withStage (.found n z place on)) s
      else serve (a.withStage (.searching on)) s

section
variable {a : Allocation} {q p on : Search} {place n : Nat} {r : Seat} (hc : s.clean = true)
include hc

theorem searchOn_eq : searchOn a q (serve a s) = searched a s (s.nextOf a.paper a.cls q) := by
  have around (n : Nat) : readAround n (serve a s) = serve a s := readAround_clean (s := serve a s) hc n
  rw [searchOn, nextPlace_serve, ← State.nextOf]
  rcases s.nextOf a.paper a.cls q with _ | ⟨z, place, on⟩
  · rfl
  · dsimp only [searched]
    rw [show (serve a s).fillOrder z = s.fillOrder z from rfl]
    cases (s.fillOrder z)[place]? with
    | none => rfl
    | some n =>
      dsimp only
      rw [around]
      rfl

variable (hq : s.calm = true) {rq : Requester} {k : Nat} {order : List Nat}
include hq

theorem exec_searchSeat : exec .searchSeat (serve ⟨rq, k, paper, cls, order, .searching q⟩ s) =
    .next (searched ⟨rq, k, paper, cls, order, .noSeat⟩ s (s.nextOf paper cls q)) :=
  (congrArg Host.Outcome.next (settled_calm (s := serve _ s) hq searchStep)).trans
    (congrArg Host.Outcome.next (searchOn_eq (a := ⟨rq, k, paper, cls, order, .searching q⟩) hc))

theorem exec_searchSeat_considers (h : s.nextOf paper cls q = some (z, place, on)) (hn : (s.fillOrder z)[place]? = some n)
    (hr : s.seat? n = some r) :
    (s.fits paper cls r n on.second → exec .searchSeat (serve ⟨rq, k, paper, cls, order, .searching q⟩ s) =
      .next (serve ⟨rq, k, paper, cls, order, .found n z place on⟩ s))
    ∧ (¬s.fits paper cls r n on.second → exec .searchSeat (serve ⟨rq, k, paper, cls, order, .searching q⟩ s) =
      .next (serve ⟨rq, k, paper, cls, order, .searching on⟩ s)) := by
  rw [exec_searchSeat hc hq, h, searched, hn, ← qualifies_iff hr]
  exact ⟨fun h => congrArg Host.Outcome.next (if_pos h), fun h => congrArg Host.Outcome.next (if_neg h)⟩

theorem exec_searchSeat_congr (h : s.nextOf paper cls q = s.nextOf paper cls p) :
    exec .searchSeat (serve ⟨rq, k, paper, cls, order, .searching q⟩ s) =
      exec .searchSeat (serve ⟨rq, k, paper, cls, order, .searching p⟩ s) := by
  rw [exec_searchSeat hc hq, exec_searchSeat hc hq, h]
end

/-! ### Rows and places (R4, R45) -/

theorem mem_places {r : Row} {n z w p : Nat} : (n, z, w, p) ∈ r.places ↔
    z = r.zone ∧ w = r.number ∧ 1 ≤ p ∧ p ≤ r.count ∧ n = r.first + (p - 1) := by
  simp only [Row.places, List.mem_map, List.mem_range, Prod.mk.injEq]
  constructor
  · rintro ⟨i, hi, rfl, rfl, rfl, rfl⟩
    exact ⟨rfl, rfl, by omega, by omega, by omega⟩
  · rintro ⟨rfl, rfl, h1, h2, rfl⟩
    exact ⟨p - 1, by omega, rfl, rfl, rfl, by omega⟩

theorem mem_rowOrder {c p : Nat} : p ∈ rowOrder c ↔ 1 ≤ p ∧ p ≤ c := by
  have place : p ∈ (List.range c).map (· + 1) ↔ 1 ≤ p ∧ p ≤ c := by
    simp only [List.mem_map, List.mem_range]
    exact ⟨fun ⟨i, hi, e⟩ => by omega, fun h => ⟨p - 1, by omega, by omega⟩⟩
  simp only [rowOrder, List.mem_append, List.mem_filter, place, beq_iff_eq]
  omega

theorem length_rowOrder (c : Nat) : (rowOrder c).length = c := by
  have split (l : List Nat) : (l.filter (· % 2 == 1)).length + (l.filter (· % 2 == 0)).length = l.length := by
    induction l with
    | nil => rfl
    | cons a l ih =>
      rcases Nat.mod_two_eq_zero_or_one a with h | h <;> simp [h] <;> omega
  simp only [rowOrder, List.length_append, split, List.length_map, List.length_range]

/-- In a row the odd positions come first, and then the even ones, each kind ascending. -/
theorem rowOrder_pairwise (c : Nat) : (rowOrder c).Pairwise fun p q => q % 2 < p % 2 ∨ (p % 2 = q % 2 ∧ p < q) := by
  have rising : ((List.range c).map (· + 1)).Pairwise (· < ·) :=
    List.pairwise_map.mpr (List.pairwise_lt_range.imp fun h => by omega)
  refine List.pairwise_append.mpr ⟨?_, ?_, fun p hp q hq => ?_⟩
  · refine List.Pairwise.imp_of_mem ?_ (rising.filter _)
    intro p q hp hq h
    have hp := (List.mem_filter.mp hp).2
    have hq := (List.mem_filter.mp hq).2
    simp only [beq_iff_eq] at hp hq
    omega
  · refine List.Pairwise.imp_of_mem ?_ (rising.filter _)
    intro p q hp hq h
    have hp := (List.mem_filter.mp hp).2
    have hq := (List.mem_filter.mp hq).2
    simp only [beq_iff_eq] at hp hq
    omega
  · have hp := (List.mem_filter.mp hp).2
    have hq := (List.mem_filter.mp hq).2
    simp only [beq_iff_eq] at hp hq
    omega

theorem length_fillOrder (s : State) (z : Nat) : (s.fillOrder z).length = s.seatCount z := by
  simp only [State.fillOrder, State.seatCount, sumOf_eq_sum, List.length_flatMap, List.length_map, length_rowOrder]

theorem mem_fillOrder {n : Nat} : n ∈ s.fillOrder z ↔
    ∃ r ∈ s.hmu.rows, r.zone = z ∧ ∃ p, 1 ≤ p ∧ p ≤ r.count ∧ n = r.first + (p - 1) := by
  simp only [State.fillOrder, State.rowsOf, List.mem_flatMap, List.mem_filter, List.mem_map, mem_rowOrder, beq_iff_eq]
  constructor
  · rintro ⟨r, ⟨hr, hz⟩, p, ⟨h1, h2⟩, rfl⟩
    exact ⟨r, hr, hz, p, h1, h2, rfl⟩
  · rintro ⟨r, hr, hz, p, h1, h2, rfl⟩
    exact ⟨r, ⟨hr, hz⟩, p, ⟨h1, h2⟩, rfl⟩

section
variable (h : s.rowsLawful = true)
include h

theorem rowsLawful_seats : s.hmu.seats.sorted = true ∧
    s.hmu.seats.map (fun e => (e.1, e.2.zone, e.2.row, e.2.position)) = s.hmu.rows.flatMap Row.places := by
  simp only [State.rowsLawful, Bool.and_eq_true, beq_iff_eq] at h
  obtain ⟨⟨⟨⟨sorted, places⟩, _⟩, _⟩, _⟩ := h
  exact ⟨((State.tablesSorted_iff s).mp sorted).2.1, places⟩

theorem rowsLawful_numbers {r : Row} (hr : r ∈ s.hmu.rows) :
    (s.rowsOf r.zone).map (·.number) = (List.range (s.rowsOf r.zone).length).map (· + 1) := by
  simp only [State.rowsLawful, Bool.and_eq_true, List.all_eq_true, beq_iff_eq] at h
  obtain ⟨⟨_, numbers⟩, _⟩ := h
  exact numbers r hr

theorem seat_of_place {r : Row} {p : Nat} (hr : r ∈ s.hmu.rows) (h1 : 1 ≤ p) (h2 : p ≤ r.count) :
    ∃ t, s.seat? (r.first + (p - 1)) = some t ∧ t.zone = r.zone ∧ t.row = r.number ∧ t.position = p := by
  obtain ⟨sorted, places⟩ := rowsLawful_seats h
  have place : (r.first + (p - 1), r.zone, r.number, p) ∈ s.hmu.rows.flatMap Row.places :=
    List.mem_flatMap.mpr ⟨r, hr, mem_places.mpr ⟨rfl, rfl, h1, h2, rfl⟩⟩
  rw [← places] at place
  obtain ⟨⟨n, t⟩, ht, e⟩ := List.mem_map.mp place
  simp only [Prod.mk.injEq] at e
  obtain ⟨hn, hz, hw, hp⟩ := e
  exact ⟨t, hn ▸ (Table.mem_iff_find sorted n t).mp ht, hz, hw, hp⟩

theorem place_of_seat {n : Nat} {t : Seat} (hn : s.seat? n = some t) : ∃ r ∈ s.hmu.rows,
    t.zone = r.zone ∧ t.row = r.number ∧ 1 ≤ t.position ∧ t.position ≤ r.count ∧ n = r.first + (t.position - 1) := by
  obtain ⟨sorted, places⟩ := rowsLawful_seats h
  have place : (n, t.zone, t.row, t.position) ∈ s.hmu.seats.map fun e => (e.1, e.2.zone, e.2.row, e.2.position) :=
    List.mem_map.mpr ⟨(n, t), (Table.mem_iff_find sorted n t).mpr hn, rfl⟩
  rw [places] at place
  obtain ⟨r, hr, hp⟩ := List.mem_flatMap.mp place
  exact ⟨r, hr, mem_places.mp hp⟩

/-- The rows of a zone stand in the order of their numbers. -/
theorem rowsOf_pairwise (z : Nat) : (s.rowsOf z).Pairwise fun r u => r.number < u.number := by
  cases hz : s.rowsOf z with
  | nil => exact List.Pairwise.nil
  | cons r l =>
    have hr : r ∈ s.rowsOf z := hz ▸ List.mem_cons_self
    simp only [State.rowsOf, List.mem_filter, beq_iff_eq] at hr
    have numbers := rowsLawful_numbers h hr.1
    rw [hr.2] at numbers
    rw [← hz]
    refine (List.pairwise_map (f := fun r : Row => r.number) (R := (· < ·))).mp ?_
    rw [numbers]
    exact List.pairwise_map.mpr (List.pairwise_lt_range.imp fun h => by omega)

theorem one_le_number {r : Row} (hr : r ∈ s.hmu.rows) : 1 ≤ r.number := by
  have mem : r.number ∈ (s.rowsOf r.zone).map (·.number) :=
    List.mem_map_of_mem (List.mem_filter.mpr ⟨hr, by simp⟩)
  rw [rowsLawful_numbers h hr] at mem
  obtain ⟨i, _, e⟩ := List.mem_map.mp mem
  omega

theorem seatAt_iff {z w p m : Nat} : s.seatAt z w p = some m ↔
    ∃ u, s.seat? m = some u ∧ u.zone = z ∧ u.row = w ∧ u.position = p := by
  have unique {r u : Row} (hr : r ∈ s.hmu.rows) (hu : u ∈ s.hmu.rows) (hz : r.zone = u.zone) (hn : r.number = u.number) :
      r = u := by
    have hr : r ∈ s.rowsOf u.zone := List.mem_filter.mpr ⟨hr, by simp [hz]⟩
    have hu : u ∈ s.rowsOf u.zone := List.mem_filter.mpr ⟨hu, by simp⟩
    have apart := (rowsOf_pairwise h u.zone).imp fun {a b : Row} (lt : a.number < b.number) => Nat.ne_of_lt lt
    by_contra hne
    have symm : Std.Symm fun a b : Row => a.number ≠ b.number := ⟨fun _ _ => Ne.symm⟩
    exact apart.forall hr hu hne hn
  rw [State.seatAt]
  constructor
  · intro found
    cases hf : s.hmu.rows.find? fun r => r.zone == z && r.number == w with
    | none => rw [hf] at found; cases found
    | some r =>
      rw [hf] at found
      dsimp only at found
      obtain ⟨hz, hw⟩ : r.zone = z ∧ r.number = w := by simpa using List.find?_some hf
      split_ifs at found with inside
      cases found
      obtain ⟨h1, h2⟩ : 1 ≤ p ∧ p ≤ r.count := by simpa using inside
      obtain ⟨u, hu, zone, row, position⟩ := seat_of_place h (List.mem_of_find?_eq_some hf) h1 h2
      exact ⟨u, hu, zone.trans hz, row.trans hw, position⟩
  · rintro ⟨u, hu, rfl, rfl, rfl⟩
    obtain ⟨r, hr, hz, hw, h1, h2, rfl⟩ := place_of_seat h hu
    have found : (s.hmu.rows.find? fun v => v.zone == u.zone && v.number == u.row) = some r := by
      cases hf : s.hmu.rows.find? fun v => v.zone == u.zone && v.number == u.row with
      | none => exact absurd (List.find?_eq_none.mp hf r hr) (by simp [hz, hw])
      | some v =>
        obtain ⟨hvz, hvw⟩ : v.zone = u.zone ∧ v.number = u.row := by simpa using List.find?_some hf
        exact congrArg some (unique (List.mem_of_find?_eq_some hf) hr (hvz.trans hz) (hvw.trans hw))
    rw [found]
    dsimp only
    rw [if_pos (by simp [h1, h2])]
end

/-! ### Neighbours and spacing (R6, R7) -/

theorem mem_neighbours (h : s.rowsLawful = true) {n m : Nat} {t : Seat} {r : Zone} (hn : s.seat? n = some t)
    (hz : s.zone? t.zone = some r) : m ∈ s.neighbours n ↔ ∃ u, s.seat? m = some u ∧ u.zone = t.zone
      ∧ ((r.spacing ≠ .none ∧ u.row = t.row ∧ (u.position + 1 = t.position ∨ t.position + 1 = u.position))
        ∨ (r.spacing = .cross ∧ u.position = t.position ∧ (u.row + 1 = t.row ∨ t.row + 1 = u.row))) := by
  obtain ⟨w, hw, hwz, hwn, h1, _, _⟩ := place_of_seat h hn
  have row := one_le_number h hw
  rw [← hwn] at row
  have side : (s.seatAt t.zone t.row (t.position - 1) = some m ∨ s.seatAt t.zone t.row (t.position + 1) = some m) ↔
      ∃ u, s.seat? m = some u ∧ u.zone = t.zone
        ∧ (u.row = t.row ∧ (u.position + 1 = t.position ∨ t.position + 1 = u.position)) := by
    rw [seatAt_iff h, seatAt_iff h, ← exists_or]
    refine exists_congr fun u => ?_
    rw [← and_or_left, ← and_or_left, ← and_or_left]
    refine and_congr Iff.rfl (and_congr Iff.rfl (and_congr Iff.rfl ?_))
    omega
  have ahead : (s.seatAt t.zone (t.row - 1) t.position = some m ∨ s.seatAt t.zone (t.row + 1) t.position = some m) ↔
      ∃ u, s.seat? m = some u ∧ u.zone = t.zone
        ∧ (u.position = t.position ∧ (u.row + 1 = t.row ∨ t.row + 1 = u.row)) := by
    rw [seatAt_iff h, seatAt_iff h, ← exists_or]
    refine exists_congr fun u => ?_
    rw [← and_or_left, ← and_or_left]
    refine and_congr Iff.rfl (and_congr Iff.rfl ?_)
    omega
  rw [State.neighbours, hn]
  dsimp only
  rw [hz]
  dsimp only
  have mem (l : List (Option Nat)) : m ∈ l.filterMap id ↔ some m ∈ l := by simp [List.mem_filterMap]
  cases hs : r.spacing with
  | none => simp
  | side =>
    dsimp only
    rw [mem, List.mem_pair, eq_comm, @eq_comm _ (some m), side]
    simp
  | cross =>
    dsimp only
    rw [mem, List.mem_append, List.mem_pair, List.mem_pair, eq_comm, @eq_comm _ (some m), side, eq_comm, @eq_comm _ (some m),
      ahead, ← exists_or]
    simp [and_or_left]

theorem spacingHolds_iff {n : Nat} : s.spacingHolds paper n = true ↔ ∀ m t, m ∈ s.neighbours n → s.seat? m = some t →
    ¬((t.state = .held ∨ t.state = .occupied ∨ t.state = .vacated) ∧ t.lastPaper = some paper) := by
  have judged (m : Nat) : (!((s.seat? m).map (·.holds paper)).getD false) = true ↔ ∀ t, s.seat? m = some t →
      ¬((t.state = .held ∨ t.state = .occupied ∨ t.state = .vacated) ∧ t.lastPaper = some paper) := by
    simp only [← SeatState.inUse_iff]
    cases s.seat? m with
    | none => simp
    | some t => cases hu : t.state.inUse <;> simp [Seat.holds, hu]
  simp only [State.spacingHolds, List.all_eq_true, judged]
  exact ⟨fun h m t hm => h m hm t, fun h m hm t => h m t hm⟩

/-- Along the fill order the rows ascend, and in a row the odd positions come before the even ones. -/
theorem fillOrder_pairwise (h : s.rowsLawful = true) (z : Nat) :
    (s.fillOrder z).Pairwise fun m n => ∀ t u, s.seat? m = some t → s.seat? n = some u →
      t.row < u.row ∨ (t.row = u.row ∧ (u.position % 2 < t.position % 2
        ∨ (t.position % 2 = u.position % 2 ∧ t.position < u.position))) := by
  have at_ {r : Row} {p : Nat} {t : Seat} (hr : r ∈ s.rowsOf z) (hp : p ∈ rowOrder r.count)
      (ht : s.seat? (r.first + (p - 1)) = some t) : t.row = r.number ∧ t.position = p := by
    obtain ⟨h1, h2⟩ := mem_rowOrder.mp hp
    obtain ⟨u, hu, _, row, position⟩ := seat_of_place h (List.mem_filter.mp hr).1 h1 h2
    rw [ht] at hu
    cases hu
    exact ⟨row, position⟩
  refine List.pairwise_flatMap.mpr ⟨fun r hr => List.pairwise_map.mpr ?_, ?_⟩
  · refine (rowOrder_pairwise r.count).imp_of_mem fun {p q} hp hq lt t u ht hu => .inr ?_
    obtain ⟨rt, pt⟩ := at_ hr hp ht
    obtain ⟨ru, pu⟩ := at_ hr hq hu
    rw [rt, ru, pt, pu]
    exact ⟨rfl, lt⟩
  · refine (rowsOf_pairwise h z).imp_of_mem fun {r v} hr hv lt m hm n hn t u ht hu => .inl ?_
    obtain ⟨p, hp, rfl⟩ := List.mem_map.mp hm
    obtain ⟨q, hq, rfl⟩ := List.mem_map.mp hn
    rw [(at_ hr hp ht).1, (at_ hv hq hu).1]
    exact lt

theorem mem_fillOrder_iff (h : s.rowsLawful = true) {n : Nat} : n ∈ s.fillOrder z ↔ ∃ t, s.seat? n = some t ∧ t.zone = z := by
  rw [mem_fillOrder]
  constructor
  · rintro ⟨r, hr, rfl, p, h1, h2, rfl⟩
    obtain ⟨t, ht, zone, _⟩ := seat_of_place h hr h1 h2
    exact ⟨t, ht, zone⟩
  · rintro ⟨t, ht, rfl⟩
    obtain ⟨r, hr, zone, _, h1, h2, e⟩ := place_of_seat h ht
    exact ⟨r, hr, zone.symm, t.position, h1, h2, e⟩

theorem zoneSkipped_iff : s.zoneSkipped z cls = true ↔
    s.zone? z = none ∨ ∃ r, s.zone? z = some r ∧ (r.state = .closed ∨ r.code cls ≠ .admits) := by
  unfold State.zoneSkipped
  cases s.zone? z <;> simp

/-- Settles O14: the turns of `nextPlace` one by one, and the fill order's places through the rows. -/
theorem searchConsidersOneSeat : Obligations.SearchConsidersOneSeat := by
  refine ⟨fun s rq k paper cls order hq hc => ?_, fun s h z => ?_, fun s n paper => spacingHolds_iff⟩
  · have considered {q on : Search} {z place : Nat} (h : s.nextOf paper cls q = some (z, place, on)) (n : Nat) (r : Seat)
        (hn : (s.fillOrder z)[place]? = some n) (hr : s.seat? n = some r) :=
      exec_searchSeat_considers hc hq (rq := rq) (k := k) (order := order) h hn hr
    have alike {q p : Search} (h : s.nextOf paper cls q = s.nextOf paper cls p) :=
      exec_searchSeat_congr hc hq (rq := rq) (k := k) (order := order) h
    refine ⟨fun a b c d e => ?_, fun g hg => ?_, fun z rest second wrapped start next => ?_⟩
    · exact exec_searchSeat hc hq
    · refine congrArg Host.Outcome.next ((settled_calm (s := serve ⟨rq, k, paper, cls, order, g⟩ s) hq searchStep).trans ?_)
      cases g with
      | searching q => exact absurd rfl (hg q)
      | _ => rfl
    · refine ⟨fun hz => alike (nextOf_skip (zoneSkipped_iff.mpr hz)), fun r hz ho hcode => ?_, fun h => considered (nextOf_place h),
        fun h h0 hs => considered ((nextOf_wrap h).trans (nextOf_wrapped hs h0)), fun h hs => considered (nextOf_wrapped h hs),
        fun hend => ⟨fun h0 => ?_, fun h0 => ?_, ?_⟩⟩
      · have entered : s.zoneSkipped z cls = false := by
          rw [State.zoneSkipped, hz]
          simp [ho, hcode]
        refine ⟨fun h0 => considered ((nextOf_enter entered).trans (nextOf_place ?_)), fun h0 => alike ?_⟩
        · split_ifs with h
          · exact h
          · exact h0
        · rw [nextOf_enter entered, h0]
          exact (nextOf_seatless (next := next) (wrapped := wrapped) h0 false).trans (nextOf_between ..)
      · refine considered ((nextOf_passEnd hend).trans (nextOf_place ?_))
        split_ifs with h
        · exact h
        · exact h0
      · refine alike ((nextOf_passEnd hend).trans ?_)
        rw [if_neg Bool.false_ne_true, h0]
        exact (nextOf_seatless (next := next) (wrapped := wrapped) h0 true).trans (nextOf_between ..)
      · exact alike ((nextOf_passEnd hend).trans (nextOf_between ..))
  · exact ⟨length_fillOrder s z, fun n => mem_fillOrder_iff h, fillOrder_pairwise h z, fun n m t r hn hz hr => hz ▸
      mem_neighbours h hn (hz ▸ hr)⟩
end Sys2Proof.Machine

/-! PROOFS. The arbiter's choice and PLACE (O15). -/

namespace Sys2Proof.Machine

set_option Elab.async false

variable {s u : State} {q : Requester} {k n number f : Nat} {x : Slot} {p : Paper} {r : Seat} {seat : Option Nat}

/-! ### The choice (R42) -/

theorem exec_arbiterChoice (h : s.calm = true) : exec .arbiterChoice s = .next (chooseRequest s) :=
  congrArg Host.Outcome.next (settled_calm h _)

theorem chooseRequest_serving (h : s.sal.serving.isSome = true) : chooseRequest s = s := if_pos h

theorem chooseRequest_none (h : s.sal.serving = none) (h0 : s.sal.reqDoor0 = none) (h1 : s.sal.reqDoor1 = none)
    (hs : s.sal.reqStation = none) (hr : s.sal.reqRetry = false ∨ s.ssu.held = true) : chooseRequest s = s := by
  have quiet (q : Requester) : s.requests q = false := by
    cases q with
    | retry => rcases hr with hr | hr <;> simp [State.requests, hr]
    | _ => simp [State.requests, h0, h1, hs]
  have none : s.sal.last.after.find? s.requests = none := List.find?_eq_none.mpr fun q _ => by simp [quiet q]
  rw [chooseRequest, h, none]
  rfl

theorem chooseRequest_some (h : s.sal.serving = none) (hq : s.sal.last.after.find? s.requests = some q) :
    chooseRequest s = serveRequester q s := by
  rw [chooseRequest, h, hq]
  rfl

/-! The four orders of the requesters, from the one after the one served last. -/

theorem retry_passed (hr : s.sal.reqRetry = false ∨ s.ssu.held = true) : s.requests .retry = false := by
  rcases hr with hr | hr <;> simp [State.requests, hr]

theorem door0_passed (h : s.sal.reqDoor0 = none) : s.requests .door0 = false := by simp [State.requests, h]

theorem door1_passed (h : s.sal.reqDoor1 = none) : s.requests .door1 = false := by simp [State.requests, h]

theorem station_passed (h : s.sal.reqStation = none) : s.requests .station = false := by simp [State.requests, h]

theorem find_door0 (h : s.sal.reqDoor0 = some k)
    (hl : s.sal.last = .retry
      ∨ (s.sal.last = .station ∧ (s.sal.reqRetry = false ∨ s.ssu.held = true))
      ∨ (s.sal.last = .door1 ∧ s.sal.reqStation = none ∧ (s.sal.reqRetry = false ∨ s.ssu.held = true))
      ∨ (s.sal.last = .door0 ∧ s.sal.reqDoor1 = none ∧ s.sal.reqStation = none
          ∧ (s.sal.reqRetry = false ∨ s.ssu.held = true))) :
    s.sal.last.after.find? s.requests = some .door0 := by
  have asks : s.requests .door0 = true := by simp [State.requests, h]
  rcases hl with hl | ⟨hl, hr⟩ | ⟨hl, hs, hr⟩ | ⟨hl, h1, hs, hr⟩
  · simp [hl, Requester.after, asks]
  · simp [hl, Requester.after, asks, retry_passed hr]
  · simp [hl, Requester.after, asks, retry_passed hr, station_passed hs]
  · simp [hl, Requester.after, asks, retry_passed hr, station_passed hs, door1_passed h1]

theorem find_door1 (h : s.sal.reqDoor1 = some k)
    (hl : s.sal.last = .door0 ∨ (s.sal.last = .retry ∧ s.sal.reqDoor0 = none)
      ∨ (s.sal.last = .station ∧ (s.sal.reqRetry = false ∨ s.ssu.held = true) ∧ s.sal.reqDoor0 = none)
      ∨ (s.sal.last = .door1 ∧ s.sal.reqStation = none ∧ (s.sal.reqRetry = false ∨ s.ssu.held = true)
          ∧ s.sal.reqDoor0 = none)) :
    s.sal.last.after.find? s.requests = some .door1 := by
  have asks : s.requests .door1 = true := by simp [State.requests, h]
  rcases hl with hl | ⟨hl, h0⟩ | ⟨hl, hr, h0⟩ | ⟨hl, hs, hr, h0⟩
  · simp [hl, Requester.after, asks]
  · simp [hl, Requester.after, asks, door0_passed h0]
  · simp [hl, Requester.after, asks, retry_passed hr, door0_passed h0]
  · simp [hl, Requester.after, asks, retry_passed hr, station_passed hs, door0_passed h0]

theorem find_station {a : StationRequest} (h : s.sal.reqStation = some a)
    (hl : s.sal.last = .door1 ∨ (s.sal.last = .door0 ∧ s.sal.reqDoor1 = none)
      ∨ (s.sal.last = .retry ∧ s.sal.reqDoor0 = none ∧ s.sal.reqDoor1 = none)
      ∨ (s.sal.last = .station ∧ (s.sal.reqRetry = false ∨ s.ssu.held = true) ∧ s.sal.reqDoor0 = none
          ∧ s.sal.reqDoor1 = none)) :
    s.sal.last.after.find? s.requests = some .station := by
  have asks : s.requests .station = true := by simp [State.requests, h]
  rcases hl with hl | ⟨hl, h1⟩ | ⟨hl, h0, h1⟩ | ⟨hl, hr, h0, h1⟩
  · simp [hl, Requester.after, asks]
  · simp [hl, Requester.after, asks, door1_passed h1]
  · simp [hl, Requester.after, asks, door0_passed h0, door1_passed h1]
  · simp [hl, Requester.after, asks, retry_passed hr, door0_passed h0, door1_passed h1]

theorem find_retry (h : s.sal.reqRetry = true) (hh : s.ssu.held = false)
    (hl : s.sal.last = .station ∨ (s.sal.last = .door1 ∧ s.sal.reqStation = none)
      ∨ (s.sal.last = .door0 ∧ s.sal.reqDoor1 = none ∧ s.sal.reqStation = none)
      ∨ (s.sal.last = .retry ∧ s.sal.reqDoor0 = none ∧ s.sal.reqDoor1 = none ∧ s.sal.reqStation = none)) :
    s.sal.last.after.find? s.requests = some .retry := by
  have asks : s.requests .retry = true := by simp [State.requests, h, hh]
  rcases hl with hl | ⟨hl, hs⟩ | ⟨hl, h1, hs⟩ | ⟨hl, h0, h1, hs⟩
  · simp [hl, Requester.after, asks]
  · simp [hl, Requester.after, asks, station_passed hs]
  · simp [hl, Requester.after, asks, station_passed hs, door1_passed h1]
  · simp [hl, Requester.after, asks, station_passed hs, door0_passed h0, door1_passed h1]

/-! ### A requester served (R42, R53) -/

/-- The span a choice of the retry requester walks: the wait list where the retry is PENDING. -/
def Sal.spanNow (l : Sal) : List Nat := if l.retry = .pending then l.wait else l.span

/-- Whether a requester asks for a slot's allocation: for the retry, whether its walk's first candidate is the slot. -/
def Sal.asks (l : Sal) (k : Nat) : Requester → Prop
  | .door0 => l.reqDoor0 = some k
  | .door1 => l.reqDoor1 = some k
  | .station => l.reqStation = some (.allocation k)
  | .retry => l.retry ≠ .idle ∧ (l.wait.filter l.spanNow.contains).head? = some k

/-- The allocator as it takes up a requester's slot. -/
def Sal.taking (l : Sal) (k : Nat) : Requester → Sal
  | .door0 => { l with last := .door0, reqDoor0 := none }
  | .door1 => { l with last := .door1, reqDoor1 := none }
  | .station => { l with last := .station, reqStation := none }
  | .retry => { l with last := .retry, reqRetry := false, retry := .walking, span := l.spanNow.filter (· != k) }

def State.takingUp (s : State) (k : Nat) (q : Requester) : State := { s with sal := s.sal.taking k q }

theorem serveRequester_asks (h : s.sal.asks k q) : serveRequester q s = beginAllocation q k (s.takingUp k q) := by
  cases q with
  | door0 =>
    rw [serveRequester]
    dsimp only
    rw [show s.sal.reqDoor0 = some k from h]
    rfl
  | door1 =>
    rw [serveRequester]
    dsimp only
    rw [show s.sal.reqDoor1 = some k from h]
    rfl
  | station =>
    rw [serveRequester]
    dsimp only
    rw [show s.sal.reqStation = some (.allocation k) from h]
    rfl
  | retry =>
    obtain ⟨walks, first⟩ := h
    obtain ⟨l, hl⟩ := List.head?_eq_some_iff.mp first
    show serveRetry { s with sal := { s.sal with last := .retry } } = _
    unfold serveRetry
    dsimp only
    cases hr : s.sal.retry with
    | idle => exact absurd hr walks
    | pending =>
      have span : s.sal.spanNow = s.sal.wait := if_pos hr
      rw [span] at hl
      rw [if_pos (by rfl)]
      dsimp only [Sal.untried]
      rw [hl]
      simp only [State.takingUp, Sal.taking, span]
    | walking =>
      have span : s.sal.spanNow = s.sal.span := if_neg (by rw [hr]; nofun)
      rw [span] at hl
      rw [if_neg (by nofun)]
      dsimp only [Sal.untried]
      rw [hl]
      simp only [State.takingUp, Sal.taking, span]

/-! ### The course of an allocation begins (R43, R44) -/

section
variable (hc : u.clean = true) (hk : u.slot? k = some x)
include hc hk

theorem beginAllocation_suspect (hs : x.suspect = true) : beginAllocation q k u = endSuspect q u := by
  rw [beginAllocation]
  dsimp only
  rw [readSlot_clean hc, hk]
  dsimp only
  rw [if_pos hs]

variable (hs : x.suspect = false) (hp : u.paper? x.cand.paper = some p)
include hs hp

/-- The allocation of a candidate as it begins, at a stage. -/
def freshAllocation (q : Requester) (k : Nat) (x : Slot) (p : Paper) (g : Stage) : Allocation :=
  ⟨q, k, x.cand.paper, x.cand.cls, p.zoneOrder, g⟩

theorem beginAllocation_searches (hn : x.cand.preplaced = none) :
    beginAllocation q k u = serve (freshAllocation q k x p (.searching (.first p.zoneOrder))) u := by
  rw [beginAllocation]
  dsimp only
  rw [readSlot_clean hc, hk]
  dsimp only
  rw [if_neg (by simp [hs]), hn, hp]
  rfl

theorem beginAllocation_preplaced (hn : x.cand.preplaced = some n) (h : u.preplaceFails n x.cand.paper x.cand.cls = none) :
    beginAllocation q k u = serve (freshAllocation q k x p (.preplaced n)) u := by
  rw [beginAllocation]
  dsimp only
  rw [readSlot_clean hc, hk]
  dsimp only
  rw [if_neg (by simp [hs]), hn, hp]
  dsimp only
  rw [readAround_clean hc, h]
  rfl

theorem beginAllocation_missed (hn : x.cand.preplaced = some n) {why : PreplaceReason}
    (h : u.preplaceFails n x.cand.paper x.cand.cls = some why) : beginAllocation q k u =
    let searches := serve (freshAllocation q k x p (.searching (.first p.zoneOrder))) u
    if q = .retry then searches
    else notify .preplaceMissed ([u16 k, u32 x.cand.number, u16 n] ++ u.labelFields (some n) ++ [u8 why.ctorIdx]) searches := by
  have missed (a : Allocation) (ha : a.slot = k) : preplaceMissed a n why (serve a u) = if a.requester = .retry then serve a u
      else notify .preplaceMissed ([u16 k, u32 x.cand.number, u16 n] ++ u.labelFields (some n) ++ [u8 why.ctorIdx])
        (serve a u) := by
    rw [preplaceMissed, ha, show (serve a u).slot? k = some x from hk]
    exact if_congr beq_iff_eq rfl rfl
  rw [beginAllocation]
  dsimp only
  rw [readSlot_clean hc, hk]
  dsimp only
  rw [if_neg (by simp [hs]), hn, hp]
  dsimp only
  rw [readAround_clean hc, h]
  exact missed _ rfl
end

/-! The tests of R44, in their order. -/

theorem preplaceFails_noSeat {paper : Nat} {cls : CandidateClass} (h : s.seat? n = none) :
    s.preplaceFails n paper cls = some .noSeat := by rw [State.preplaceFails, h]

section
variable {paper : Nat} {cls : CandidateClass} {z : Zone} (h : s.seat? n = some r)
include h

theorem preplaceFails_suspect (hs : r.suspect = true) : s.preplaceFails n paper cls = some .suspect := by
  rw [State.preplaceFails, h]
  exact if_pos hs

variable (hs : r.suspect = false)
include hs

theorem preplaceFails_notFree (hf : r.state ≠ .free) : s.preplaceFails n paper cls = some .notFree := by
  simp [State.preplaceFails, h, hs, hf]

variable (hf : r.state = .free)
include hf

theorem preplaceFails_noZone (hz : s.zone? r.zone = none) : s.preplaceFails n paper cls = some .zoneClosed := by
  simp [State.preplaceFails, h, hs, hf, hz]

variable (hz : s.zone? r.zone = some z)
include hz

theorem preplaceFails_closed (ho : z.state = .closed) : s.preplaceFails n paper cls = some .zoneClosed := by
  simp [State.preplaceFails, h, hs, hf, hz, ho]

variable (ho : z.state = .opened)
include ho

theorem preplaceFails_code (hcode : z.code cls = .none) : s.preplaceFails n paper cls = some .zoneCode := by
  simp [State.preplaceFails, h, hs, hf, hz, ho, hcode]

variable (hcode : z.code cls ≠ .none)
include hcode

theorem preplaceFails_spacing (hsp : s.spacingHolds paper n = false) : s.preplaceFails n paper cls = some .spacing := by
  simp [State.preplaceFails, h, hs, hf, hz, ho, hcode, hsp]

theorem preplaceFails_none (hsp : s.spacingHolds paper n = true) : s.preplaceFails n paper cls = none := by
  simp [State.preplaceFails, h, hs, hf, hz, ho, hcode, hsp]
end

section
variable (hq : s.calm = true) (hserv : s.sal.serving = none) (hfind : s.sal.last.after.find? s.requests = some q)
include hq hserv hfind

theorem exec_arbiterChoice_asks (ha : s.sal.asks k q) : exec .arbiterChoice s = .next (beginAllocation q k (s.takingUp k q)) := by
  rw [exec_arbiterChoice hq, chooseRequest_some hserv hfind, serveRequester_asks ha]

variable (ha : s.sal.asks k q) (hc : s.clean = true) (hk : s.slot? k = some x) (hs : x.suspect = false)
  (hp : s.paper? x.cand.paper = some p)
include ha hc hk hs hp

/-- The state in which the requester's allocation is served at a stage. -/
def State.begun (s : State) (q : Requester) (k : Nat) (x : Slot) (p : Paper) (g : Stage) : State :=
  serve (freshAllocation q k x p g) (s.takingUp k q)

theorem exec_arbiterChoice_searches (hn : x.cand.preplaced = none) :
    exec .arbiterChoice s = .next (s.begun q k x p (.searching (.first p.zoneOrder))) := by
  rw [exec_arbiterChoice_asks hq hserv hfind ha]
  exact congrArg Host.Outcome.next (beginAllocation_searches (u := s.takingUp k q) hc hk hs hp hn)

variable (hn : x.cand.preplaced = some n)
include hn

theorem exec_arbiterChoice_missed {why : PreplaceReason} (h : s.preplaceFails n x.cand.paper x.cand.cls = some why) :
    exec .arbiterChoice s = .next (if q = .retry then s.begun q k x p (.searching (.first p.zoneOrder))
      else notify .preplaceMissed ([u16 k, u32 x.cand.number, u16 n] ++ s.labelFields (some n) ++ [u8 why.ctorIdx])
        (s.begun q k x p (.searching (.first p.zoneOrder)))) := by
  rw [exec_arbiterChoice_asks hq hserv hfind ha]
  exact congrArg Host.Outcome.next (beginAllocation_missed (u := s.takingUp k q) hc hk hs hp hn h)

/-- A pre-placed seat is tested by R44's table in order: the first failing test's reason, or the seat is to be held. -/
theorem exec_arbiterChoice_preplaced :
    let missed (why : Nat) : Prop := exec .arbiterChoice s =
      .next (if q = .retry then s.begun q k x p (.searching (.first p.zoneOrder))
        else notify .preplaceMissed ([u16 k, u32 x.cand.number, u16 n] ++ s.labelFields (some n) ++ [u8 why])
          (s.begun q k x p (.searching (.first p.zoneOrder))))
    (s.seat? n = none → missed 0)
    ∧ ∀ r, s.seat? n = some r →
      (r.suspect = true → missed 1)
      ∧ (r.suspect = false → r.state ≠ .free → missed 2)
      ∧ (r.suspect = false → r.state = .free →
        (s.zone? r.zone = none → missed 3)
        ∧ ∀ z, s.zone? r.zone = some z →
          (z.state = .closed → missed 3)
          ∧ (z.state = .opened → z.code x.cand.cls = .none → missed 4)
          ∧ (z.state = .opened → z.code x.cand.cls ≠ .none → s.spacingHolds x.cand.paper n = false → missed 5)
          ∧ (z.state = .opened → z.code x.cand.cls ≠ .none → s.spacingHolds x.cand.paper n = true →
            exec .arbiterChoice s = .next (s.begun q k x p (.preplaced n)))) := by
  have missed {why : PreplaceReason} (h : s.preplaceFails n x.cand.paper x.cand.cls = some why) :=
    exec_arbiterChoice_missed hq hserv hfind ha hc hk hs hp hn h
  refine ⟨fun h => missed (preplaceFails_noSeat h), fun r h => ⟨fun hr => missed (preplaceFails_suspect h hr),
    fun hr hf => missed (preplaceFails_notFree h hr hf), fun hr hf => ⟨fun hz => missed (preplaceFails_noZone h hr hf hz),
      fun z hz => ⟨fun ho => missed (preplaceFails_closed h hr hf hz ho),
        fun ho hcode => missed (preplaceFails_code h hr hf hz ho hcode),
        fun ho hcode hsp => missed (preplaceFails_spacing h hr hf hz ho hcode hsp), fun ho hcode hsp => ?_⟩⟩⟩⟩
  rw [exec_arbiterChoice_asks hq hserv hfind ha]
  exact congrArg Host.Outcome.next (beginAllocation_preplaced (u := s.takingUp k q) hc hk hs hp hn
    (preplaceFails_none h hr hf hz ho hcode hsp))
end

/-! ### PLACE (R55 to R57) -/

section
variable {override : Bool} {paper : Nat}

theorem holdRefusal_notFound (h : s.seat? n = none) : s.holdRefusal n paper override = some .notFound := by
  rw [State.holdRefusal, h]

theorem holdRefusal_suspect (h : s.seat? n = some r) (hs : r.suspect = true) :
    s.holdRefusal n paper override = some .suspect := by
  rw [State.holdRefusal, h]
  exact if_pos hs

theorem holdRefusal_notFree (h : s.seat? n = some r) (hs : r.suspect = false) (hf : r.state ≠ .free) :
    s.holdRefusal n paper override = some .wrongState := by
  simp [State.holdRefusal, h, hs, hf]

theorem holdRefusal_conflict (h : s.seat? n = some r) (hs : r.suspect = false) (hf : r.state = .free)
    (hsp : s.spacingHolds paper n = false) : s.holdRefusal n paper false = some .conflict := by
  simp [State.holdRefusal, h, hs, hf, hsp]

theorem holdRefusal_none (h : s.seat? n = some r) (hs : r.suspect = false) (hf : r.state = .free)
    (hsp : override = true ∨ s.spacingHolds paper n = true) : s.holdRefusal n paper override = none := by
  rcases hsp with hsp | hsp <;> simp [State.holdRefusal, h, hs, hf, hsp]

/-- A seat held for a slot's candidate of a paper (R9). -/
def Seat.heldFor (r : Seat) (k paper : Nat) (override : Bool) : Seat :=
  { r with state := .held, occupant := some k, lastPaper := some paper, override := override }

theorem holdSeat_eq (h : s.seat? n = some r) : holdSeat n k paper override s =
    { s.withSeat n (r.heldFor k paper override) with dbc := s.dbc.afterSeat n r (r.heldFor k paper override) } := by
  rw [holdSeat, h]
  exact putSeat_eq h

/-- The candidate given a free seat: the seat held for it, and it ADMITTED there (R48, R56, R57). -/
def State.seated (s : State) (k : Nat) (x : Slot) (n : Nat) (r : Seat) (override : Bool) (walk : Nat) : State :=
  { (s.withSeat n (r.heldFor k x.cand.paper override)).withSlot k (x.cand.admittedAt n walk) x.clock with
    dbc := s.dbc.afterSeat n r (r.heldFor k x.cand.paper override) }

theorem seated_eq (hk : s.slot? k = some x) (hx : x.suspect = false) (h : s.seat? n = some r) (walk : Nat) :
    modCand k (Candidate.admittedAt n walk) (holdSeat n k x.cand.paper override s) = s.seated k x n r override walk := by
  rw [holdSeat_eq h]
  exact Slot.eq_write_of_readable hx _ hk

end

theorem Dbc.afterSeat_calls_eq (d : Dbc) (n : Nat) (old new : Seat) : (d.afterSeat n old new).calls =
    if old.state = .occupied ∧ new.state ≠ .occupied then d.calls.filter fun c => c.seat != n else d.calls := by
  refine if_congr ?_ rfl rfl
  simp

section
variable {o : Nat} {w : Seat} {override : Bool}

theorem triggerIf_keeps {β : Type} (g : State → β) (hg : ∀ (s : State) (l : Sal), g { s with sal := l } = g s) (s : State)
    (b : Bool) : g (s.triggerIf b) = g s := by
  cases b with
  | false => rfl
  | true => exact (congrArg g (retryTrigger_eq s)).trans (hg ..)

/-- The state with the old seat of a move as the move leaves it. -/
def State.movedFrom (u : State) (o : Nat) (w : Seat) : State :=
  State.triggerIf { u.withSeat o w.movedAway with dbc := u.dbc.afterSeat o w w.movedAway } (w.state == .held)

theorem putSeat_movedAway (hw : u.seat? o = some w) : putSeat o w.movedAway u = u.movedFrom o w := by
  rw [putSeat_eq hw, State.movedFrom]
  refine congrArg _ ?_
  unfold Seat.movedAway
  cases w.state <;> rfl

theorem movedFrom_seat? (u : State) (o : Nat) (w : Seat) (m : Nat) :
    (u.movedFrom o w).seat? m = if m = o then some w.movedAway else u.seat? m :=
  (triggerIf_keeps (fun s => s.seat? m) (fun _ _ => rfl) ..).trans (seat?_withSeat ..)

theorem movedFrom_slot? (u : State) (o : Nat) (w : Seat) (m : Nat) : (u.movedFrom o w).slot? m = u.slot? m :=
  triggerIf_keeps (fun s => s.slot? m) (fun _ _ => rfl) ..

theorem movedFrom_paper? (u : State) (o : Nat) (w : Seat) (m : Nat) : (u.movedFrom o w).paper? m = u.paper? m :=
  triggerIf_keeps (fun s => s.paper? m) (fun _ _ => rfl) ..

theorem seated_walkLimit (hp : u.paper? x.cand.paper = some p) (hr : u.seat? n = some r) :
    (holdSeat n k x.cand.paper override u).walkLimit x.cand.paper = p.walk := by
  rw [State.walkLimit, State.paper?, holdSeat_eq hr]
  exact congrArg (fun o => (o.map Paper.walk).getD 240) hp

theorem seated_label (v : State) (k : Nat) (x : Slot) (n : Nat) (r : Seat) (o : Bool) (walk : Nat) :
    (v.seated k x n r o walk).labelFields (some n) = labelFields (some (labelOf r)) :=
  labelFields_seat (r := r.heldFor k x.cand.paper o) ((Table.find_put ..).trans (if_pos rfl))

end

/-! PLACE as it is served: in ranges, of a readable candidate with no admission in progress. -/

theorem flagOfCode_eq (h : f < 2) : flagOfCode f = some (f == 1) := by
  interval_cases f <;> rfl

theorem beyond_eq_false (h : ∀ n, seat = some n → n ≤ 511) : beyond 511 seat = false := by
  cases seat with
  | none => rfl
  | some n => simpa [beyond] using h n rfl

theorem servePlace_bad (h : 2 ≤ f ∨ 99999999 < number ∨ (∃ n, seat = some n ∧ 511 < n)) :
    servePlace number seat f u = (u, .no .badValue) := by
  rcases Nat.lt_or_ge f 2 with hf | hf
  · have range : (99999999 < number || beyond 511 seat) = true := by
      rcases h.resolve_left (Nat.not_le.mpr hf) with h | ⟨m, rfl, hm⟩
      · simp [h]
      · simp [beyond, hm]
    rw [servePlace, flagOfCode_eq hf]
    dsimp only
    rw [Config.maxNumber, if_pos range]
  · rw [servePlace, flagOfCode, List.getElem?_eq_none (by simpa using hf)]

section
variable (hc : u.clean = true) (hf : f < 2) (hn : number ≤ 99999999) (hb : ∀ n, seat = some n → n ≤ 511)
include hc hf hn hb

theorem servePlace_unknown (hk : u.slotOf number = none) : servePlace number seat f u = (u, .no .notFound) := by
  simp [servePlace, flagOfCode_eq hf, Config.maxNumber, Nat.not_lt.mpr hn, beyond_eq_false hb, readNumber_clean hc, hk]

variable (hk : u.slotOf number = some k) (hx : u.slot? k = some x)
include hk hx

theorem servePlace_suspect (hs : x.suspect = true) : servePlace number seat f u = (u, .no .suspect) := by
  simp [servePlace, flagOfCode_eq hf, Config.maxNumber, Nat.not_lt.mpr hn, beyond_eq_false hb, readNumber_clean hc, hk, hx, hs]

variable (hs : x.suspect = false)
include hs

theorem servePlace_busy (ha : x.cand.source.isSome = true) : servePlace number seat f u = (u, .no .busy) := by
  simp [servePlace, flagOfCode_eq hf, Config.maxNumber, Nat.not_lt.mpr hn, beyond_eq_false hb, readNumber_clean hc, hk, hx, hs, ha]

variable (ha : x.cand.source = none)
include ha

theorem servePlace_expected (h : x.cand.state = .expected) : servePlace number seat f u =
    (u.withSlot k { x.cand with preplaced := seat } x.clock, .ok []) := by
  have written := Slot.eq_write_of_readable hs (fun c => { c with preplaced := seat }) hx
  simp [servePlace, flagOfCode_eq hf, Config.maxNumber, Nat.not_lt.mpr hn, beyond_eq_false hb, readNumber_clean hc, hk, hx, hs,
    ha, h, written]

theorem servePlace_past
    (h : x.cand.state = .finished ∨ x.cand.state = .collected ∨ x.cand.state = .absent ∨ x.cand.state = .withdrawn) :
    servePlace number seat f u = (u, .no .wrongState) := by
  rcases h with h | h | h | h <;>
    simp [servePlace, flagOfCode_eq hf, Config.maxNumber, Nat.not_lt.mpr hn, beyond_eq_false hb, readNumber_clean hc, hk, hx, hs,
      ha, h]

omit hb in
theorem servePlace_seatless (h : x.cand.state = .waiting ∨ x.cand.state = .admitted ∨ x.cand.state = .seated)
    (hnone : seat = none) : servePlace number seat f u = (u, .no .badValue) := by
  rcases h with h | h | h <;>
    simp [servePlace, flagOfCode_eq hf, Config.maxNumber, Nat.not_lt.mpr hn, readNumber_clean hc, hk, hx, hs, ha, h, hnone]

theorem servePlace_waiting (h : x.cand.state = .waiting) (hsome : seat = some n) :
    servePlace number seat f u = placeWaiting k x n (f == 1) u := by
  subst hsome
  simp [servePlace, flagOfCode_eq hf, Config.maxNumber, Nat.not_lt.mpr hn, beyond_eq_false hb, readNumber_clean hc, hk, hx, hs,
    ha, h]

theorem servePlace_moves (h : x.cand.state = .admitted ∨ x.cand.state = .seated) (hsome : seat = some n) :
    servePlace number seat f u = placeMove k x n (f == 1) u := by
  subst hsome
  rcases h with h | h <;>
    simp [servePlace, flagOfCode_eq hf, Config.maxNumber, Nat.not_lt.mpr hn, beyond_eq_false hb, readNumber_clean hc, hk, hx, hs,
      ha, h]
end

/-! The two forms of PLACE that give a seat. -/

section
variable (hc : u.clean = true) {override : Bool}
include hc

theorem placeWaiting_refused {why : Reason} (h : u.holdRefusal n x.cand.paper override = some why) :
    placeWaiting k x n override u = (u, .no why) := by
  rw [placeWaiting]
  dsimp only
  rw [readAround_clean hc, h]

theorem placeWaiting_placed (hk : u.slot? k = some x) (hx : x.suspect = false) (hp : u.paper? x.cand.paper = some p)
    (hr : u.seat? n = some r) (h : u.holdRefusal n x.cand.paper override = none) : placeWaiting k x n override u =
    (leaveWaitList k (u.seated k x n r override p.walk), .ok (u16 n :: labelFields (some (labelOf r)))) := by
  rw [placeWaiting]
  dsimp only
  rw [readAround_clean hc, h]
  dsimp only
  rw [seated_walkLimit hp hr, seated_eq hk hx hr, seated_label]

variable {o : Nat} {w : Seat} (ho : x.cand.seat = some o)
include ho

omit ho in
theorem placeMove_unknown (hr : u.seat? n = none) : placeMove k x n override u = (u, .no .notFound) := by
  rw [placeMove]
  dsimp only
  rw [readSeat_clean hc, readAround_clean hc, if_pos (by rw [hr]; rfl)]

variable (hr : u.seat? n = some r)
include hr

theorem placeMove_refused {why : Reason} (h : u.moveRefusal o n k x.cand.paper override = some why) :
    placeMove k x n override u = (u, .no why) := by
  rw [placeMove]
  dsimp only
  rw [readSeat_clean hc, readAround_clean hc, if_neg (by rw [hr]; nofun), ho, Option.getD_some, h]

theorem placeMove_placed (hk : u.slot? k = some x) (hx : x.suspect = false) (hp : u.paper? x.cand.paper = some p)
    (hw : u.seat? o = some w) (hne : o ≠ n) (h : u.moveRefusal o n k x.cand.paper override = none) :
    placeMove k x n override u = ((u.movedFrom o w).seated k x n r override p.walk,
      .ok (u16 n :: labelFields (some (labelOf r)))) := by
  have there : (u.movedFrom o w).seat? n = some r := (movedFrom_seat? ..).trans ((if_neg hne.symm).trans hr)
  have moved : moveSeats o n k x.cand.paper override u = holdSeat n k x.cand.paper override (u.movedFrom o w) := by
    rw [moveSeats, hw]
    dsimp only
    rw [putSeat_movedAway hw]
  rw [placeMove]
  dsimp only
  rw [readSeat_clean hc, readAround_clean hc, if_neg (by rw [hr]; nofun), ho, Option.getD_some, h]
  dsimp only
  rw [moved, seated_walkLimit (by rw [movedFrom_paper?]; exact hp) there,
    seated_eq (by rw [movedFrom_slot?]; exact hk) hx there, seated_label]
end

/-! The old seat of a move, judged first (R12). -/

theorem Seat.movedAway_eq (w : Seat) : w.movedAway = if w.state = .held then
      { w with state := .free, occupant := none, lastPaper := none, override := false }
    else { w with state := .vacated, occupant := none } := if_congr beq_iff_eq rfl rfl

theorem movedAway_state (w : Seat) : w.movedAway.state ≠ .occupied := by
  rw [Seat.movedAway_eq]
  split_ifs <;> nofun

section
variable {o paper : Nat} {w : Seat} {override : Bool} (hw : u.seat? o = some w)
include hw

theorem moveRefusal_suspect (hs : w.suspect = true) : u.moveRefusal o n k paper override = some .suspect := by
  rw [State.moveRefusal, hw]
  exact if_pos hs

variable (hs : w.suspect = false)
include hs

theorem moveRefusal_notThere (h : w.occupant ≠ some k ∨ (w.state ≠ .held ∧ w.state ≠ .occupied)) :
    u.moveRefusal o n k paper override = some .wrongState := by
  rw [State.moveRefusal, hw]
  dsimp only
  rw [if_neg (by simp [hs]), if_pos (by simpa using h)]

variable (ho : w.occupant = some k) (hst : w.state = .held ∨ w.state = .occupied)
include ho hst

theorem moveRefusal_there : u.moveRefusal o n k paper override =
    if o = n then some .wrongState else (u.withSeat o w.movedAway).holdRefusal n paper override := by
  have there : ¬(w.occupant != some k || !(w.state == .held || w.state == .occupied)) = true := by
    rcases hst with h | h <;> simp [ho, h]
  rw [State.moveRefusal, hw]
  dsimp only
  rw [if_neg (by simp [hs]), if_neg there]
  exact if_congr beq_iff_eq rfl rfl
end

/-- The allocator with the station's request taken up. -/
def State.placing (s : State) : State := { s with sal := { s.sal with reqStation := none, last := .station } }

theorem exec_arbiterChoice_place {t : State} {a : Answer} (hq : s.calm = true) (hserv : s.sal.serving = none)
    (hreq : s.sal.reqStation = some (.place number seat f)) (htaken : s.sli.taken = some (.deferred 35 false))
    (hfind : s.sal.last.after.find? s.requests = some .station) (h : servePlace number seat f s.placing = (t, a))
    (ht : t.sli = s.sli) :
    exec .arbiterChoice s = .next (addReply 35 a { t with sli := { s.sli with taken := none } }) := by
  have served : serveRequester .station s = answerTaken a t := by
    rw [serveRequester]
    dsimp only
    rw [hreq]
    exact (congrArg (fun r : State × Answer => answerTaken r.2 r.1) h).trans rfl
  rw [exec_arbiterChoice hq, chooseRequest_some hserv hfind, served, answerTaken, ht, htaken]

/-! ### PLACE served (R55 to R57) -/

theorem Candidate.admittedAt_eq {c : Candidate} {w : Nat} (h : c.source = none) : c.admittedAt n w =
    { c with state := .admitted, seat := some n, lastSeat := some n, walk := some w } := by
  rw [Candidate.admittedAt, ← h]

/-- What every PLACE that gives a seat leaves: the reply, the seat held, the candidate there, and the blocks unchanged. -/
def State.Placed (s : State) (k n f : Nat) (x : Slot) (p : Paper) (t : State) (r : Seat) : Prop :=
  exec .arbiterChoice s = .next (t.replied 35 (u16 n :: Machine.labelFields (some (Machine.labelOf r))))
  ∧ t.seat? n = some { r with state := .held, occupant := some k, lastPaper := some x.cand.paper, override := (f == 1) }
  ∧ t.slot? k = (s.withSlot k { x.cand with
      state := .admitted, seat := some n, lastSeat := some n, walk := some p.walk } x.clock).slot? k
  ∧ (∀ j, j ≠ k → t.slot? j = s.slot? j) ∧ t.sli = { s.sli with taken := none } ∧ t.ssu = s.ssu
  ∧ t.htb = s.htb ∧ t.clu = s.clu ∧ t.mru = s.mru ∧ t.fcu = s.fcu ∧ t.hmu.zones = s.hmu.zones
  ∧ t.hmu.rows = s.hmu.rows ∧ t.rsu.door0 = s.rsu.door0 ∧ t.rsu.door1 = s.rsu.door1

section
variable (hq : s.calm = true) (hserv : s.sal.serving = none) (hreq : s.sal.reqStation = some (.place number seat f))
  (htaken : s.sli.taken = some (.deferred 35 false)) (hfind : s.sal.last.after.find? s.requests = some .station)
include hq hserv hreq htaken hfind

theorem exec_place_refused {why : Reason} (h : servePlace number seat f s.placing = (s.placing, .no why)) :
    exec .arbiterChoice s = .next (State.refused { s.placing with sli := { s.sli with taken := none } } 35 why) :=
  exec_arbiterChoice_place hq hserv hreq htaken hfind h rfl

variable (hc : s.clean = true) (hk : s.slot? k = some x) (hx : x.suspect = false) (ha : x.cand.source = none)
  (hp : s.paper? x.cand.paper = some p) (hr : s.seat? n = some r)
include hc hk hx ha hp hr

theorem place_waiting_placed (h : servePlace number seat f s.placing = placeWaiting k x n (f == 1) s.placing)
    (hs : r.suspect = false) (hf : r.state = .free) (hsp : f = 1 ∨ s.spacingHolds x.cand.paper n = true) :
    ∃ t : State, s.Placed k n f x p t r ∧ (∀ m, m ≠ n → t.seat? m = s.seat? m) ∧ t.sal = s.placing.sal.left k
      ∧ t.dbc.calls = s.dbc.calls := by
  have held : s.placing.holdRefusal n x.cand.paper (f == 1) = none :=
    holdRefusal_none (s := s.placing) hr hs hf (hsp.imp (fun h => by rw [h]; rfl) id)
  have placed := placeWaiting_placed (u := s.placing) hc hk hx hp hr held
  refine ⟨{ leaveWaitList k (s.placing.seated k x n r (f == 1) p.walk) with sli := { s.sli with taken := none } },
    ⟨exec_arbiterChoice_place hq hserv hreq htaken hfind (h.trans placed) rfl, ?_, ?_, fun j hj => ?_, rfl, rfl,
      rfl, rfl, rfl, rfl, rfl, rfl, rfl, rfl⟩, fun m hm => ?_, rfl, ?_⟩
  · exact (Table.find_put ..).trans (if_pos rfl)
  · rw [← Candidate.admittedAt_eq ha]
    exact (Table.find_put ..).trans (if_pos rfl) |>.trans ((slot?_withSlot ..).trans (if_pos rfl)).symm
  · exact (Table.find_put ..).trans (if_neg hj)
  · exact (Table.find_put ..).trans (if_neg hm)
  · refine (Dbc.afterSeat_calls_eq ..).trans (if_neg ?_)
    rw [hf]
    exact fun h => nomatch h.1

theorem place_moves_placed {o : Nat} {w : Seat} (h : servePlace number seat f s.placing = placeMove k x n (f == 1) s.placing)
    (hseat : x.cand.seat = some o) (hw : s.seat? o = some w) (hne : o ≠ n)
    (hrefused : s.placing.moveRefusal o n k x.cand.paper (f == 1) = none) (hf : r.state = .free) :
    ∃ t : State, s.Placed k n f x p t r ∧ t.seat? o = some w.movedAway ∧ (∀ m, m ≠ n → m ≠ o → t.seat? m = s.seat? m)
      ∧ t.sal = (if w.state = .held then (retryTrigger s.placing).sal else s.placing.sal)
      ∧ t.dbc.calls = (if w.state = .occupied then s.dbc.calls.filter (fun c => c.seat != o) else s.dbc.calls) := by
  have placed := placeMove_placed (u := s.placing) hc hseat hr hk hx hp hw hne hrefused
  have keeps {β : Type} (g : State → β) (hg : ∀ (s : State) (l : Sal), g { s with sal := l } = g s) :=
    triggerIf_keeps g hg { s.placing.withSeat o w.movedAway with dbc := s.dbc.afterSeat o w w.movedAway } (w.state == .held)
  refine ⟨{ (s.placing.movedFrom o w).seated k x n r (f == 1) p.walk with sli := { s.sli with taken := none } },
    ⟨exec_arbiterChoice_place hq hserv hreq htaken hfind (h.trans placed) (keeps State.sli fun _ _ => rfl), ?_, ?_,
      fun j hj => ?_, rfl, keeps State.ssu fun _ _ => rfl, keeps State.htb fun _ _ => rfl, keeps State.clu fun _ _ => rfl,
      keeps State.mru fun _ _ => rfl, keeps State.fcu fun _ _ => rfl, keeps (fun s => s.hmu.zones) fun _ _ => rfl,
      keeps (fun s => s.hmu.rows) fun _ _ => rfl, keeps (fun s => s.rsu.door0) fun _ _ => rfl,
      keeps (fun s => s.rsu.door1) fun _ _ => rfl⟩, ?_, fun m hm hmo => ?_, ?_, ?_⟩
  · exact (Table.find_put ..).trans (if_pos rfl)
  · rw [← Candidate.admittedAt_eq ha]
    exact (Table.find_put ..).trans (if_pos rfl) |>.trans ((slot?_withSlot ..).trans (if_pos rfl)).symm
  · exact (Table.find_put ..).trans ((if_neg hj).trans (keeps (fun s => s.slot? j) fun _ _ => rfl))
  · exact (Table.find_put ..).trans ((if_neg hne).trans ((movedFrom_seat? ..).trans (if_pos rfl)))
  · exact (Table.find_put ..).trans ((if_neg hm).trans ((movedFrom_seat? ..).trans (if_neg hmo)))
  · show (s.placing.movedFrom o w).sal = _
    by_cases held : w.state = .held <;> simp [State.movedFrom, State.triggerIf, held, retryTrigger_eq]
  · refine (Dbc.afterSeat_calls_eq ..).trans ((if_neg ?_).trans ?_)
    · rw [hf]
      exact fun h => nomatch h.1
    · refine (keeps (fun s => s.dbc.calls) fun _ _ => rfl).trans ((Dbc.afterSeat_calls_eq ..).trans (if_congr ?_ rfl rfl))
      exact and_iff_left (movedAway_state w)
end

theorem stopServing_takingUp (h : s.sal.serving = none) : stopServing (s.takingUp k q) = s.takingUp k q := by
  cases q <;> simp [stopServing, State.takingUp, Sal.taking, h]

theorem Sal.taking_pending {l : Sal} {rest : List Nat} (h : l.retry = .pending) (hw : l.wait = k :: rest) :
    l.asks k .retry ∧ l.taking k .retry =
      { l with last := .retry, reqRetry := false, retry := .walking, span := rest.filter (· != k) } := by
  have now : l.spanNow = k :: rest := (if_pos h).trans hw
  refine ⟨⟨by rw [h]; nofun, ?_⟩, ?_⟩
  · rw [now, hw, List.filter_eq_self.mpr fun m hm => by simpa using hm]
    rfl
  · rw [Sal.taking, now]
    simp

theorem Sal.taking_walking {l : Sal} {rest : List Nat} (h : l.retry = .walking) (hl : l.last = .retry)
    (hw : l.wait.filter l.span.contains = k :: rest) :
    l.asks k .retry ∧ l.taking k .retry = { l with reqRetry := false, span := l.span.filter (· != k) } := by
  have now : l.spanNow = l.span := if_neg (by rw [h]; nofun)
  refine ⟨⟨by rw [h]; nofun, by rw [now, hw]; rfl⟩, ?_⟩
  rw [Sal.taking, now, ← h, ← hl]

/-- Settles O15: the choice takes up a slot (`Sal.taking`) or serves PLACE, one lemma per outcome. -/
theorem arbiterServesRoundRobin : Obligations.ArbiterServesRoundRobin := by
  refine ⟨⟨⟨fun s hq hc => ⟨fun h => ?_, fun h h0 h1 hs hr => ?_, fun k x r hserv hk hx hn hp => ?_⟩,
    fun s k number x hq hc hserv hl hk => ?_⟩, fun s number f seat hs => ?_, ?_⟩, ?_⟩
  · rw [exec_arbiterChoice hq, chooseRequest_serving h]
  · rw [exec_arbiterChoice hq, chooseRequest_none h h0 h1 hs hr]
  · have search {q : Requester} (hf : s.sal.last.after.find? s.requests = some q) (ha : s.sal.asks k q) :=
      exec_arbiterChoice_searches hq hserv hf ha hc hk hx hp hn
    refine ⟨fun ha ho => search (find_door0 ha ho) ha, fun ha ho => search (find_door1 ha ho) ha,
      fun ha ho => search (find_station ha ho) ha, fun l ha hh hpend hw ho => ?_⟩
    obtain ⟨asks, taking⟩ := Sal.taking_pending hpend hw
    refine (search (find_retry ha hh ho) asks).trans (congrArg Host.Outcome.next ?_)
    rw [State.begun, State.takingUp, taking]
    rfl
  · refine ⟨fun ha hx hcard => ?_, fun h0 h1 ha hx htaken => ?_, fun l h0 h1 hs ha hh hwalk hspan => ⟨fun hx hn p hp => ?_,
      fun hx hm => ?_⟩, fun n p ha hx hn hp => ?_⟩
    · refine (exec_arbiterChoice_asks hq hserv (find_door0 ha (.inl hl)) ha).trans (congrArg Host.Outcome.next ?_)
      rw [beginAllocation_suspect (u := s.takingUp k .door0) hc hk hx, endSuspect, stopServing_takingUp hserv]
      show answerDoor 0 (.refused .suspect) (s.takingUp k .door0) = _
      rw [answerDoor, show ((s.takingUp k .door0).port 0).card = some number from hcard]
      rfl
    · refine (exec_arbiterChoice_asks hq hserv (find_station ha (.inr (.inr (.inl ⟨hl, h0, h1⟩)))) ha).trans
        (congrArg Host.Outcome.next ?_)
      rw [beginAllocation_suspect (u := s.takingUp k .station) hc hk hx, endSuspect, stopServing_takingUp hserv]
      show answerTaken (.no .suspect) (s.takingUp k .station) = _
      rw [answerTaken, show (s.takingUp k .station).sli.taken = _ from htaken]
      rfl
    · obtain ⟨asks, taking⟩ := Sal.taking_walking hwalk hl hspan
      refine (exec_arbiterChoice_searches hq hserv (find_retry ha hh (.inr (.inr (.inr ⟨hl, h0, h1, hs⟩)))) asks hc hk hx hp
        hn).trans (congrArg Host.Outcome.next ?_)
      rw [State.begun, State.takingUp, taking]
      rfl
    · obtain ⟨asks, taking⟩ := Sal.taking_walking hwalk hl hspan
      refine (exec_arbiterChoice_asks hq hserv (find_retry ha hh (.inr (.inr (.inr ⟨hl, h0, h1, hs⟩)))) asks).trans
        (congrArg Host.Outcome.next ?_)
      rw [beginAllocation_suspect (u := s.takingUp k .retry) hc hk hx, endSuspect, stopServing_takingUp hserv, State.takingUp,
        taking]
      obtain ⟨m, hm, hmk, hms⟩ := hm
      have untried : m ∈ s.sal.wait.filter (s.sal.span.filter (· != k)).contains :=
        List.mem_filter.mpr ⟨hm, by simpa using ⟨hms, hmk⟩⟩
      refine (if_pos rfl).trans (if_neg fun empty => ?_)
      exact List.ne_nil_of_mem untried (List.isEmpty_iff.mp empty)
    · obtain ⟨seatless, there⟩ :=
        exec_arbiterChoice_preplaced hq hserv (find_door0 ha (.inl hl)) ha hc hk hx hp hn
      refine ⟨seatless, fun r z hr hz => ?_⟩
      obtain ⟨suspect, notFree, free⟩ := there r hr
      exact ⟨suspect, notFree, fun hs hf => (free hs hf).2 z hz⟩
  · exact exec_place_ready hs ..
  · intro s number f seat hq hc hserv hreq htaken ho
    have served {t : State} {a : Answer} := exec_arbiterChoice_place (t := t) (a := a) hq hserv hreq htaken (find_station hreq ho)
    have no {why : Reason} (h : servePlace number seat f s.placing = (s.placing, .no why)) := served h rfl
    refine ⟨fun h => no (servePlace_bad h), fun hf hn hb => ⟨fun hk => no (servePlace_unknown hc hf hn hb hk), fun k x hk hx =>
      ⟨fun hs => no (servePlace_suspect hc hf hn hb hk hx hs), fun hs ha => no (servePlace_busy hc hf hn hb hk hx hs ha),
        fun hs ha => ⟨fun h => ?_, fun h => no (servePlace_past hc hf hn hb hk hx hs ha h),
          fun h hnone => no (servePlace_seatless hc hf hn hk hx hs ha h hnone), fun n p hsome hp => ⟨fun hr h => ?_, fun r hr =>
            ⟨fun h => ?_, fun o w h hseat hw => ?_⟩⟩⟩⟩⟩⟩
    · exact served (servePlace_expected (u := s.placing) hc hf hn hb hk hx hs ha h) rfl
    · rcases h with h | h
      · exact no ((servePlace_waiting (u := s.placing) hc hf hn hb hk hx hs ha h hsome).trans
          (placeWaiting_refused (u := s.placing) hc (holdRefusal_notFound (s := s.placing) hr)))
      · exact no ((servePlace_moves (u := s.placing) hc hf hn hb hk hx hs ha h hsome).trans
          (placeMove_unknown (u := s.placing) hc hr))
    · have waits := servePlace_waiting (u := s.placing) hc hf hn hb hk hx hs ha h hsome
      have refused {why : Reason} (hwhy : s.placing.holdRefusal n x.cand.paper (f == 1) = some why) :=
        no (waits.trans (placeWaiting_refused (u := s.placing) hc hwhy))
      refine ⟨fun hrs => refused (holdRefusal_suspect (s := s.placing) hr hrs),
        fun hrs hrf => refused (holdRefusal_notFree (s := s.placing) hr hrs hrf), fun hrs hrf h0 hsp => ?_,
        fun hrs hrf hsp => place_waiting_placed hq hserv hreq htaken (find_station hreq ho) hc hx hs ha hp hr waits hrs hrf hsp⟩
      subst h0
      exact refused (holdRefusal_conflict (s := s.placing) hr hrs hrf hsp)
    · have moves := servePlace_moves (u := s.placing) hc hf hn hb hk hx hs ha h hsome
      have refused {why : Reason} (hwhy : s.placing.moveRefusal o n k x.cand.paper (f == 1) = some why) :=
        no (moves.trans (placeMove_refused (u := s.placing) hc hseat hr hwhy))
      refine ⟨fun hws => refused (moveRefusal_suspect (u := s.placing) hw hws),
        fun hws hoc => refused (moveRefusal_notThere (u := s.placing) hw hws hoc), fun hws hoc hst => ?_⟩
      have judged := moveRefusal_there (u := s.placing) (n := n) (paper := x.cand.paper) (override := (f == 1)) hw hws hoc hst
      have there (hne : o ≠ n) : (s.placing.withSeat o w.movedAway).seat? n = some r :=
        (seat?_withSeat ..).trans ((if_neg hne.symm).trans hr)
      rw [← Seat.movedAway_eq]
      refine ⟨fun heq => refused (judged.trans (if_pos heq)),
        fun hne hrs => refused (judged.trans ((if_neg hne).trans (holdRefusal_suspect (there hne) hrs))),
        fun hne hrs hrf => refused (judged.trans ((if_neg hne).trans (holdRefusal_notFree (there hne) hrs hrf))),
        fun hne hrs hrf h0 hsp => ?_, fun hne hrs hrf hsp => ?_⟩
      · subst h0
        exact refused (judged.trans ((if_neg hne).trans (holdRefusal_conflict (there hne) hrs hrf hsp)))
      · exact place_moves_placed hq hserv hreq htaken (find_station hreq ho) hc hx hs ha hp hr moves hseat hw hne
          (judged.trans ((if_neg hne).trans (holdRefusal_none (there hne) hrs hrf (hsp.imp (fun h => by rw [h]; rfl) id)))) hrf
  · intro s q k n l x p hq hc hserv hf hk hx hn hp
    have preplaced (ha : s.sal.asks k q) := exec_arbiterChoice_preplaced hq hserv hf ha hc hk hx hp hn
    cases q with
    | retry =>
      dsimp only
      intro ha
      exact preplaced ⟨ha.1, (congrArg List.head? ha.2).trans rfl⟩
    | _ => exact fun ha => preplaced ha
end Sys2Proof.Machine

/-! PROOFS. The outcome of an allocation, for each requester (O16). -/

namespace Sys2Proof.Machine

set_option Elab.async false

variable {s t u v : State} {q : Requester} {k n number paper : Nat} {x : Slot} {p : Paper} {r : Seat}
  {cls : CandidateClass} {order : List Nat}

/-! ### The answer of an admission (R30) -/

/-- The reason that notice DOOR ANSWER carries. -/
def DoorAnswer.reasonCode : DoorAnswer → Nat
  | .refused r => r.ctorIdx
  | _ => 0

/-- The label that notice DOOR ANSWER carries. -/
def DoorAnswer.label : DoorAnswer → Option (List Nat)
  | .seat l => some l
  | _ => none

/-- Notice DOOR ANSWER of a card answered at a port. -/
def State.cardAnswered (s : State) (d number : Nat) (a : DoorAnswer) : Notice :=
  ⟨.doorAnswer, s.htb.time, [u8 d, u32 number, u8 a.code, u8 a.reasonCode] ++ Machine.labelFields a.label
    ++ [o16 (s.slotOf number)]⟩

/-- The part with an admission answered at its door, or to the station. -/
def State.answering (s : State) (q : Requester) (number : Nat) (a : DoorAnswer) (reply : Answer) : State :=
  match q with
  | .door0 => State.told { s with rsu := { s.rsu with door0 := ⟨none, some a⟩ } } [s.cardAnswered 0 number a]
  | .door1 => State.told { s with rsu := { s.rsu with door1 := ⟨none, some a⟩ } } [s.cardAnswered 1 number a]
  | .station => { s with sli := { s.sli with taken := none, replies := s.sli.replies ++ [⟨34, reply, false⟩] } }
  | .retry => s

/-- An admission waits for its answer, with room for the notices. -/
def State.Asked (s : State) (q : Requester) (number : Nat) : Prop :=
  (q = .door0 ∧ s.rsu.door0.card = some number ∧ s.sli.notices.length + 1 < 64)
    ∨ (q = .door1 ∧ s.rsu.door1.card = some number ∧ s.sli.notices.length + 1 < 64)
    ∨ (q = .station ∧ s.sli.taken = some (.deferred 34 false) ∧ s.sli.notices.length + 1 < 64)

theorem State.Asked.not_retry (h : s.Asked q number) : (q == .retry) = false := by
  rcases h with ⟨rfl, _⟩ | ⟨rfl, _⟩ | ⟨rfl, _⟩ <;> rfl

theorem State.Asked.room (h : s.Asked q number) : s.sli.notices.length + 1 < 64 := by
  rcases h with ⟨_, _, h⟩ | ⟨_, _, h⟩ | ⟨_, _, h⟩ <;> exact h

theorem answerAdmission_eq (h : s.Asked q number) (o : Outcome) :
    answerAdmission q o s = s.answering q number (s.outcomeAnswer o) (s.outcomeReply o) := by
  rcases h with ⟨rfl, card, room⟩ | ⟨rfl, card, room⟩ | ⟨rfl, taken, _⟩
  · rw [answerAdmission, answerDoor, show (s.port 0).card = some number from card]
    exact notify_told (by exact Nat.lt_of_succ_lt room) ..
  · rw [answerAdmission, answerDoor, show (s.port 1).card = some number from card]
    exact notify_told (by exact Nat.lt_of_succ_lt room) ..
  · rw [answerAdmission, answerTaken, taken]
    rfl

/-- An answer changes the ports and the link alone. -/
theorem answering_rest (s : State) (q : Requester) (number : Nat) (a : DoorAnswer) (reply : Answer) :
    ∃ d e b, s.answering q number a reply = { s with rsu := { s.rsu with door0 := d, door1 := e }, sli := b } := by
  cases q <;> exact ⟨_, _, _, rfl⟩

theorem answering_room (h : s.Asked q number) (a : DoorAnswer) (reply : Answer) :
    (s.answering q number a reply).sli.notices.length < 64 ∧ (s.answering q number a reply).htb = s.htb := by
  rcases h with ⟨rfl, _, room⟩ | ⟨rfl, _, room⟩ | ⟨rfl, _, room⟩
  · exact ⟨by simpa [State.answering, State.told] using room, rfl⟩
  · exact ⟨by simpa [State.answering, State.told] using room, rfl⟩
  · exact ⟨Nat.lt_of_succ_lt room, rfl⟩

/-- The answer of an admission, as the ports and the link then show it. -/
def State.Answered (s t : State) (q : Requester) (number : Nat) (a : DoorAnswer) (reply : Answer) (more : List Notice) :
    Prop :=
  let card (d : Nat) : Sli := { s.sli with notices := s.sli.notices ++ ⟨.doorAnswer, s.htb.time,
    [u8 d, u32 number, u8 a.code, u8 a.reasonCode] ++ Machine.labelFields a.label ++ [o16 (t.slotOf number)]⟩ :: more }
  (q = .door0 → t.rsu.door0 = ⟨none, some a⟩ ∧ t.rsu.door1 = s.rsu.door1 ∧ t.sli = card 0)
    ∧ (q = .door1 → t.rsu.door1 = ⟨none, some a⟩ ∧ t.rsu.door0 = s.rsu.door0 ∧ t.sli = card 1)
    ∧ (q = .station → t.rsu.door0 = s.rsu.door0 ∧ t.rsu.door1 = s.rsu.door1 ∧ t.sli = { s.sli with
        taken := none, replies := s.sli.replies ++ [⟨34, reply, false⟩], notices := s.sli.notices ++ more })

/-- What is done with the slot before and after the answer, and notices behind it, leave the answer as it is. -/
theorem answered_of {rest : Table Slot} (h0 : u.rsu.door0 = s.rsu.door0) (h1 : u.rsu.door1 = s.rsu.door1)
    (hsli : u.sli = s.sli) (htb : u.htb = s.htb) {a : DoorAnswer} {reply : Answer} {more : List Notice}
    (hn : (((u.answering q number a reply).told more).withSlots rest).slotOf number = u.slotOf number) :
    s.Answered (((u.answering q number a reply).told more).withSlots rest) q number a reply more := by
  refine ⟨?_, ?_, ?_⟩
  · rintro rfl
    rw [hn]
    refine ⟨rfl, h1, ?_⟩
    change ({ u.sli with notices := (u.sli.notices ++ [u.cardAnswered 0 number a]) ++ more } : Sli) = _
    rw [hsli, State.cardAnswered, htb, List.append_assoc]
    rfl
  · rintro rfl
    rw [hn]
    refine ⟨rfl, h0, ?_⟩
    change ({ u.sli with notices := (u.sli.notices ++ [u.cardAnswered 1 number a]) ++ more } : Sli) = _
    rw [hsli, State.cardAnswered, htb, List.append_assoc]
    rfl
  · rintro rfl
    refine ⟨h0, h1, ?_⟩
    change ({ u.sli with
      taken := none, replies := u.sli.replies ++ [⟨34, reply, false⟩], notices := u.sli.notices ++ more } : Sli) = _
    rw [hsli]

/-- Where a test holds of two records alike, it finds the same index with the one written as with the other. -/
theorem Table.find?_put {α : Type} (t : Table α) {a b : α} (k : Nat) (f : α → Bool) (h : f a = f b) :
    (List.find? (fun e => f e.2) (t.put k a)).map Prod.fst = (List.find? (fun e => f e.2) (t.put k b)).map Prod.fst := by
  have first (l : Table α) : (List.find? (fun e => f e.2) ((k, a) :: l)).map Prod.fst =
      (List.find? (fun e => f e.2) ((k, b) :: l)).map Prod.fst := by
    rw [List.find?_cons, List.find?_cons, h]
    cases f b <;> rfl
  induction t with
  | nil => exact first []
  | cons e t ih =>
    obtain ⟨i, c⟩ := e
    unfold Table.put
    split_ifs
    · exact first _
    · exact first _
    · rw [List.find?_cons, List.find?_cons]
      cases f c with
      | true => rfl
      | false => exact ih

/-- Which slot holds a number depends on the numbers alone. -/
theorem slotOf_put {t : Table Slot} {c d : Candidate} {g h : Clock} (same : c.number = d.number)
    (hu : u.rsu.slots = t.put k (.write c g false)) (hv : v.rsu.slots = t.put k (.write d h false)) (number : Nat) :
    u.slotOf number = v.slotOf number := by
  rw [State.slotOf, State.slotOf, hu, hv]
  refine Table.find?_put t k (fun x : Slot => x.shadow.number == some number) ?_
  simp [Slot.write, shadowOf, same]

/-! ### The clock of an admission (R83) -/

/-- One seated candidate expired: of the map nothing changes, of the roster its record alone. -/
theorem expireSlots_seated (hc : s.clean = true) (hk : s.slot? k = some x) (hseat : x.cand.seat = some n)
    (hroom : s.sli.notices.length < 64) : (expireSlots [k] s).hmu = s.hmu
      ∧ (expireSlots [k] s).slot? k = some (x.finished .expired Slot.expiredClock) := by
  have done := (finishedSlots_slot? (s := s) (List.nodup_singleton k) .expired Slot.expiredClock k).trans
    ((if_pos (List.mem_singleton_self k)).trans (congrArg (Option.map (Slot.finished .expired Slot.expiredClock)) hk))
  have seated : ([k].filterMap (s.finishedSlots [k] .expired Slot.expiredClock).unseatedOf) = [] := by
    rw [List.filterMap_cons, State.unseatedOf, done]
    simp [Slot.finished, Slot.write, hseat]
  have papers : s.papersOf [k] = [x.cand.paper] := by
    rw [State.papersOf, List.filterMap_cons, hk]
    rfl
  rw [expireSlots_eq (List.nodup_singleton k) (by rw [seated, papers]; exact hroom)]
  generalize hl : (_ ++ _ : List Notice) = l
  obtain ⟨a, b, offered, -⟩ := handOff_offers [k] ((s.finishedSlots [k] .expired Slot.expiredClock).told l)
  obtain ⟨d, e, closed, -⟩ := foldl_closeIfSettled_rest
    (s := handOff [k] ((s.finishedSlots [k] .expired Slot.expiredClock).told l)) (by rw [offered]; exact hc) (s.papersOf [k])
  rw [closed, offered]
  exact ⟨rfl, done⟩

/-- The clock an admitted candidate gets from its paper's state, where it gets none that is over at once. -/
def Candidate.givenClock (c : Candidate) (p : Paper) (held : Bool) (g : Clock) : Clock :=
  let full := extendedTime p.duration c.allowance
  match p.state with
  | .reading => (Clock.readingFor c).underHold held
  | .writing | .overtime => (Clock.runningFor p full (full - p.elapsed) c.breakBudget).underHold held
  | _ => g

section
variable {w : Table Slot} {c : Candidate} {g : Clock} (hv : v.rsu.slots = w.put k (.write c g false))
  (hp : v.paper? c.paper = some p)
include hv

theorem slot?_of_put (m : Nat) : v.slot? m = if m = k then some (.write c g false) else w.find m := by
  rw [State.slot?, hv]
  exact Table.find_put ..

theorem modClock_of_put (h : Clock) : modClock k (fun _ => h) v = v.withSlots (w.put k (.write c h false)) := by
  refine (modClock_eq_withSlot rfl ((slot?_of_put hv k).trans (if_pos rfl)) _).trans ?_
  unfold State.withSlot State.withSlots
  rw [hv]
  exact congrArg (fun t => ({ v with rsu := { v.rsu with slots := t } } : State)) (Table.put_put ..)

include hp

theorem giveClock_open (ho : p.state ≠ .closed ∧ (p.state = .writing ∨ p.state = .overtime →
    p.elapsed < extendedTime p.duration c.allowance)) :
    giveClock k v = v.withSlots (w.put k (.write c (c.givenClock p v.ssu.held g) false)) := by
  have same : v.withSlots (w.put k (.write c g false)) = v := by rw [← hv]; rfl
  have find : v.slot? k = some (.write c g false) := (slot?_of_put hv k).trans (if_pos rfl)
  have running (hw : p.state = .writing ∨ p.state = .overtime) : giveClock.giveRunning k (.write c g false) p v =
      v.withSlots (w.put k (.write c ((Clock.runningFor p (extendedTime p.duration c.allowance)
        (extendedTime p.duration c.allowance - p.elapsed) c.breakBudget).underHold v.ssu.held) false)) := by
    have left := ho.2 hw
    refine (if_neg ?_).trans (modClock_of_put hv _)
    simp only [beq_iff_eq]
    exact Nat.sub_ne_zero_of_lt left
  rw [giveClock, find]
  dsimp only
  rw [show (Slot.write c g false).cand = c from rfl, hp]
  dsimp only
  unfold Candidate.givenClock
  cases hst : p.state with
  | defined => exact same.symm
  | admitting => exact same.symm
  | reading => exact modClock_of_put hv _
  | writing => exact running (.inl hst)
  | overtime => exact running (.inr hst)
  | closed => exact absurd hst ho.1

variable (hseat : c.seat = some n)
include hseat

/-- The record of a candidate admitted with no time left, or to a closed paper. -/
def Candidate.over (c : Candidate) (why : FinishReason) : Candidate :=
  { c with state := .finished, reason := some why, walk := none, source := none }

theorem giveClock_expired (hc : v.clean = true) (hroom : v.sli.notices.length < 64)
    (hst : p.state = .writing ∨ p.state = .overtime) (h : extendedTime p.duration c.allowance ≤ p.elapsed) :
    (giveClock k v).hmu = v.hmu ∧ (giveClock k v).slot? k = some (.write (c.over .expired)
      ((Clock.runningFor p (extendedTime p.duration c.allowance) 0 c.breakBudget).ended .expired) false) := by
  have find : v.slot? k = some (.write c g false) := (slot?_of_put hv k).trans (if_pos rfl)
  let late := Clock.runningFor p (extendedTime p.duration c.allowance) 0 c.breakBudget
  have running : giveClock.giveRunning k (.write c g false) p v =
      expireSlots [k] (v.withSlots (w.put k (.write c late false))) := by
    unfold giveClock.giveRunning
    dsimp only
    rw [show extendedTime p.duration (Slot.write c g false).cand.allowance - p.elapsed = 0 from Nat.sub_eq_zero_of_le h]
    exact (if_pos rfl).trans (congrArg (expireSlots [k]) (modClock_of_put hv late))
  have given : giveClock k v = expireSlots [k] (v.withSlots (w.put k (.write c late false))) := by
    rw [giveClock, find]
    dsimp only
    rw [show (Slot.write c g false).cand = c from rfl, hp]
    dsimp only
    rcases hst with hst | hst <;> rw [hst] <;> exact running
  rw [given]
  exact expireSlots_seated (s := v.withSlots (w.put k (.write c late false))) hc
    ((Table.find_put ..).trans (if_pos rfl)) hseat hroom

theorem giveClock_closed (hst : p.state = .closed) :
    (giveClock k v).hmu = v.hmu ∧ (giveClock k v).slot? k = some (.write (c.over .ended) (Clock.stoppedFor c) false) := by
  have find : v.slot? k = some (.write c g false) := (slot?_of_put hv k).trans (if_pos rfl)
  have done := (finishedSlots_slot? (List.nodup_singleton k) .ended (fun x => Clock.stoppedFor x.cand) k).trans
    ((if_pos (List.mem_singleton_self k)).trans (congrArg (Option.map (Slot.finished .ended fun x => Clock.stoppedFor x.cand)) find))
  have given : giveClock k v = handOff [k] (v.finishedSlots [k] .ended fun x => Clock.stoppedFor x.cand) := by
    rw [giveClock, find]
    dsimp only
    rw [show (Slot.write c g false).cand = c from rfl, hp]
    dsimp only
    rw [hst]
    dsimp only
    rw [finishSlot_eq, unseatedNotice, done]
    refine congrArg (handOff [k]) (if_pos ?_)
    simp [Slot.finished, Slot.write, hseat]
  obtain ⟨a, b, offered, -⟩ := handOff_offers [k] (v.finishedSlots [k] .ended fun x => Clock.stoppedFor x.cand)
  rw [given, offered]
  exact ⟨rfl, done⟩

end

/-! ### The outcome step (R48) -/

theorem exec_allocationOutcome (h : s.calm = true) : exec .allocationOutcome s = .next (outcomeStep s) :=
  congrArg Host.Outcome.next (settled_calm h _)

section
variable {g : Stage} (hs : s.sal.serving = some ⟨q, k, paper, cls, order, g⟩) (hc : s.clean = true) (hk : s.slot? k = some x)
include hs hc hk

theorem outcomeStep_suspect (hg : ∀ f, g ≠ .searching f) (hx : x.suspect = true) : outcomeStep s = endSuspect q s := by
  rw [outcomeStep, hs]
  dsimp only
  rw [readSlot_clean hc, hk]
  cases g with
  | searching f => exact absurd rfl (hg f)
  | _ => exact if_pos (by simp [hx])

variable (hx : x.suspect = false) (hst : x.cand.state = if q = .retry then .waiting else .expected)
include hx hst

omit hs hc hx in
theorem not_stale : s.allocationStale ⟨q, k, paper, cls, order, g⟩ = false := by
  simp [State.allocationStale, hk, hst]

theorem outcomeStep_noSeat (hg : g = .noSeat) : outcomeStep s = writeNoSeat ⟨q, k, paper, cls, order, g⟩ s := by
  subst hg
  have fresh := not_stale (paper := paper) (cls := cls) (order := order) (g := Stage.noSeat) hk hst
  rw [outcomeStep, hs]
  dsimp only
  rw [readSlot_clean hc, fresh, hk]
  simp [hx]

theorem outcomeStep_found {z place : Nat} {f : Search} (hg : g = .found n z place f) : outcomeStep s =
    askHold ⟨q, k, paper, cls, order, g⟩ n (some (z, place))
      (fun _ s => serve ⟨q, k, paper, cls, order, .searching f⟩ s) s := by
  subst hg
  have fresh := not_stale (paper := paper) (cls := cls) (order := order) (g := .found n z place f) hk hst
  rw [outcomeStep, hs]
  dsimp only
  rw [readSlot_clean hc, fresh, hk]
  simp [hx, Allocation.withStage]

theorem outcomeStep_preplaced (hg : g = .preplaced n) : outcomeStep s =
    askHold ⟨q, k, paper, cls, order, g⟩ n none (fun why s => preplaceMissed ⟨q, k, paper, cls, order, g⟩ n
      (preplaceReasonOf why) (serve ⟨q, k, paper, cls, order, .searching (.first order)⟩ s)) s := by
  subst hg
  have fresh := not_stale (paper := paper) (cls := cls) (order := order) (g := .preplaced n) hk hst
  rw [outcomeStep, hs]
  dsimp only
  rw [readSlot_clean hc, fresh, hk]
  simp [hx, Allocation.withStage]

end

/-! ### The hold asked, and refused (R44, R47) -/

theorem askHold_refused (hc : s.clean = true) {a : Allocation} {why : Reason} (h : s.holdRefusal n a.paper false = some why)
    (f : Option (Nat × Nat)) (m : Reason → State → State) : askHold a n f m s = m why s := by
  unfold askHold
  dsimp only
  rw [readAround_clean hc, h]

/-- The reason of a refused hold, as PREPLACE MISSED codes it. -/
theorem holdRefusal_code (hr : s.seat? n = some r)
    (h : r.suspect = true ∨ r.state ≠ .free ∨ s.spacingHolds paper n = false) : ∃ why, s.holdRefusal n paper false = some why
      ∧ (preplaceReasonOf why).ctorIdx = if r.suspect then 1 else if r.state ≠ .free then 2 else 5 := by
  cases hs : r.suspect with
  | true => exact ⟨_, holdRefusal_suspect hr hs, rfl⟩
  | false =>
    by_cases hf : r.state = .free
    · have close : s.spacingHolds paper n = false := by simpa [hs, hf] using h
      exact ⟨_, holdRefusal_conflict hr hs hf close, by simp [hf]; rfl⟩
    · exact ⟨_, holdRefusal_notFree hr hs hf, by simp [hf]; rfl⟩

/-! ### A seat held for the candidate (R48, R53) -/

theorem outcomeAnswer_seat {l : List Nat} (h : s.labelOf n = some l) : s.outcomeAnswer (.seat n) = .seat l := by
  change DoorAnswer.seat ((s.labelOf n).getD []) = _
  rw [h]
  rfl

theorem outcomeReply_seat {l : List Nat} (h : s.labelOf n = some l) :
    s.outcomeReply (.seat n) = ⟨.done, .none, u16 n :: labelFields (some l)⟩ := by
  change Answer.ok (u16 n :: Machine.labelFields (s.labelOf n)) = _
  rw [h]
  rfl

/-- The part with the cursors that an outcome leaves. -/
def State.withCursors (s : State) (cur : Table Nat) : State := { s with sal := { s.sal with cursors := cur } }

/-- The hold taken: by a search at its place, whose cursor moves, or by pre-placement. -/
def State.Taken (s : State) (paper n : Nat) (g : Stage) (bySearch : Bool) (cur : Table Nat) : Prop :=
  (∃ z place f, g = .found n z place f ∧ bySearch = true
      ∧ cur = s.sal.cursors.put (paper * 8 + z) (if place + 1 < s.seatCount z then place + 1 else 0))
    ∨ (g = .preplaced n ∧ bySearch = false ∧ cur = s.sal.cursors)

theorem outcomeStep_taken {g : Stage} {b : Bool} {cur : Table Nat}
    (hs : s.sal.serving = some ⟨q, k, paper, cls, order, g⟩) (hc : s.clean = true) (hk : s.slot? k = some x)
    (hx : x.suspect = false) (hst : x.cand.state = if q = .retry then .waiting else .expected)
    (hg : s.Taken paper n g b cur) (h : s.holdRefusal n paper false = none) :
    outcomeStep s = writeSeat ⟨q, k, paper, cls, order, g⟩ n b (s.withCursors cur) := by
  rcases hg with ⟨z, place, f, hg, rfl, rfl⟩ | ⟨hg, rfl, rfl⟩
  · rw [outcomeStep_found hs hc hk hx hst hg]
    unfold askHold
    dsimp only
    rw [readAround_clean hc, h]
    rfl
  · rw [outcomeStep_preplaced hs hc hk hx hst hg]
    unfold askHold
    dsimp only
    rw [readAround_clean hc, h]
    rfl

/-- The candidate given the seat by its admission: the seat held, the record ADMITTED with the time, the allocation
over. -/
def State.admittedTo (s : State) (k : Nat) (x : Slot) (n : Nat) (r : Seat) (walk : Nat) (cur : Table Nat) : State :=
  let c : Candidate := { x.cand.admittedAt n walk with admTime := some s.htb.time }
  { s with
    hmu := { s.hmu with seats := s.hmu.seats.put n (r.heldFor k x.cand.paper false) }
    rsu := { s.rsu with slots := s.rsu.slots.put k (.write c x.clock false) }
    dbc := s.dbc.afterSeat n r (r.heldFor k x.cand.paper false)
    sal := { s.sal with serving := none, cursors := cur } }

section
variable (hk : s.slot? k = some x) (hx : x.suspect = false) (hp : s.paper? x.cand.paper = some p) (hr : s.seat? n = some r)
  (g : Stage) (b : Bool) (cur : Table Nat)
include hk hx hp hr

theorem writeSeat_admission (ha : s.Asked q number) : writeSeat ⟨q, k, x.cand.paper, cls, order, g⟩ n b (s.withCursors cur) =
    giveClock k ((s.admittedTo k x n r p.walk cur).answering q number (.seat (labelOf r))
      ⟨.done, .none, u16 n :: labelFields (some (labelOf r))⟩) := by
  have seated := seated_eq (s := s.withCursors cur) (override := false) hk hx hr p.walk
  have limit : (holdSeat n k x.cand.paper false (s.withCursors cur)).walkLimit x.cand.paper = p.walk :=
    seated_walkLimit (u := s.withCursors cur) hp hr
  have written : modCand k (fun c => { c with admTime := some s.htb.time })
      (stopServing ((s.withCursors cur).seated k x n r false p.walk)) = s.admittedTo k x n r p.walk cur := by
    refine (Slot.eq_write_of_readable (s := stopServing ((s.withCursors cur).seated k x n r false p.walk))
      (x := .write (x.cand.admittedAt n p.walk) x.clock false) rfl _ ((Table.find_put ..).trans (if_pos rfl))).trans ?_
    exact congrArg (fun t => ({ s.admittedTo k x n r p.walk cur with rsu := { s.rsu with slots := t } } : State))
      (Table.put_put ..)
  have label : (s.admittedTo k x n r p.walk cur).labelOf n = some (labelOf r) := by
    have find : (s.admittedTo k x n r p.walk cur).seat? n = some (r.heldFor k x.cand.paper false) :=
      (Table.find_put ..).trans (if_pos rfl)
    rw [State.labelOf, find]
    rfl
  rw [writeSeat]
  dsimp only
  rw [limit, seated, ha.not_retry]
  refine (if_neg (by nofun)).trans (congrArg (giveClock k) ?_)
  refine (congrArg (answerAdmission q (.seat n)) written).trans ?_
  rw [answerAdmission_eq (s := s.admittedTo k x n r p.walk cur) (number := number) ha]
  rw [outcomeAnswer_seat label, outcomeReply_seat label]

/-- The part with a waiting candidate given the seat by a try of the walk, before the walk goes on. -/
def State.placedBy (s : State) (k : Nat) (x : Slot) (n : Nat) (r : Seat) (walk : Nat) (cur : Table Nat) : State :=
  stopServing (leaveWaitList k ((s.withCursors cur).seated k x n r false walk))

theorem writeSeat_retry (hroom : s.sli.notices.length < 64) : writeSeat ⟨.retry, k, x.cand.paper, cls, order, g⟩ n b
    (s.withCursors cur) = afterTry ((s.placedBy k x n r p.walk cur).told [⟨.placed, s.htb.time,
      [u16 k, u32 x.cand.number, u8 x.cand.paper, u16 n] ++ labelFields (some (labelOf r)) ++ [u8 b.toNat]⟩]) := by
  have seated := seated_eq (s := s.withCursors cur) (override := false) hk hx hr p.walk
  have limit : (holdSeat n k x.cand.paper false (s.withCursors cur)).walkLimit x.cand.paper = p.walk :=
    seated_walkLimit (u := s.withCursors cur) hp hr
  have find : (leaveWaitList k ((s.withCursors cur).seated k x n r false p.walk)).slot? k =
      some (.write (x.cand.admittedAt n p.walk) x.clock false) := (Table.find_put ..).trans (if_pos rfl)
  have label : (leaveWaitList k ((s.withCursors cur).seated k x n r false p.walk)).labelFields (some n) =
      labelFields (some (labelOf r)) := seated_label (s.withCursors cur) k x n r false p.walk
  rw [writeSeat]
  dsimp only
  rw [limit, seated]
  refine (if_pos rfl).trans (congrArg (fun t => afterTry (stopServing t))
    (?_ : _ = State.told (leaveWaitList k ((s.withCursors cur).seated k x n r false p.walk)) _))
  rw [placedNotice, find]
  dsimp only
  rw [label]
  exact notify_told (s := leaveWaitList k ((s.withCursors cur).seated k x n r false p.walk)) hroom ..

end

/-! ### No seat found (R48) -/

/-- The part with the candidate WAITING at the tail of the wait list, the allocation over. -/
def State.madeWaiting (s : State) (k : Nat) (x : Slot) : State :=
  let c : Candidate := { x.cand with state := .waiting, source := none, admTime := some s.htb.time }
  { s with
    rsu := { s.rsu with slots := s.rsu.slots.put k (.write c x.clock false) }
    sal := { s.sal with serving := none, wait := s.sal.wait ++ [k] } }

/-- The part with the candidate back in its state, or ABSENT, the allocation over. -/
def State.listedFull (s : State) (k : Nat) (x : Slot) (closed : Bool) : State :=
  let c : Candidate := { x.cand with source := none, state := if closed then .absent else x.cand.state }
  { s with
    rsu := { s.rsu with slots := s.rsu.slots.put k (.write c x.clock false) }
    sal := { s.sal with serving := none } }

section
variable {g : Stage} (hk : s.slot? k = some x) (hx : x.suspect = false) (hp : s.paper? x.cand.paper = some p)
  (ha : s.Asked q number)
include hk hx ha

theorem writeNoSeat_wait (hw : s.sal.wait.length < 32) : writeNoSeat ⟨q, k, paper, cls, order, g⟩ s =
    giveClock k ((s.madeWaiting k x).answering q number .wait ⟨.done, .none, o16 none :: labelFields none⟩) := by
  have written : stopServing { modCand k (fun c => { c with
      state := .waiting, source := none, admTime := some s.htb.time }) s with
      sal := { s.sal with wait := s.sal.wait ++ [k] } } = s.madeWaiting k x := by
    rw [Slot.eq_write_of_readable hx _ hk]
    rfl
  rw [writeNoSeat, ha.not_retry]
  refine (if_neg (by nofun)).trans ((if_pos hw).trans (congrArg (giveClock k) ?_))
  refine (congrArg (answerAdmission q .wait) written).trans ?_
  rw [answerAdmission_eq (s := s.madeWaiting k x) (number := number) ha]
  rfl

include hp

theorem writeNoSeat_listFull (hw : 32 ≤ s.sal.wait.length) : writeNoSeat ⟨q, k, x.cand.paper, cls, order, g⟩ s =
    ((s.listedFull k x p.admClosed).answering q number (.refused .listFull) ⟨.refused, .full, []⟩).told
      (if p.admClosed then [⟨.absent, s.htb.time, [u8 x.cand.paper, u16 1]⟩] else []) := by
  have closed : ((s.paper? x.cand.paper).map (·.admClosed) == some true) = p.admClosed := by
    rw [hp]
    cases h : p.admClosed <;> simp [h]
  have written : stopServing (modCand k (fun c => { c with
      source := none, state := if p.admClosed then .absent else c.state }) s) = s.listedFull k x p.admClosed := by
    rw [Slot.eq_write_of_readable hx _ hk]
    rfl
  have answered : answerAdmission q .listFull (s.listedFull k x p.admClosed) =
      (s.listedFull k x p.admClosed).answering q number (.refused .listFull) ⟨.refused, .full, []⟩ :=
    answerAdmission_eq (s := s.listedFull k x p.admClosed) ha .listFull
  rw [writeNoSeat, ha.not_retry]
  refine (if_neg (by nofun)).trans ((if_neg (Nat.not_lt.mpr hw)).trans ?_)
  unfold writeListFull
  dsimp only
  rw [closed, written, answered]
  cases hcl : p.admClosed with
  | false => exact (told_nil _).symm
  | true =>
    obtain ⟨room, time⟩ := answering_room (s := s.listedFull k x true) ha (.refused .listFull) ⟨.refused, .full, []⟩
    refine (notify_told room ..).trans ?_
    rw [time]
    rfl

end

/-! ### The outcomes as the statement names them -/

/-- Of slots the named one alone, and of the other blocks what an outcome does not name, is unchanged. -/
def State.KeptBut (s t : State) (k : Nat) : Prop :=
  (∀ m, m ≠ k → t.slot? m = s.slot? m) ∧ t.ssu = s.ssu ∧ t.htb = s.htb ∧ t.clu = s.clu ∧ t.mru = s.mru
    ∧ t.fcu = s.fcu ∧ t.hmu.zones = s.hmu.zones ∧ t.hmu.rows = s.hmu.rows ∧ t.dbc.calls = s.dbc.calls

/-- The seat is held for the candidate, and no other seat has changed. -/
def State.HeldFor (s t : State) (k paper n : Nat) (r : Seat) : Prop :=
  t.seat? n = some (r.heldFor k paper false) ∧ ∀ m, m ≠ n → t.seat? m = s.seat? m

/-- The allocator as a walk goes on after a try, or ends. -/
def Sal.afterTry (l : Sal) : Sal :=
  if l.wait.any l.span.contains then { l with reqRetry := true } else l.walkEnded

theorem afterTry_eq (s : State) : afterTry s = { s with sal := s.sal.afterTry } := by
  have tried : s.sal.untried.isEmpty = !s.sal.wait.any s.sal.span.contains := by
    rw [Sal.untried, Bool.eq_iff_iff]
    simp
  rw [Machine.afterTry, Sal.afterTry, tried]
  cases s.sal.wait.any s.sal.span.contains <;> rfl

theorem giveClock_answering {w : Table Slot} {c : Candidate} {g : Clock} (hu : u.rsu.slots = w.put k (.write c g false))
    (hp : u.paper? c.paper = some p) (ho : p.state ≠ .closed ∧ (p.state = .writing ∨ p.state = .overtime →
      p.elapsed < extendedTime p.duration c.allowance)) (a : DoorAnswer) (reply : Answer) :
    giveClock k (u.answering q number a reply) =
      (u.answering q number a reply).withSlots (w.put k (.write c (c.givenClock p u.ssu.held g) false)) := by
  obtain ⟨d, e, b, h⟩ := answering_rest u q number a reply
  rw [h]
  exact giveClock_open hu hp ho

section
variable (hk : s.slot? k = some x) (hx : x.suspect = false) (hp : s.paper? x.cand.paper = some p)
include hk hx hp

section
variable (hr : s.seat? n = some r) (g : Stage) (b : Bool) (cur : Table Nat)
include hr

section
variable (ha : s.Asked q number)
include ha

theorem admission_open (hf : r.state = .free) (ho : p.state ≠ .closed ∧ (p.state = .writing ∨ p.state = .overtime →
      p.elapsed < extendedTime p.duration x.cand.allowance)) :
    let t := writeSeat ⟨q, k, x.cand.paper, cls, order, g⟩ n b (s.withCursors cur)
    let c : Candidate := { x.cand.admittedAt n p.walk with admTime := some s.htb.time }
    s.KeptBut t k ∧ s.HeldFor t k x.cand.paper n r
      ∧ s.Answered t q number (.seat (labelOf r)) ⟨.done, .none, u16 n :: labelFields (some (labelOf r))⟩ []
      ∧ t.slot? k = (s.withSlot k c (x.cand.givenClock p s.ssu.held x.clock)).slot? k
      ∧ t.sal = { s.sal with serving := none, cursors := cur } := by
  dsimp only
  rw [writeSeat_admission hk hx hp hr g b cur ha, giveClock_answering (u := s.admittedTo k x n r p.walk cur) rfl hp ho]
  have answered := answered_of (u := s.admittedTo k x n r p.walk cur) (s := s) (q := q) (number := number)
    (a := .seat (labelOf r)) (reply := ⟨.done, .none, u16 n :: labelFields (some (labelOf r))⟩) (more := [])
    (rest := s.rsu.slots.put k (.write { x.cand.admittedAt n p.walk with admTime := some s.htb.time }
      (x.cand.givenClock p s.ssu.held x.clock) false)) rfl rfl rfl rfl (slotOf_put rfl rfl rfl number)
  rw [told_nil] at answered
  refine ⟨?_, ?_, answered, ?_, ?_⟩
  all_goals
    obtain ⟨d, e, l, hrest⟩ := answering_rest (s.admittedTo k x n r p.walk cur) q number (.seat (labelOf r))
      ⟨.done, .none, u16 n :: labelFields (some (labelOf r))⟩
    rw [hrest]
  · exact ⟨fun m hm => (Table.find_put ..).trans (if_neg hm), rfl, rfl, rfl, rfl, rfl, rfl, rfl,
      (Dbc.afterSeat_calls_eq ..).trans (if_neg (by simp [hf]))⟩
  · exact ⟨(Table.find_put ..).trans (if_pos rfl), fun m hm => (Table.find_put ..).trans (if_neg hm)⟩
  · rfl
  · rfl

/-- An admission that finds no time left, or a closed paper: the seat is held and the candidate finished. -/
theorem admission_late (hst : p.state = .writing ∨ p.state = .overtime)
    (h : extendedTime p.duration x.cand.allowance ≤ p.elapsed) (hc : s.clean = true) :
    let t := writeSeat ⟨q, k, x.cand.paper, cls, order, g⟩ n b (s.withCursors cur)
    s.HeldFor t k x.cand.paper n r ∧ t.slot? k = some (.write
      (Candidate.over { x.cand.admittedAt n p.walk with admTime := some s.htb.time } .expired)
      ((Clock.runningFor p (extendedTime p.duration x.cand.allowance) 0 x.cand.breakBudget).ended .expired) false) := by
  dsimp only
  rw [writeSeat_admission hk hx hp hr g b cur ha]
  obtain ⟨room, -⟩ := answering_room (s := s.admittedTo k x n r p.walk cur) ha (.seat (labelOf r))
    ⟨.done, .none, u16 n :: labelFields (some (labelOf r))⟩
  obtain ⟨d, e, l, hrest⟩ := answering_rest (s.admittedTo k x n r p.walk cur) q number (.seat (labelOf r))
    ⟨.done, .none, u16 n :: labelFields (some (labelOf r))⟩
  rw [hrest] at room ⊢
  obtain ⟨map, slot⟩ := giveClock_expired (w := s.rsu.slots) (g := x.clock) (n := n)
    (c := { x.cand.admittedAt n p.walk with admTime := some s.htb.time }) (v := { s.admittedTo k x n r p.walk cur with
      rsu := { (s.admittedTo k x n r p.walk cur).rsu with door0 := d, door1 := e }, sli := l }) rfl hp rfl hc room hst h
  refine ⟨⟨?_, fun m hm => ?_⟩, slot⟩
  · rw [State.seat?, map]
    exact (Table.find_put ..).trans (if_pos rfl)
  · rw [State.seat?, map]
    exact (Table.find_put ..).trans (if_neg hm)

theorem admission_closed (hst : p.state = .closed) :
    let t := writeSeat ⟨q, k, x.cand.paper, cls, order, g⟩ n b (s.withCursors cur)
    s.HeldFor t k x.cand.paper n r ∧ t.slot? k = some (.write
      (Candidate.over { x.cand.admittedAt n p.walk with admTime := some s.htb.time } .ended)
      (Clock.stoppedFor x.cand) false) := by
  dsimp only
  rw [writeSeat_admission hk hx hp hr g b cur ha]
  obtain ⟨d, e, l, hrest⟩ := answering_rest (s.admittedTo k x n r p.walk cur) q number (.seat (labelOf r))
    ⟨.done, .none, u16 n :: labelFields (some (labelOf r))⟩
  rw [hrest]
  obtain ⟨map, slot⟩ := giveClock_closed (w := s.rsu.slots) (g := x.clock) (n := n)
    (c := { x.cand.admittedAt n p.walk with admTime := some s.htb.time }) (v := { s.admittedTo k x n r p.walk cur with
      rsu := { (s.admittedTo k x n r p.walk cur).rsu with door0 := d, door1 := e }, sli := l }) rfl hp rfl hst
  refine ⟨⟨?_, fun m hm => ?_⟩, slot⟩
  · rw [State.seat?, map]
    exact (Table.find_put ..).trans (if_pos rfl)
  · rw [State.seat?, map]
    exact (Table.find_put ..).trans (if_neg hm)

end

theorem retry_placed (hf : r.state = .free) (hs : ∃ a, s.sal.serving = some a ∧ a.requester = .retry)
    (hw : k ∈ s.sal.wait)
    (hroom : s.sli.notices.length < 64) :
    let t := writeSeat ⟨.retry, k, x.cand.paper, cls, order, g⟩ n b (s.withCursors cur)
    s.KeptBut t k ∧ s.HeldFor t k x.cand.paper n r
      ∧ t.slot? k = (s.withSlot k (x.cand.admittedAt n p.walk) x.clock).slot? k
      ∧ t.rsu.door0 = s.rsu.door0 ∧ t.rsu.door1 = s.rsu.door1
      ∧ t.sli = { s.sli with notices := s.sli.notices ++ [⟨.placed, s.htb.time,
          [u16 k, u32 x.cand.number, u8 x.cand.paper, u16 n] ++ labelFields (some (labelOf r)) ++ [u8 b.toNat]⟩] }
      ∧ t.sal = Sal.afterTry { s.sal with
          serving := none, cursors := cur
          wait := s.sal.wait.filter (· != k), span := s.sal.span.filter (· != k) } := by
  dsimp only
  rw [writeSeat_retry hk hx hp hr g b cur hroom, afterTry_eq]
  have left : (s.placedBy k x n r p.walk cur).sal = { s.sal with
      serving := none, cursors := cur
      wait := s.sal.wait.filter (· != k), span := s.sal.span.filter (· != k) } :=
    congrArg (fun l : Sal => { l with serving := none })
      (Sal.left_stays (l := { s.sal with cursors := cur }) hw (.inr (.inl hs)))
  refine ⟨⟨fun m hm => (Table.find_put ..).trans (if_neg hm), rfl, rfl, rfl, rfl, rfl, rfl, rfl,
      (Dbc.afterSeat_calls_eq ..).trans (if_neg (by simp [hf]))⟩,
    ⟨(Table.find_put ..).trans (if_pos rfl), fun m hm => (Table.find_put ..).trans (if_neg hm)⟩, rfl, rfl, rfl, rfl, ?_⟩
  exact congrArg Sal.afterTry left

end

section
variable (ha : s.Asked q number) (g : Stage)
include ha

theorem admission_waits (hw : s.sal.wait.length < 32) (ho : p.state ≠ .closed ∧ (p.state = .writing ∨ p.state = .overtime →
      p.elapsed < extendedTime p.duration x.cand.allowance)) :
    let t := writeNoSeat ⟨q, k, x.cand.paper, cls, order, g⟩ s
    let c : Candidate := { x.cand with state := .waiting, source := none, admTime := some s.htb.time }
    s.KeptBut t k ∧ t.hmu = s.hmu ∧ s.Answered t q number .wait ⟨.done, .none, o16 none :: labelFields none⟩ []
      ∧ t.slot? k = (s.withSlot k c (x.cand.givenClock p s.ssu.held x.clock)).slot? k
      ∧ t.sal = { s.sal with serving := none, wait := s.sal.wait ++ [k] } := by
  dsimp only
  rw [writeNoSeat_wait hk hx ha hw, giveClock_answering (u := s.madeWaiting k x) rfl hp ho]
  have answered := answered_of (u := s.madeWaiting k x) (s := s) (q := q) (number := number)
    (a := .wait) (reply := ⟨.done, .none, o16 none :: labelFields none⟩) (more := [])
    (rest := s.rsu.slots.put k (.write { x.cand with state := .waiting, source := none, admTime := some s.htb.time }
      (x.cand.givenClock p s.ssu.held x.clock) false)) rfl rfl rfl rfl (slotOf_put rfl rfl rfl number)
  rw [told_nil] at answered
  refine ⟨?_, ?_, answered, ?_, ?_⟩
  all_goals
    obtain ⟨d, e, l, hrest⟩ := answering_rest (s.madeWaiting k x) q number .wait ⟨.done, .none, o16 none :: labelFields none⟩
    rw [hrest]
  · exact ⟨fun m hm => (Table.find_put ..).trans (if_neg hm), rfl, rfl, rfl, rfl, rfl, rfl, rfl, rfl⟩
  all_goals rfl

theorem admission_listFull (hw : 32 ≤ s.sal.wait.length) :
    let t := writeNoSeat ⟨q, k, x.cand.paper, cls, order, g⟩ s
    let c : Candidate := { x.cand with source := none, state := if p.admClosed then .absent else x.cand.state }
    s.KeptBut t k ∧ t.hmu = s.hmu ∧ s.Answered t q number (.refused .listFull) ⟨.refused, .full, []⟩
        (if p.admClosed then [⟨.absent, s.htb.time, [u8 x.cand.paper, u16 1]⟩] else [])
      ∧ t.slot? k = (s.withSlot k c x.clock).slot? k ∧ t.sal = { s.sal with serving := none } := by
  dsimp only
  rw [writeNoSeat_listFull hk hx hp ha hw]
  generalize (if p.admClosed then ([⟨.absent, s.htb.time, [u8 x.cand.paper, u16 1]⟩] : List Notice) else []) = more
  have answered := answered_of (u := s.listedFull k x p.admClosed) (s := s) (q := q) (number := number)
    (a := .refused .listFull) (reply := ⟨.refused, .full, []⟩) (more := more)
    (rest := (s.listedFull k x p.admClosed).rsu.slots) rfl rfl rfl rfl (by cases q <;> rfl)
  obtain ⟨d, e, l, hrest⟩ := answering_rest (s.listedFull k x p.admClosed) q number (.refused .listFull) ⟨.refused, .full, []⟩
  rw [hrest] at answered ⊢
  exact ⟨⟨fun m hm => (Table.find_put ..).trans (if_neg hm), rfl, rfl, rfl, rfl, rfl, rfl, rfl, rfl⟩, rfl, answered, rfl, rfl⟩

end
end

theorem admission_suspect (ha : s.Asked q number) :
    s.Answered (endSuspect q s) q number (.refused .suspect) ⟨.refused, .suspect, []⟩ []
      ∧ (endSuspect q s).rsu.slots = s.rsu.slots ∧ (endSuspect q s).hmu = s.hmu
      ∧ (endSuspect q s).sal = { s.sal with serving := none } := by
  have step : endSuspect q s = (stopServing s).answering q number (.refused .suspect) ⟨.refused, .suspect, []⟩ := by
    rw [endSuspect, ha.not_retry]
    exact (if_neg (by nofun)).trans (answerAdmission_eq (s := stopServing s) ha .suspect)
  rw [step]
  have answered := answered_of (u := stopServing s) (s := s) (q := q) (number := number)
    (a := .refused .suspect) (reply := ⟨.refused, .suspect, []⟩) (more := [])
    (rest := s.rsu.slots) rfl rfl rfl rfl (by cases q <;> rfl)
  rw [told_nil] at answered
  obtain ⟨d, e, l, hrest⟩ := answering_rest (stopServing s) q number (.refused .suspect) ⟨.refused, .suspect, []⟩
  rw [hrest] at answered ⊢
  exact ⟨answered, rfl, rfl, rfl⟩

/-- The hold refused: the search goes on behind the place, or pre-placement ends. -/
theorem outcomeStep_missed {g : Stage} (hs : s.sal.serving = some ⟨q, k, paper, cls, order, g⟩) (hc : s.clean = true)
    (hk : s.slot? k = some x) (hx : x.suspect = false) (hst : x.cand.state = if q = .retry then .waiting else .expected)
    (hr : s.seat? n = some r) (h : r.suspect = true ∨ r.state ≠ .free ∨ s.spacingHolds paper n = false) :
    (∀ z place f, g = .found n z place f → outcomeStep s = serve ⟨q, k, paper, cls, order, .searching f⟩ s)
      ∧ (g = .preplaced n → q ≠ .retry → outcomeStep s =
        notify .preplaceMissed ([u16 k, u32 x.cand.number, u16 n] ++ labelFields (some (labelOf r))
            ++ [u8 (if r.suspect then 1 else if r.state ≠ .free then 2 else 5)])
          (serve ⟨q, k, paper, cls, order, .searching (.first order)⟩ s)) := by
  obtain ⟨why, refused, code⟩ := holdRefusal_code hr h
  refine ⟨fun z place f hg => ?_, fun hg hq => ?_⟩
  · rw [outcomeStep_found hs hc hk hx hst hg]
    exact askHold_refused (a := ⟨q, k, paper, cls, order, g⟩) hc refused _ _
  · rw [outcomeStep_preplaced hs hc hk hx hst hg]
    refine (askHold_refused (a := ⟨q, k, paper, cls, order, g⟩) hc refused _ _).trans ?_
    rw [preplaceMissed]
    dsimp only
    have find : (serve ⟨q, k, paper, cls, order, .searching (.first order)⟩ s).slot? k = some x := hk
    have label : (serve ⟨q, k, paper, cls, order, .searching (.first order)⟩ s).labelFields (some n) =
      labelFields (some (labelOf r)) := labelFields_seat hr
    rw [find, label, code]
    exact if_neg (by simpa using hq)

/-- Settles O16: each outcome step is one of the writes above, by the stage its allocation has come to. -/
theorem doorAllocationOutcome : Obligations.DoorAllocationOutcome := by
  intro s k number paper cls order x p q hq hc hk hpaper hp
  subst hpaper
  have ran {t : State} (h : outcomeStep s = t) : exec .allocationOutcome s = .next t := h ▸ exec_allocationOutcome hq
  have expected (ha : s.Asked q number) (h : x.cand.state = .expected) :
      x.cand.state = if q = .retry then .waiting else .expected := by
    rw [h, if_neg (by simpa using ha.not_retry)]
  refine ⟨fun n g b cur r hs hx hr hg => ⟨fun hu hf hsp => ?_, fun h hst => ?_⟩, fun hs hx hst ha => ⟨fun hw ho => ?_, fun hw => ?_⟩,
    fun hs hretry hx hst => ?_, fun g hs hg hx ha => ⟨_, ran (outcomeStep_suspect hs hc hk hg hx), admission_suspect ha⟩⟩
  · have taken (hst : x.cand.state = if q = .retry then .waiting else .expected) :=
      ran (outcomeStep_taken hs hc hk hx hst hg (holdRefusal_none hr hu hf (.inr hsp)))
    refine ⟨fun hst ha ho => ?_, fun hst ha hw hl => ?_, fun hst ha hcl => ?_, fun hretry hst hw hroom => ?_⟩
    · obtain ⟨kept, held, answered, slot, sal⟩ := admission_open (cls := cls) (order := order) hk hx hp hr g b cur ha hf ho
      refine ⟨_, taken (expected ha hst), kept, held, answered, slot.trans ?_, sal⟩
      unfold Candidate.givenClock
      cases p.state <;> rfl
    · obtain ⟨held, slot⟩ := admission_late (cls := cls) (order := order) hk hx hp hr g b cur ha hw hl hc
      exact ⟨_, _, taken (expected ha hst), held, slot, rfl, rfl⟩
    · obtain ⟨held, slot⟩ := admission_closed (cls := cls) (order := order) hk hx hp hr g b cur ha hcl
      exact ⟨_, _, taken (expected ha hst), held, slot, rfl, rfl⟩
    · subst hretry
      exact ⟨_, taken hst, retry_placed hk hx hp hr g b cur hf ⟨_, hs, rfl⟩ hw hroom⟩
  · obtain ⟨found, preplaced⟩ := outcomeStep_missed hs hc hk hx hst hr h
    exact ⟨fun z place f hg => ran (found z place f hg), fun hg hretry => ran (preplaced hg hretry)⟩
  · obtain ⟨kept, map, answered, slot, sal⟩ := admission_waits (cls := cls) (order := order) hk hx hp ha .noSeat hw ho
    refine ⟨_, ran (outcomeStep_noSeat hs hc hk hx (expected ha hst) rfl), kept, map, answered, slot.trans ?_, sal⟩
    unfold Candidate.givenClock
    cases p.state <;> rfl
  · obtain ⟨kept, map, answered, slot, sal⟩ := admission_listFull (cls := cls) (order := order) hk hx hp ha .noSeat hw
    rw [hst] at slot
    exact ⟨_, ran (outcomeStep_noSeat hs hc hk hx (expected ha hst) rfl), kept, map, answered, slot, sal⟩
  · subst hretry
    refine ran ((outcomeStep_noSeat hs hc hk hx hst rfl).trans ?_)
    exact (if_pos rfl).trans (afterTry_eq (stopServing s))

end Sys2Proof.Machine

/-! PROOFS. Request records and scan records spell their commands (O58). -/

namespace Sys2Proof.Machine

set_option Elab.async false

/-! ### Fields as the numbers their characters carry (section 12.3, R184) -/

/-- The numbers the characters of some fields carry. -/
def charsOf (fs : List Field) : List Nat := (fs.flatMap Field.bytes).map BitVec.toNat

@[simp] theorem charsOf_nil : charsOf [] = [] := rfl

theorem charsOf_append (fs gs : List Field) : charsOf (fs ++ gs) = charsOf fs ++ charsOf gs := by
  simp [charsOf]

theorem charsOf_cons (f : Field) (fs : List Field) : charsOf (f :: fs) = f.bytes.map BitVec.toNat ++ charsOf fs := by
  simp [charsOf]

section
variable (fs : List Field) {n : Nat} {o : Option Nat}

theorem charsOf_u8 (h : fits1 n = true) : charsOf (u8 n :: fs) = n :: charsOf fs := by
  have small : n < 256 := by simpa [fits1] using h
  rw [charsOf_cons]
  simp [u8, Field.bytes, bytesOf, Nat.mod_eq_of_lt small]

theorem charsOf_flag (b : Bool) : charsOf (flag b :: fs) = b.toNat :: charsOf fs := by
  cases b <;> exact charsOf_u8 fs rfl

theorem charsOf_u16 : charsOf (u16 n :: fs) = n / 256 % 256 :: n % 256 :: charsOf fs := by
  rw [charsOf_cons]
  simp [u16, Field.bytes, bytesOf]

theorem charsOf_u24 : charsOf (u24 n :: fs) = n / 256 / 256 % 256 :: n / 256 % 256 :: n % 256 :: charsOf fs := by
  rw [charsOf_cons]
  simp [u24, Field.bytes, bytesOf]

theorem charsOf_u32 : charsOf (u32 n :: fs) =
    n / 256 / 256 / 256 % 256 :: n / 256 / 256 % 256 :: n / 256 % 256 :: n % 256 :: charsOf fs := by
  rw [charsOf_cons]
  simp [u32, Field.bytes, bytesOf]

theorem charsOf_o8 (h : opts1 o = true) : charsOf (o8 o :: fs) = o.getD 255 :: charsOf fs := by
  cases o with
  | none => rfl
  | some n =>
    have small : n + 1 < 256 := by simpa [opts1, fitsOpt] using h
    exact charsOf_u8 fs (by simp [fits1]; omega)

theorem charsOf_o16 : charsOf (o16 o :: fs) = o.getD 65535 / 256 % 256 :: o.getD 65535 % 256 :: charsOf fs := by
  cases o with
  | none => rfl
  | some n => exact charsOf_u16 fs

theorem charsOf_o24 : charsOf (o24 o :: fs) = o.getD 16777215 / 256 / 256 % 256 :: o.getD 16777215 / 256 % 256
    :: o.getD 16777215 % 256 :: charsOf fs := by
  cases o with
  | none => rfl
  | some n => exact charsOf_u24 fs

theorem charsOf_items {l : List Nat} (h : l.all fits1 = true) : charsOf (l.map u8) = l := by
  induction l with
  | nil => rfl
  | cons n l ih =>
    rw [List.all_cons, Bool.and_eq_true] at h
    rw [List.map_cons, charsOf_u8 _ h.1, ih h.2]

theorem charsOf_list8 {l : List Nat} {limit : Nat} (h : fitsList limit l = true) (hl : limit < 256) :
    charsOf (list8 l) = l.length :: l := by
  simp only [fitsList, Bool.and_eq_true, decide_eq_true_eq] at h
  have items : l.flatMap (fun n => [u8 n]) = l.map u8 := (List.map_eq_flatMap ..).symm
  rw [list8, listField, charsOf_u8 _ (by simp [fits1]; omega), items, charsOf_items h.2]

end

/-! ### Fields read back -/

section
variable {n : Nat} {o : Option Nat}

theorem n2_read (h : fits2 n = true) : n2 (n / 256 % 256) (n % 256) = n := by
  have small : n < 65536 := by simpa [fits2] using h
  unfold n2
  omega

theorem n3_read (h : fits3 n = true) : n3 (n / 256 / 256 % 256) (n / 256 % 256) (n % 256) = n := by
  have small : n < 16777216 := by simpa [fits3] using h
  unfold n3
  omega

theorem n4_read (h : fits4 n = true) :
    n4 (n / 256 / 256 / 256 % 256) (n / 256 / 256 % 256) (n / 256 % 256) (n % 256) = n := by
  have small : n < 4294967296 := by simpa [fits4] using h
  unfold n4
  omega

theorem opt1_read (h : opts1 o = true) : opt1 (o.getD 255) = o := by
  cases o with
  | none => rfl
  | some n =>
    have small : n + 1 < 256 := by simpa [opts1, fitsOpt] using h
    exact if_neg (by change ¬n = 255; omega)

theorem opt2_read (h : opts2 o = true) : opt2 (n2 (o.getD 65535 / 256 % 256) (o.getD 65535 % 256)) = o := by
  cases o with
  | none => rfl
  | some n =>
    have small : n + 1 < 65536 := by simpa [opts2, fitsOpt] using h
    rw [Option.getD_some, n2_read (by simp [fits2]; omega)]
    exact if_neg (by omega)

theorem opt3_read (h : opts3 o = true) : opt3 (n3 (o.getD 16777215 / 256 / 256 % 256) (o.getD 16777215 / 256 % 256)
    (o.getD 16777215 % 256)) = o := by
  cases o with
  | none => rfl
  | some n =>
    have small : n + 1 < 16777216 := by simpa [opts3, fitsOpt] using h
    rw [Option.getD_some, n3_read (by simp [fits3]; omega)]
    exact if_neg (by omega)

theorem flagByte_toNat (b : Bool) : flagByte b.toNat = b := by cases b <;> rfl

theorem takeList_append (l rest : List Nat) : takeList (l.length :: (l ++ rest)) = some (l, rest) := by
  simp [takeList]

end

/-! ### Bodies read back, kind by kind (R183) -/

/-- The body of a request fits its record and spells the request. -/
def Instr.ReadBack (i : Instr) (k : Nat) (fs : List Field) : Prop :=
  (charsOf fs).length ≤ 240 ∧ decodeBody k (charsOf fs) = some i

theorem decodeIndexed_list (make : Nat → List Nat → Instr) (p : Nat) (l : List Nat) :
    decodeIndexed make (p :: l.length :: l) = some (make p l) := by
  have taken := takeList_append l []
  rw [List.append_nil] at taken
  rw [decodeIndexed, taken]

section
variable {p : Nat} {l : List Nat} (hp : fits1 p = true)
include hp

theorem charsOf_indexed {limit : Nat} (hl : fitsList limit l = true) (h : limit < 256) :
    charsOf (u8 p :: list8 l) = p :: l.length :: l := by
  rw [charsOf_u8 _ hp, charsOf_list8 hl h]

theorem setZoneOrder_readBack (hl : fitsList 238 l = true) : Instr.ReadBack (.setZoneOrder p l) 49 (u8 p :: list8 l) := by
  have short : l.length ≤ 238 := by simp only [fitsList, Bool.and_eq_true, decide_eq_true_eq] at hl; exact hl.1
  rw [Instr.ReadBack, charsOf_indexed hp hl (by decide)]
  exact ⟨by simp only [List.length_cons]; omega, decodeIndexed_list ..⟩

theorem setWarnings_readBack (hl : fitsList 4 l = true) : Instr.ReadBack (.setWarnings p l) 50 (u8 p :: list8 l) := by
  have short : l.length ≤ 4 := by simp only [fitsList, Bool.and_eq_true, decide_eq_true_eq] at hl; exact hl.1
  rw [Instr.ReadBack, charsOf_indexed hp hl (by decide)]
  exact ⟨by simp only [List.length_cons]; omega, (if_pos short).trans (decodeIndexed_list ..)⟩

theorem collectorOn_readBack {size t : Option Nat} (hl : fitsList 235 l = true) (hs : opts1 size = true) (ht : opts2 t = true) :
    Instr.ReadBack (.collectorOn p l size t) 96 (u8 p :: list8 l ++ [o8 size, o16 t]) := by
  have short : l.length ≤ 235 := by simp only [fitsList, Bool.and_eq_true, decide_eq_true_eq] at hl; exact hl.1
  rw [Instr.ReadBack, charsOf_append, charsOf_indexed hp hl (by decide), charsOf_o8 _ hs, charsOf_o16, charsOf_nil]
  refine ⟨by simp; omega, ?_⟩
  change decodeCollectorOn (p :: l.length :: (l ++ _)) = _
  rw [decodeCollectorOn, takeList_append]
  dsimp only
  rw [opt1_read hs, opt2_read ht]

omit hp in
theorem decodeBody_paper (chars : List Nat) : decodeBody 48 chars = decodePaper chars := rfl

theorem definePaper_readBack {f : PaperFields} (hf : fitsPaper f = true) :
    Instr.ReadBack (.definePaper p f) 48 (u8 p :: paperFieldsOf f) := by
  obtain ⟨code, form, versions, reading, duration, late, first, last, breaks, booklets, walk, order, scheduled, penalty, wrong,
    sections⟩ := f
  simp only [fitsPaper, Bool.and_eq_true, beq_iff_eq, decide_eq_true_eq] at hf
  obtain ⟨⟨⟨⟨⟨⟨⟨⟨⟨⟨⟨⟨⟨⟨⟨⟨six, hcode⟩, hform⟩, hver⟩, hread⟩, hdur⟩, hlate⟩, hfirst⟩, hlast⟩, hbreaks⟩, hbook⟩, hwalk⟩, hsched⟩,
    hpen⟩, horder⟩, hsections⟩, hsum⟩ := hf
  obtain ⟨c0, c1, c2, c3, c4, c5, rfl⟩ : ∃ a b c d e g, code = [a, b, c, d, e, g] := by
    match code, six with
    | [a, b, c, d, e, g], _ => exact ⟨a, b, c, d, e, g, rfl⟩
  have chars : charsOf (u8 p :: paperFieldsOf ⟨[c0, c1, c2, c3, c4, c5], form, versions, reading, duration, late, first, last,
      breaks, booklets, walk, order, scheduled, penalty, wrong, sections⟩) =
      p :: c0 :: c1 :: c2 :: c3 :: c4 :: c5 :: form :: versions :: reading :: duration / 256 % 256 :: duration % 256 :: late
        :: first :: last :: breaks :: booklets :: walk.getD 65535 / 256 % 256 :: walk.getD 65535 % 256 :: order.length
        :: (order ++ scheduled.getD 16777215 / 256 / 256 % 256 :: scheduled.getD 16777215 / 256 % 256
          :: scheduled.getD 16777215 % 256 :: penalty :: wrong.toNat :: sections.length :: sections) := by
    rw [charsOf_u8 _ hp, paperFieldsOf]
    simp only [charsOf_append, charsOf_items hcode, charsOf_list8 horder (by decide), charsOf_list8 hsections (by decide),
      charsOf_u8, charsOf_u16, charsOf_o16, charsOf_o24, charsOf_flag, hform, hver, hread, hlate, hfirst, hlast,
      hbreaks, hbook, hpen, List.cons_append, List.nil_append, List.append_assoc]
  have last := takeList_append sections []
  rw [List.append_nil] at last
  rw [Instr.ReadBack, chars]
  refine ⟨by simp; omega, ?_⟩
  rw [decodeBody_paper, decodePaper, takeList_append]
  dsimp only
  rw [last]
  dsimp only
  rw [n2_read hdur, opt2_read hwalk, opt3_read hsched, flagByte_toNat]

end

/-- The fields of REPAIR CANDIDATE read back (R181). -/
theorem decodeCandidate_read {f : CandidateFields} (hf : fitsCandidate f = true) :
    (charsOf (candidateFieldsOf f)).length = 34 ∧ decodeCandidate (charsOf (candidateFieldsOf f)) = some f := by
  simp only [fitsCandidate, Bool.and_eq_true] at hf
  simp only [candidateFieldsOf, charsOf_nil, charsOf_u8, charsOf_u16, charsOf_u32, charsOf_o8, charsOf_o16, charsOf_o24, hf]
  refine ⟨rfl, Eq.trans (b := some _) rfl ?_⟩
  simp [n2_read, n4_read, opt1_read, opt2_read, opt3_read, hf]

theorem repairCandidate_readBack {k use : Nat} {f : Option CandidateFields} (hk : fits2 k = true) (hu : fits1 use = true)
    (hf : (f.map fitsCandidate).getD true = true) :
    Instr.ReadBack (.repairCandidate k use f) 131 ([u16 k, u8 use] ++ (f.map candidateFieldsOf).getD []) := by
  rw [Instr.ReadBack, charsOf_append, charsOf_u16, charsOf_u8 _ hu, charsOf_nil]
  cases f with
  | none =>
    refine ⟨by simp, Eq.trans (b := some _) rfl ?_⟩
    rw [n2_read hk]
  | some f =>
    obtain ⟨length, read⟩ := decodeCandidate_read (f := f) hf
    refine ⟨by simp [length], ?_⟩
    change decodeRepairCandidate (k / 256 % 256 :: k % 256 :: use :: charsOf (candidateFieldsOf f)) = _
    generalize charsOf (candidateFieldsOf f) = rest at length read
    cases rest with
    | nil => cases length
    | cons a rest =>
      refine Eq.trans (b := Option.map _ (decodeCandidate (a :: rest))) rfl ?_
      rw [read, n2_read hk]
      rfl

/-- Every request's body is read back: the five kinds with a list, or with fields that may be left out, by themselves, and
the others, whose bodies are of one length, by writing their characters out and reading each field again. -/
theorem readBack {i : Instr} {k : Nat} {fs : List Field} (hk : requestKind i = some k) (hf : requestFields i = some fs)
    (hw : i.wellFormed = true) : Instr.ReadBack i k fs := by
  cases i
  case definePaper p f =>
    cases hk
    cases hf
    simp only [Instr.wellFormed, Bool.and_eq_true] at hw
    exact definePaper_readBack hw.1 hw.2
  case setZoneOrder p l =>
    cases hk
    cases hf
    simp only [Instr.wellFormed, Bool.and_eq_true] at hw
    exact setZoneOrder_readBack hw.1 hw.2
  case setWarnings p l =>
    cases hk
    cases hf
    simp only [Instr.wellFormed, Bool.and_eq_true] at hw
    exact setWarnings_readBack hw.1 hw.2
  case collectorOn p l size t =>
    cases hk
    cases hf
    simp only [Instr.wellFormed, Bool.and_eq_true] at hw
    obtain ⟨⟨⟨hp, hl⟩, hs⟩, ht⟩ := hw
    exact collectorOn_readBack hp hl hs ht
  case repairCandidate n use f =>
    cases hk
    cases hf
    simp only [Instr.wellFormed, Bool.and_eq_true] at hw
    obtain ⟨⟨hn, hu⟩, hf⟩ := hw
    exact repairCandidate_readBack hn hu hf
  all_goals first | (cases hf; done) | (cases hk; done) | skip
  all_goals
    cases hk
    cases hf
    simp only [Instr.wellFormed, fitsSeat, Bool.and_eq_true] at hw
    refine ⟨by simp [charsOf_u8, charsOf_u16, charsOf_u24, charsOf_u32, charsOf_o8, charsOf_o16, hw], ?_⟩
    simp only [charsOf_nil, charsOf_u8, charsOf_u16, charsOf_u24, charsOf_u32, charsOf_o8, charsOf_o16, hw]
    refine Eq.trans (b := some _) rfl ?_
    simp [n2_read, n3_read, n4_read, opt1_read, opt2_read, hw]

/-! ### Whole station records (R167, R183) -/

theorem requestKind_lt {i : Instr} {k : Nat} (hk : requestKind i = some k) : k < 256 := by
  cases i <;> first | (cases hk; done) | (cases hk; decide)

theorem byteSum_concat (bs : List Byte) (b : Byte) : byteSum (bs ++ [b]) = byteSum bs + b := by
  simp [byteSum]

theorem byteSum_checked (bs : List Byte) : byteSum (bs ++ [checkCharacter bs]) = 0 := by
  rw [byteSum_concat, checkCharacter]
  bv_omega

section
variable {k : Nat} {body : List Byte} (hl : body.length ≤ 240)
include hl

theorem recordBytes_eq : recordBytes k body = BitVec.ofNat 8 k :: BitVec.ofNat 8 body.length ::
    (body ++ [checkCharacter (BitVec.ofNat 8 k :: BitVec.ofNat 8 body.length :: body)]) := by
  have whole : body.take Config.bodyLimit = body := List.take_of_length_le hl
  rw [recordBytes, whole]
  rfl

theorem recordBytes_length : (recordBytes k body).length ≤ 243 := by
  rw [recordBytes_eq hl]
  simp
  omega

theorem recordBytes_sum : byteSum (recordBytes k body) = 0 := by
  rw [recordBytes_eq hl]
  exact byteSum_checked (BitVec.ofNat 8 k :: BitVec.ofNat 8 body.length :: body)

theorem decodeRecord_recordBytes (hk : k < 256) : decodeRecord (recordBytes k body) = decodeBody k (body.map BitVec.toNat) := by
  have sum := recordBytes_sum (k := k) hl
  have length : (BitVec.ofNat 8 body.length).toNat = body.length := by
    rw [BitVec.toNat_ofNat]
    exact Nat.mod_eq_of_lt (by omega)
  have kind : (BitVec.ofNat 8 k).toNat = k := by
    rw [BitVec.toNat_ofNat]
    exact Nat.mod_eq_of_lt (by omega)
  rw [recordBytes_eq hl] at sum ⊢
  rw [decodeRecord, length, kind, List.dropLast_concat, (sumsToZero_iff _).mpr sum]
  exact if_pos (by simp [hl])

end

theorem requestRecord_reads {i : Instr} {bytes : List Byte} (hw : i.wellFormed = true) (h : requestRecord i = some bytes) :
    bytes.length ≤ 243 ∧ byteSum bytes = 0 ∧ decodeRecord bytes = some i := by
  obtain ⟨fs, hf, h⟩ := Option.bind_eq_some_iff.mp h
  obtain ⟨k, hk, rfl⟩ := Option.map_eq_some_iff.mp h
  obtain ⟨length, read⟩ := readBack hk hf hw
  rw [charsOf, List.length_map] at length
  exact ⟨recordBytes_length length, recordBytes_sum length, (decodeRecord_recordBytes length (requestKind_lt hk)).trans read⟩

/-- The lead flag is set on the first character alone. -/
theorem lineCharacters_record (k : Nat) (body : List Byte) :
    (lineCharacters (recordBytes k body)).map Prod.fst = recordBytes k body
      ∧ (lineCharacters (recordBytes k body)).map Prod.snd =
        true :: List.replicate ((recordBytes k body).length - 1) false := by
  refine ⟨by simp [recordBytes, lineCharacters, Function.comp_def], ?_⟩
  have length : (recordBytes k body).length - 1 = (body.take Config.bodyLimit ++ [checkCharacter (BitVec.ofNat 8 k
      :: BitVec.ofNat 8 (body.take Config.bodyLimit).length :: body.take Config.bodyLimit)]).length + 1 := by
    simp [recordBytes]
  rw [length, List.replicate_succ]
  simp [recordBytes, lineCharacters, Function.comp_def, List.map_const', List.replicate_succ']

/-! ### Scan link records (R142, R185) -/

theorem parityHolds_scanCharacter (b : Byte) : parityHolds (scanCharacter b) = true := by simp [parityHolds, scanCharacter]

/-- Noise that passes its check and is no record kind is discarded where the record begins. -/
theorem decodeScan_noise {noise bytes : List Byte} {b : Byte} (hn : ∀ c ∈ noise, scanKindByte c = false)
    (hb : scanKindByte b = true) : decodeScan ((noise ++ b :: bytes).map scanCharacter) = scanRecordOf (b :: bytes) := by
  have discarded : ((noise ++ b :: bytes).map scanCharacter).dropWhile (fun c => parityHolds c && !scanKindByte c.1) =
      (b :: bytes).map scanCharacter := by
    rw [List.map_append, List.dropWhile_append_of_pos]
    · rw [List.map_cons, List.dropWhile_cons_of_neg]
      simp [scanCharacter, hb]
    · intro c hc
      obtain ⟨d, hd, rfl⟩ := List.mem_map.mp hc
      rw [parityHolds_scanCharacter]
      simp [scanCharacter, hn d hd]
  have whole : ((b :: bytes).map scanCharacter).all parityHolds = true := by
    simp [parityHolds_scanCharacter]
  have same : ((b :: bytes).map scanCharacter).map (·.1) = b :: bytes := by
    rw [List.map_map]
    exact List.map_id _
  rw [decodeScan, discarded, whole, same]
  rfl

theorem toNat_of_fits1 {n : Nat} (h : fits1 n = true) : (BitVec.ofNat 8 n).toNat = n := by
  have small : n < 256 := by simpa [fits1] using h
  rw [BitVec.toNat_ofNat]
  exact Nat.mod_eq_of_lt small

/-- A scan record begins with its kind and is read back. -/
theorem scanRecordBytes_reads {i : Instr} {bytes : List Byte} (hw : i.wellFormed = true) (h : scanRecordBytes i = some bytes) :
    ∃ b rest, bytes = b :: rest ∧ scanKindByte b = true ∧ scanRecordOf bytes = some i := by
  cases i
  case frameOpen form serial =>
    obtain rfl := Option.some.inj h
    simp only [Instr.wellFormed, Bool.and_eq_true] at hw
    refine ⟨1#8, _, rfl, rfl, Eq.trans (b := some (.frameOpen (BitVec.ofNat 8 form).toNat
      (n2 (BitVec.ofNat 8 (serial / 256)).toNat (BitVec.ofNat 8 serial).toNat))) rfl ?_⟩
    rw [toNat_of_fits1 hw.1, BitVec.toNat_ofNat, BitVec.toNat_ofNat, n2_read hw.2]
  case row index values =>
    obtain rfl := Option.some.inj h
    simp only [Instr.wellFormed, Bool.and_eq_true, decide_eq_true_eq] at hw
    have count : (BitVec.ofNat 8 values.length).toNat = values.length := toNat_of_fits1 (by simpa [fits1] using hw.2)
    refine ⟨2#8, _, rfl, rfl, ?_⟩
    change (if values.length = (BitVec.ofNat 8 values.length).toNat then some (Instr.row (BitVec.ofNat 8 index).toNat values)
      else none) = _
    rw [count, if_pos rfl, toNat_of_fits1 hw.1]
  case frameClose total =>
    obtain rfl := Option.some.inj h
    refine ⟨3#8, _, rfl, rfl, Eq.trans (b := some (.frameClose (BitVec.ofNat 8 total).toNat)) rfl ?_⟩
    rw [toNat_of_fits1 hw]
  all_goals cases h

/-- A character that fails its check is not discarded, and spells no record. -/
theorem decodeScan_broken {cs : List Character} {c : Character} (hc : c ∈ cs) (hp : parityHolds c = false) :
    decodeScan cs = none := by
  have kept : c ∈ cs.dropWhile fun c => parityHolds c && !scanKindByte c.1 := by
    induction cs with
    | nil => cases hc
    | cons d cs ih =>
      rw [List.dropWhile_cons]
      split
      next dropped =>
        rcases List.mem_cons.mp hc with rfl | hc
        · simp [hp] at dropped
        · exact ih hc
      · exact hc
  rw [decodeScan]
  exact if_neg fun all => Bool.false_ne_true (hp.symm.trans (List.all_eq_true.mp all c kept))

/-- Settles O58: each request's body is read back field by field, and a whole record or frame part through its body. -/
theorem recordsDecodeToTheirRequests : Obligations.RecordsDecodeToTheirRequests := by
  refine ⟨⟨fun i bytes hw h => requestRecord_reads hw h, fun i bytes h => ?_⟩, fun i bytes noise hw h hn => ?_,
    fun cs c hc hp => decodeScan_broken hc hp⟩
  · obtain ⟨fs, -, h⟩ := Option.bind_eq_some_iff.mp h
    obtain ⟨k, -, rfl⟩ := Option.map_eq_some_iff.mp h
    exact lineCharacters_record ..
  · obtain ⟨b, rest, rfl, kind, read⟩ := scanRecordBytes_reads hw h
    exact (decodeScan_noise hn kind).trans read

end Sys2Proof.Machine

/-! PROOFS. REPAIR CANDIDATE before a waiter list longer than the notice queue (O57). -/

namespace Sys2Proof.Machine

set_option Elab.async false

/-- The candidate whose slot is suspect, FINISHED at seat 0. -/
def crowdedSlot : Slot :=
  ⟨⟨1, 0, .standard, 0, 0, none, .finished, some 0, none, none, none, none, none, 0, none, false⟩, .zero,
    ⟨some 1, some 0, false⟩, true⟩

def crowdedSeat : Seat := ⟨0, 1, 1, .standard, none, .held, some 0, some 0, false, false, false⟩

def crowdedPaper : Paper :=
  { code := [], form := 0, versions := 1, reading := 0, duration := 60, late := 0, blackFirst := 0, blackLast := 0,
    breakDefault := 0, bookletDefault := 0, walk := 240, zoneOrder := [0], warnings := [], scheduled := none, penalty := 0,
    multipleWrong := false, sections := [], state := .writing, startPending := false, readingLeft := 0, elapsed := 0,
    admClosed := false }

/-- A collector of round size 0 stands 65 times in the waiter list of zone 0, and each round it is offered leaves the
repaired candidate's entry in the ring: the offers outrun the queue of 64 notices, and the lost-notice flag is set. -/
def crowdedWaiters : State :=
  { State.reset with
    sli := { Sli.reset (baseRate false false) with start := none }
    hmu := { Hmu.reset with seats := [(0, crowdedSeat)] }
    rsu := { Rsu.reset with slots := [(0, crowdedSlot)] }
    ssu := { Ssu.reset with papers := [(0, crowdedPaper)] }
    clu := { Clu.reset with
      rings := [(0, ⟨[], [], List.replicate 65 0⟩)], collectors := [(0, { Collector.initial with size := 0 })] } }

/-- The fields of the repair: the candidate FINISHED at seat 0, its clock STOPPED. -/
def crowdedFields : CandidateFields :=
  { number := 1, paper := 0, cls := 0, allowance := 0, breakBudget := 0, preplaced := none, state := 4, seat := some 0,
    lastSeat := none, admTime := none, walk := none, reason := none, issued := 0, returned := none, discrepancy := 0,
    clockState := 5, remaining := 0, extended := none, before := none, budget := 0, warnIndex := 0 }

/-- The lost-notice flag after a command. -/
def lostAfter (o : Answered) : Bool :=
  match o with
  | .next t => t.sli.lost
  | _ => false

theorem crowdedWaiters_loses : lostAfter (exec (.repairCandidate 0 0 (some crowdedFields)) crowdedWaiters) = true := by
  rfl

/-- Refutes O57: with 65 waiters of round size 0, a state no run reaches, the offers that follow a repair overrun the
notice queue. The 64 that the statement then counts fit the queue, but the lost-notice flag is set. -/
theorem not_faultAndRepairRequests : ¬Obligations.FaultAndRepairRequests := by
  intro h
  obtain ⟨-, -, h⟩ := h
  have h := (h crowdedWaiters 0 crowdedFields (by rfl)).2 .standard .finished .stopped rfl rfl rfl (by
    simp [crowdedFields])
  obtain ⟨-, h⟩ := h.2 (by simp [crowdedFields])
  obtain ⟨-, -, h⟩ := h crowdedSlot rfl
  obtain ⟨-, h⟩ := h rfl rfl
  obtain ⟨-, -, h⟩ := (h crowdedPaper rfl).2 (by simp [crowdedWaiters])
  obtain ⟨refused, repaired⟩ := h rfl fun m y hm hy => by
    obtain rfl : 0 = m := Option.some.inj hm
    obtain rfl : crowdedSeat = y := Option.some.inj hy
    rfl
  have lost {t : State} (ht : exec (.repairCandidate 0 0 (some crowdedFields)) crowdedWaiters = .next t) : t.sli.lost = true := by
    have flag := crowdedWaiters_loses
    rwa [ht] at flag
  obtain ⟨t, ran, rest⟩ := repaired fun conflict => Bool.false_ne_true (lost (refused conflict))
  obtain ⟨-, -, -, -, -, -, -, -, -, -, followed⟩ := rest
  have told := ((followed.2 0 crowdedSeat rfl rfl rfl).2.2 rfl).1
  obtain ⟨-, -, kept⟩ := told
  have flag : t.sli.lost = true := lost (t := t.replied 131 []) ran
  rw [kept (Nat.le_of_ble_eq_true rfl)] at flag
  exact Bool.false_ne_true flag

end Sys2Proof.Machine

/-! PROOFS. The stages and ends of marking operations, as O46 and O47 use them. -/

namespace Sys2Proof.Machine

set_option Elab.async false

variable {s u : State} {number k p v gen serial form b : Nat} {outcomes : List RowOutcome} {x : Slot} {r : Paper}
  {f : Failure} {g : Progress} {key : List KeyEntry} {set : Settings} {rows : List (List Byte)}

theorem exec_markerTakesWork (hq : s.calm = true) (reach : Nat) :
    exec (.markerTakesWork reach) s = .next (markerTakesWork reach s) :=
  congrArg Host.Outcome.next (settled_calm hq _)

theorem exec_sheetOperationEnd (hq : s.calm = true) : exec .sheetOperationEnd s = .next (sheetEnds s) :=
  congrArg Host.Outcome.next (settled_calm hq _)

theorem exec_retryEnd (hq : s.calm = true) : exec .retryEnd s = .next (retryEnds s) :=
  congrArg Host.Outcome.next (settled_calm hq _)

theorem exec_rescoreStepEnd (hq : s.calm = true) : exec .rescoreStepEnd s = .next (rescoreEnds s) :=
  congrArg Host.Outcome.next (settled_calm hq _)

/-! ### The checks (R156) -/

theorem readDecoded_clean (hc : s.clean = true) (outcomes : List RowOutcome) : readDecoded outcomes s = s := by
  rw [readDecoded]
  cases decodedNumber outcomes with
  | none => rfl
  | some n => exact readNumber_clean hc n

/-- The first of checks 2 to 6 that fails. -/
theorem sittingChecks_fails (h : s.SittingFails number f) :
    ∃ why sus, s.sittingChecks number = .error (why, sus) ∧ f = ⟨why, some number, none, sus⟩ := by
  rcases h with ⟨hn, rfl⟩ | ⟨k, x, hn, hx, h⟩
  · exact ⟨.unknownCandidate, false, by rw [State.sittingChecks, hn], rfl⟩
  · rcases h with ⟨hs, rfl⟩ | ⟨hs, ⟨hst, rfl⟩ | ⟨hst, rfl⟩ | ⟨hst, hres, rfl⟩⟩
    · exact ⟨.notSitting, true, by simp [State.sittingChecks, hn, hx, hs], rfl⟩
    · exact ⟨.notSitting, false, by rcases hst with h | h | h <;> simp [State.sittingChecks, hn, hx, hs, h], rfl⟩
    · exact ⟨.earlySheet, false, by rcases hst with h | h | h <;> simp [State.sittingChecks, hn, hx, hs, h], rfl⟩
    · refine ⟨.duplicate, false, ?_, rfl⟩
      rcases hst with h | h <;> simp [State.sittingChecks, State.sittingChecks.result, hn, hx, hs, h, hres]

section
variable (hn : s.slotOf number = some k) (hx : s.slot? k = some x) (hs : x.suspect = false)
  (hst : x.cand.state = .finished ∨ x.cand.state = .collected) (hres : s.mru.results.find k = none)
include hn hx hs hst hres

theorem sittingChecks_ok : s.sittingChecks number = .ok (k, x) := by
  rcases hst with h | h <;> simp [State.sittingChecks, State.sittingChecks.result, hn, hx, hs, h, hres]

/-- Checks 7 to 9, where the ones before them hold. -/
theorem identityOf_sitting (hd : decodedNumber outcomes = some number) (hr : s.paper? x.cand.paper = some r) :
    s.identityOf form outcomes =
      if r.form ≠ form then .failed ⟨.wrongForm, some number, none, false⟩
      else (decodedVersion r outcomes).elim (.failed ⟨.versionUnreadable, some number, none, false⟩) fun v =>
        if (s.keyOf x.cand.paper v).key.isNone then .failed ⟨.noKey, some number, some v, false⟩
        else .found k x.cand.paper v number := by
  rw [State.identityOf, hd]
  dsimp only
  rw [sittingChecks_ok hn hx hs hst hres]
  dsimp only
  rw [hr]
  dsimp only
  by_cases hf : r.form = form
  · rw [if_neg (by simp [hf]), if_neg (by simp [hf])]
    cases decodedVersion r outcomes <;> rfl
  · rw [if_pos (by simp [hf]), if_pos hf]

end

theorem identityOf_fails (h : s.SheetFails form outcomes f) : s.identityOf form outcomes = .failed f := by
  rcases h with ⟨hd, rfl⟩ | ⟨number, hd, h | ⟨k, x, r, hn, hx, hs, hst, hres, hr, h⟩⟩
  · rw [State.identityOf, hd]
  · obtain ⟨why, sus, checks, rfl⟩ := sittingChecks_fails h
    rw [State.identityOf, hd]
    dsimp only
    rw [checks]
  · rw [identityOf_sitting hn hx hs hst hres hd hr]
    rcases h with ⟨hf, rfl⟩ | ⟨hf, ⟨hv, rfl⟩ | ⟨v, hv, hk, rfl⟩⟩
    · exact if_pos hf
    · rw [if_neg (not_not.mpr hf), hv]
      rfl
    · rw [if_neg (not_not.mpr hf), hv]
      exact if_pos (by rw [hk]; rfl)

/-! ### The stages of an operation (R153, R156, R160) -/

section
variable (hc : s.clean = true)
include hc

theorem decodeStage_failed (h : s.identityOf form outcomes = .failed f) : decodeStage form outcomes s = (s, .error f) := by
  rw [decodeStage, readDecoded_clean hc, h]

theorem decodeStage_found (h : s.identityOf form outcomes = .found k p v number) :
    decodeStage form outcomes s = (s, .ok ⟨p, v, number⟩) := by
  rw [decodeStage, readDecoded_clean hc, h]

theorem finishStages_snapshot (n : Snapshot) : finishStages serial form outcomes (.snapshot n) s =
    (s, s.judge serial form outcomes n) := by
  rw [finishStages, reachSnapshot]
  dsimp only
  rw [readDecoded_clean hc]

omit hc in
theorem snapshotOf_none {d : Decoded} (h : (s.keyOf d.paper d.version).key = none) :
    s.snapshotOf d = .error ⟨.noKey, some d.number, some d.version, false⟩ := by
  simp only [State.snapshotOf, h]

omit hc in
theorem snapshotOf_some {d : Decoded} (h : (s.keyOf d.paper d.version).key = some key) :
    s.snapshotOf d = .ok ⟨d, key, (s.keyOf d.paper d.version).generation⟩ := by
  simp only [State.snapshotOf, h]

theorem finishStages_decoded {d : Decoded} (h : (s.keyOf d.paper d.version).key = some key) :
    finishStages serial form outcomes (.decoded d) s =
      (s, s.judge serial form outcomes ⟨d, key, (s.keyOf d.paper d.version).generation⟩) := by
  rw [finishStages, reachSnapshot, snapshotOf_some h]
  dsimp only
  rw [readDecoded_clean hc]

theorem finishStages_taken (h : s.identityOf form outcomes = .found k p v number) (hkey : (s.keyOf p v).key = some key) :
    finishStages serial form outcomes .taken s =
      (s, s.judge serial form outcomes ⟨⟨p, v, number⟩, key, (s.keyOf p v).generation⟩) := by
  rw [finishStages, reachSnapshot, decodeStage_found hc h]
  dsimp only
  rw [snapshotOf_some (d := ⟨p, v, number⟩) hkey]
  dsimp only
  rw [readDecoded_clean hc]

omit hc in
theorem judge_fails {n : Snapshot} (h : s.SittingFails n.found.number f) : s.judge serial form outcomes n = .failed f := by
  obtain ⟨why, sus, checks, rfl⟩ := sittingChecks_fails h
  rw [State.judge, checks]

theorem finishStages_fails (h : s.OperationFails form outcomes g f) :
    finishStages serial form outcomes g s = (s, .failed f) := by
  cases g with
  | taken => rw [finishStages, reachSnapshot, decodeStage_failed hc (identityOf_fails h)]
  | decoded d =>
    rcases h with ⟨hkey, rfl⟩ | ⟨hkey, h⟩
    · rw [finishStages, reachSnapshot, snapshotOf_none hkey]
    · obtain ⟨key, hkey⟩ := Option.ne_none_iff_exists'.mp hkey
      rw [finishStages_decoded hc hkey, judge_fails h]
  | snapshot n => rw [finishStages_snapshot hc, judge_fails h]

end

/-- The result an operation writes that finds its candidate (R161). -/
def State.markedOf (s : State) (serial form : Nat) (outcomes : List RowOutcome) (n : Snapshot) (r : Paper) : ResultRecord :=
  { serial := serial, form := form, version := n.found.version, generation := n.generation, outcomes := outcomes
    score := scoreOf r n.key outcomes
    stale := n.generation != (s.keyOf n.found.paper n.found.version).generation, suspect := false }

theorem judge_scored {n : Snapshot} (hn : s.slotOf n.found.number = some k) (hx : s.slot? k = some x) (hs : x.suspect = false)
    (hst : x.cand.state = .finished ∨ x.cand.state = .collected) (hres : s.mru.results.find k = none)
    (hr : s.paper? n.found.paper = some r) : s.judge serial form outcomes n =
      .scored k n.found.paper n.found.number (s.markedOf serial form outcomes n r) := by
  rw [State.judge, sittingChecks_ok hn hx hs hst hres, hr]
  rfl

/-! ### What an operation leaves (R149, R152, R161) -/

theorem storeResult_eq (hc : s.clean = true) (k p : Nat) (w : ResultRecord) : storeResult k p w s =
    { s with mru := { s.mru.afterWrite p w.stale with results := s.mru.results.put k w } } := by
  rw [storeResult, writeResult_clean hc]
  dsimp only
  rw [rescoreLater_eq]
  rfl

/-- The marker IDLE behind these notices, and the held ones behind them. -/
def State.markerDone (s : State) (l : List Notice) : State := { s with
  mru := { s.mru with marker := none }
  sli := { s.sli with notices := s.sli.notices ++ l ++ s.heldNotices }
  fcu := { s.fcu with held := [] } }

theorem markerIdle_told {l : List Notice} (h : s.sli.notices.length + l.length + s.fcu.held.length ≤ 64) :
    markerIdle (s.told l) = s.markerDone l :=
  markerIdle_room (s := s.told l) (by simpa [State.told] using h)

theorem markerIdle_notify (h : s.sli.notices.length + s.fcu.held.length < 64) (kind : NoticeKind) (l : List Field) :
    markerIdle (notify kind l s) = s.markerDone [⟨kind, s.htb.time, l⟩] := by
  rw [notify_told (by omega), markerIdle_told (by simp only [List.length_singleton]; omega)]

end Sys2Proof.Machine

/-! PROOFS. The marker takes work, and a sheet operation ends (O46). -/

namespace Sys2Proof.Machine

set_option Elab.async false

variable {s t : State} {number k p v gen serial form b reach : Nat} {outcomes : List RowOutcome} {x : Slot} {r : Paper}
  {f : Failure} {g : Progress} {key : List KeyEntry} {set : Settings} {rows : List (List Byte)}

/-! ### The marker takes a sheet (R152) -/

theorem advanceMarker_zero (s : State) : advanceMarker 0 s = s := by
  unfold advanceMarker
  cases s.mru.marker with
  | none => rfl
  | some m =>
    dsimp only
    cases s.subject m <;> rfl

theorem markerTakesWork_busy (h : s.mru.marker.isSome = true) (reach : Nat) :
    markerTakesWork reach s = advanceMarker reach s := by
  rw [markerTakesWork, if_neg (by simpa [Option.isSome_iff_ne_none] using h)]

theorem markerTakesWork_idle (h : s.mru.marker = none) : markerTakesWork 0 s = takeWork s := by
  rw [markerTakesWork, advanceMarker_zero, if_pos (by rw [h]; rfl)]

section
variable {passed rest : List Nat} (ho : s.mru.fullOrder = passed ++ b :: rest)
  (hp : ∀ c ∈ passed, (s.bufferOf c).held = true) (hb : (s.bufferOf b).held = false)
include ho hp hb

theorem sheetWork_first : s.sheetWork = some b := by
  have before : passed.find? (fun c => !(s.bufferOf c).held) = none :=
    List.find?_eq_none.mpr fun c hc => by simp [hp c hc]
  rw [State.sheetWork, ho, List.find?_append, before]
  simp [hb]

theorem takeWork_sheet (hr : b ∉ rest) : takeWork s = { s with
    mru := { s.mru.withBuffer b { s.bufferOf b with state := .marking } with
      fullOrder := passed ++ rest, marker := some ⟨.sheet b .taken, s.mru.settings⟩ } } := by
  have left : s.mru.fullOrder.filter (· != b) = passed ++ rest := by
    have before : passed.filter (· != b) = passed := List.filter_eq_self.mpr fun c hc => by
      simp only [bne_iff_ne]
      rintro rfl
      rw [hp c hc] at hb
      cases hb
    have after : rest.filter (· != b) = rest := List.filter_eq_self.mpr fun c hc => by
      simp only [bne_iff_ne]
      rintro rfl
      exact hr hc
    rw [ho, List.filter_append, List.filter_cons, before, after]
    simp
  rw [takeWork, sheetWork_first ho hp hb]
  dsimp only
  rw [left, setBuffer_eq]
  unfold Mru.withBuffer
  by_cases h0 : b = 0
  · simp only [if_pos h0, setMarker]
  · simp only [if_neg h0, setMarker]

end

/-! ### The stages of a sheet in a buffer (R153) -/

section
variable (hm : s.mru.marker = some ⟨.sheet b g, set⟩) (hb : s.bufferOf b = ⟨.marking, some form, some serial, rows, false⟩)
include hm hb

omit hm in
theorem subject_sheet (g : Progress) : s.subject ⟨.sheet b g, set⟩ = some (serial, form, outcomesOf set rows) := by
  rw [State.subject]
  dsimp only
  rw [hb]
  rfl

theorem sheetEnds_eq {o : Marked} (h : finishStages serial form (outcomesOf set rows) g s = (t, o)) :
    sheetEnds s = endOperation (.sheet b g) serial form (outcomesOf set rows) o t := by
  rw [sheetEnds, hm]
  dsimp only
  rw [finishOperation, subject_sheet hb]
  dsimp only
  rw [show (MarkWork.sheet b g).progress = g from rfl, h]

/-- A stage that ends in an exception ends the operation there, as its end would. -/
theorem markerTakesWork_failed (hg : g = .taken) (hd : decodeStage form (outcomesOf set rows) s = (t, .error f))
    (hreach : 1 ≤ reach) : markerTakesWork reach s = sheetEnds s := by
  subst hg
  have ended : sheetEnds s = endOperation (.sheet b .taken) serial form (outcomesOf set rows) (.failed f) t :=
    sheetEnds_eq hm hb (by rw [finishStages, reachSnapshot, hd])
  have reached : reachDecoded form (outcomesOf set rows) .taken s = (t, .error f) := by
    rw [reachDecoded, hd]
    rfl
  have snapshot : reachSnapshot form (outcomesOf set rows) .taken s = (t, .error f) := by
    rw [reachSnapshot, hd]
  rw [markerTakesWork_busy (by rw [hm]; rfl), advanceMarker, hm]
  dsimp only
  rw [subject_sheet hb]
  dsimp only
  rw [if_neg (by omega), ended, show (MarkWork.sheet b .taken).progress = .taken from rfl, reached, snapshot]
  by_cases h1 : reach = 1
  · rw [if_pos h1]
  · rw [if_neg h1]
    rfl

/-- The decode reached. -/
theorem markerTakesWork_decoded (hg : g = .taken) {d : Decoded}
    (hd : decodeStage form (outcomesOf set rows) s = (s, .ok d)) :
    markerTakesWork 1 s = setMarker (some ⟨.sheet b (.decoded d), set⟩) s := by
  subst hg
  rw [markerTakesWork_busy (by rw [hm]; rfl), advanceMarker, hm]
  dsimp only
  rw [subject_sheet hb]
  dsimp only
  rw [show (MarkWork.sheet b .taken).progress = .taken from rfl, reachDecoded, hd]
  rfl

theorem markerTakesWork_snapshot {n : Snapshot} (h : reachSnapshot form (outcomesOf set rows) g s = (s, .ok n)) :
    markerTakesWork 2 s = setMarker (some ⟨.sheet b (.snapshot n), set⟩) s := by
  rw [markerTakesWork_busy (by rw [hm]; rfl), advanceMarker, hm]
  dsimp only
  rw [subject_sheet hb]
  dsimp only
  rw [show (MarkWork.sheet b g).progress = g from rfl, h]
  rfl

end

theorem decodeStage_unreadable (h : decodedNumber outcomes = none) :
    decodeStage form outcomes s = (s, .error ⟨.idUnreadable, none, none, false⟩) := by
  have read : readDecoded outcomes s = s := by rw [readDecoded, h]
  rw [decodeStage, read, State.identityOf, h]

/-! ### A sheet marked (R153, R161) -/

theorem setMarker_notify (m : Option MarkOp) (kind : NoticeKind) (l : List Field) (s : State) :
    setMarker m (notify kind l s) = notify kind l (setMarker m s) := by
  unfold notify joinQueue
  by_cases h : s.sli.notices.length < Config.noticeLimit
  · rw [if_pos h, if_pos (by exact h)]
    rfl
  · rw [if_neg h, if_neg (by exact h)]
    rfl

/-- The part with the result of a sheet written and its buffer freed. -/
def State.sheetScored (s : State) (b k p : Nat) (w : ResultRecord) : State := { s with
  mru := { (s.mru.withBuffer b ⟨.free, none, none, [], false⟩).afterWrite p w.stale with
    marker := none, results := s.mru.results.put k w } }

theorem endOperation_scored (hc : s.clean = true) (w : ResultRecord) :
    endOperation (.sheet b g) serial form outcomes (.scored k p number w) s =
      releaseHeld (notify .sheetMarked [u16 serial, u16 k, u32 number, u8 p, u8 w.version, u16 w.score.total,
        u16 w.score.maximum, o16 w.score.percent] (s.sheetScored b k p w)) := by
  have written : setMarker none (setBuffer b .initial (storeResult k p w s)) = s.sheetScored b k p w := by
    rw [storeResult_eq hc, setBuffer_eq]
    unfold Mru.withBuffer State.sheetScored
    by_cases h0 : b = 0
    · simp only [Mru.withBuffer, if_pos h0]
      rfl
    · simp only [Mru.withBuffer, if_neg h0]
      rfl
  rw [← written, ← setMarker_notify]
  rfl

end Sys2Proof.Machine

/-! PROOFS. The sheets the marker takes and scores, and those that fail (O46). -/

namespace Sys2Proof.Machine

set_option Elab.async false

variable {s t : State} {number k p v gen serial form b reach : Nat} {outcomes : List RowOutcome} {x : Slot} {r : Paper}
  {f : Failure} {g : Progress} {key : List KeyEntry} {set : Settings} {rows : List (List Byte)}

/-! ### A sheet scored -/

/-- The part with a sheet's operation at this stage. -/
def State.sheetAt (s : State) (b : Nat) (set : Settings) (g : Progress) : State :=
  { s with mru := { s.mru with marker := some ⟨.sheet b g, set⟩ } }

theorem sheetAt_self (h : s.mru.marker = some ⟨.sheet b g, set⟩) : s.sheetAt b set g = s := by
  unfold State.sheetAt
  rw [← h]

theorem sheetScored_sheetAt (w : ResultRecord) : (s.sheetAt b set g).sheetScored b k p w = s.sheetScored b k p w := by
  unfold State.sheetScored Mru.withBuffer
  by_cases h0 : b = 0
  · simp only [if_pos h0]
    rfl
  · simp only [if_neg h0]
    rfl

/-- A sheet ends alike at each of its stages: its end does not show the stage. -/
theorem endOperation_sheetAt (hc : s.clean = true) (g g' h h' : Progress) (w : ResultRecord) :
    endOperation (.sheet b h) serial form outcomes (.scored k p number w) (s.sheetAt b set g) =
      endOperation (.sheet b h') serial form outcomes (.scored k p number w) (s.sheetAt b set g') := by
  rw [endOperation_scored (s := s.sheetAt b set g) hc, endOperation_scored (s := s.sheetAt b set g') hc,
    sheetScored_sheetAt, sheetScored_sheetAt]

section
variable (hm : s.mru.marker = some ⟨.sheet b (.snapshot ⟨⟨p, v, number⟩, key, gen⟩), set⟩)
  (hb : s.bufferOf b = ⟨.marking, some form, some serial, rows, false⟩) (hc : s.clean = true)
  (hn : s.slotOf number = some k) (hx : s.slot? k = some x) (hs : x.suspect = false)
  (hst : x.cand.state = .finished ∨ x.cand.state = .collected) (hres : s.mru.results.find k = none)
  (hr : s.paper? p = some r)
include hm hb hc hn hx hs hst hres hr

theorem sheetEnds_snapshot : sheetEnds s = endOperation (.sheet b (.snapshot ⟨⟨p, v, number⟩, key, gen⟩)) serial form
    (outcomesOf set rows) (.scored k p number (s.markedOf serial form (outcomesOf set rows) ⟨⟨p, v, number⟩, key, gen⟩ r)) s :=
  sheetEnds_eq hm hb (by
    rw [finishStages_snapshot hc, judge_scored (n := ⟨⟨p, v, number⟩, key, gen⟩) hn hx hs hst hres hr])

theorem sheetEnds_scored (hroom : s.sli.notices.length + s.fcu.held.length < 64) :
    let w := s.markedOf serial form (outcomesOf set rows) ⟨⟨p, v, number⟩, key, gen⟩ r
    sheetEnds s = { s with
      mru := (s.sheetScored b k p w).mru
      sli := { s.sli with notices := s.sli.notices ++ [⟨.sheetMarked, s.htb.time, [u16 serial, u16 k, u32 number,
          u8 p, u8 v, u16 w.score.total, u16 w.score.maximum, o16 w.score.percent]⟩] ++ s.heldNotices }
      fcu := { s.fcu with held := [] } } := by
  intro w
  rw [sheetEnds_snapshot hm hb hc hn hx hs hst hres hr, endOperation_scored hc]
  have ended := markerIdle_notify (s := s.sheetScored b k p w) hroom .sheetMarked [u16 serial, u16 k, u32 number, u8 p,
    u8 v, u16 w.score.total, u16 w.score.maximum, o16 w.score.percent]
  rw [markerIdle, setMarker_notify] at ended
  exact ended

end

/-! ### The stages a sheet reaches -/

section
variable (hc : s.clean = true) (hd : decodedNumber (outcomesOf set rows) = some number)
  (hn : s.slotOf number = some k) (hx : s.slot? k = some x) (hs : x.suspect = false)
  (hst : x.cand.state = .finished ∨ x.cand.state = .collected) (hres : s.mru.results.find k = none)
  (hp : x.cand.paper = p) (hr : s.paper? p = some r) (hf : r.form = form)
  (hv : decodedVersion r (outcomesOf set rows) = some v)
include hd hn hx hs hst hres hp hr hf hv

theorem identityOf_version : s.identityOf form (outcomesOf set rows) =
    if (s.keyOf p v).key.isNone then .failed ⟨.noKey, some number, some v, false⟩ else .found k p v number := by
  subst hp
  rw [identityOf_sitting hn hx hs hst hres hd hr, if_neg (not_not.mpr hf), hv]
  rfl

include hc

theorem markerTakesWork_noKey (hb : s.bufferOf b = ⟨.marking, some form, some serial, rows, false⟩)
    (hm : s.mru.marker = some ⟨.sheet b .taken, set⟩) (hkey : (s.keyOf p v).key = none) :
    markerTakesWork 1 s = sheetEnds s := by
  have failed : s.identityOf form (outcomesOf set rows) = .failed ⟨.noKey, some number, some v, false⟩ := by
    rw [identityOf_version hd hn hx hs hst hres hp hr hf hv, if_pos (by rw [hkey]; rfl)]
  exact markerTakesWork_failed hm hb rfl (decodeStage_failed hc failed) (le_refl 1)

variable (hkey : (s.keyOf p v).key = some key)
include hkey

omit hc in
theorem identityOf_key : s.identityOf form (outcomesOf set rows) = .found k p v number := by
  rw [identityOf_version hd hn hx hs hst hres hp hr hf hv, if_neg (by rw [hkey]; exact Bool.false_ne_true)]

theorem reachSnapshot_taken : reachSnapshot form (outcomesOf set rows) .taken s =
    (s, .ok ⟨⟨p, v, number⟩, key, (s.keyOf p v).generation⟩) := by
  rw [reachSnapshot, decodeStage_found hc (identityOf_key hd hn hx hs hst hres hp hr hf hv hkey)]
  dsimp only
  rw [snapshotOf_some (d := ⟨p, v, number⟩) hkey]

/-- An operation that is to score the sheet ends alike from each of its stages. -/
theorem finishStages_scored (serial : Nat) (hg : g = .taken ∨ g = .decoded ⟨p, v, number⟩
      ∨ g = .snapshot ⟨⟨p, v, number⟩, key, (s.keyOf p v).generation⟩) :
    finishStages serial form (outcomesOf set rows) g s = (s, .scored k p number (s.markedOf serial form (outcomesOf set rows)
      ⟨⟨p, v, number⟩, key, (s.keyOf p v).generation⟩ r)) := by
  have judged := judge_scored (serial := serial) (form := form) (outcomes := outcomesOf set rows)
    (n := ⟨⟨p, v, number⟩, key, (s.keyOf p v).generation⟩) hn hx hs hst hres hr
  rcases hg with rfl | rfl | rfl
  · rw [finishStages_taken hc (identityOf_key hd hn hx hs hst hres hp hr hf hv hkey) hkey, judged]
  · rw [finishStages_decoded hc (d := ⟨p, v, number⟩) hkey, judged]
  · rw [finishStages_snapshot hc, judged]

theorem sheetEnds_sheetAt (hb : s.bufferOf b = ⟨.marking, some form, some serial, rows, false⟩)
    {g g' : Progress} (hg : g = .taken ∨ g = .decoded ⟨p, v, number⟩
      ∨ g = .snapshot ⟨⟨p, v, number⟩, key, (s.keyOf p v).generation⟩)
    (hg' : g' = .taken ∨ g' = .decoded ⟨p, v, number⟩
      ∨ g' = .snapshot ⟨⟨p, v, number⟩, key, (s.keyOf p v).generation⟩) :
    sheetEnds (s.sheetAt b set g) = sheetEnds (s.sheetAt b set g') := by
  have ends {g : Progress} (hg : g = .taken ∨ g = .decoded ⟨p, v, number⟩
      ∨ g = .snapshot ⟨⟨p, v, number⟩, key, (s.keyOf p v).generation⟩) : sheetEnds (s.sheetAt b set g) =
      endOperation (.sheet b g) serial form (outcomesOf set rows) (.scored k p number (s.markedOf serial form (outcomesOf set rows)
        ⟨⟨p, v, number⟩, key, (s.keyOf p v).generation⟩ r)) (s.sheetAt b set g) :=
    sheetEnds_eq (s := s.sheetAt b set g) rfl hb
      (finishStages_scored (s := s.sheetAt b set g) hc hd hn hx hs hst hres hp hr hf hv hkey serial hg)
  rw [ends hg, ends hg', endOperation_sheetAt hc]

end

end Sys2Proof.Machine

/-! PROOFS. The marker takes a retry or the next step of a rescore pass (O46). -/

namespace Sys2Proof.Machine

set_option Elab.async false

variable {s t : State} {k p : Nat} {q : Pass} {e : SheetException} {r : ResultRecord} {flags : List Nat}

/-! ### The results a pass is to go on with (R162) -/

/-- A result of a paper's candidate that is stale or suspect, behind this slot. -/
def State.rescores (s : State) (p : Nat) (last : Option Nat) (e : Nat × ResultRecord) : Bool :=
  (e.2.stale || e.2.suspect) && ((s.slot? e.1).map (·.shadow.paper)) == some (some p) && last.all (· < e.1)

theorem toRescore_find (s : State) (p : Nat) (last : Option Nat) : (s.toRescore p).find? (fun k => last.all (· < k)) =
    (List.find? (s.rescores p last) s.mru.results).map Prod.fst := by
  rw [State.toRescore, Table.keysWhere, List.find?_filter, List.find?_map, List.find?_filter]
  refine congrArg (Option.map Prod.fst) (congrArg (List.find? · s.mru.results) (funext fun a => ?_))
  rw [Function.comp, State.rescores, ← slotOfPaper_eq]
  simp only [State.slotOfPaper, Bool.decide_and, Bool.decide_eq_true, Bool.and_assoc]

theorem nextRescore_eq (s : State) (q : Pass) :
    s.nextRescore q = (List.find? (s.rescores q.paper q.last) s.mru.results).map Prod.fst := by
  rw [← toRescore_find, State.nextRescore]
  cases q.last <;> rfl

theorem toRescore_isEmpty (s : State) (p : Nat) :
    (s.toRescore p).isEmpty = (List.find? (s.rescores p none) s.mru.results).isNone := by
  have first := toRescore_find s p none
  cases h : s.toRescore p with
  | nil =>
    rw [h] at first
    rw [Option.map_eq_none_iff.mp first.symm]
    rfl
  | cons k l =>
    rw [h] at first
    cases h' : List.find? (s.rescores p none) s.mru.results with
    | none =>
      rw [h'] at first
      exact absurd first (Option.some_ne_none _)
    | some e => rfl

/-! ### The pass goes on, repeats or ends -/

section
variable (hq : s.mru.pass = some q)
include hq

theorem passOn_next (h : (List.find? (s.rescores q.paper q.last) s.mru.results).isSome = true) : passOn s = s := by
  rw [passOn, hq]
  dsimp only
  rw [nextRescore_eq, Option.isSome_map, if_pos h]

variable (hn : List.find? (s.rescores q.paper q.last) s.mru.results = none)
include hn

theorem passOn_again (ha : q.again = true) (h : (List.find? (s.rescores q.paper none) s.mru.results).isSome = true) :
    passOn s = { s with mru := { s.mru with pass := some { q with last := none, again := false } } } := by
  rw [passOn, hq]
  dsimp only
  rw [if_neg (show ¬(s.nextRescore q).isSome = true by rw [nextRescore_eq, hn]; exact Bool.false_ne_true),
    toRescore_isEmpty, ha, if_pos]
  rw [Option.isSome_iff_ne_none] at h
  simpa using h

theorem passOn_ends (h : q.again = false ∨ List.find? (s.rescores q.paper none) s.mru.results = none) :
    passOn s = notify .rescored [u8 q.paper, u16 q.rescored, u16 q.removed] { s with mru := { s.mru with pass := none } } := by
  rw [passOn, hq]
  dsimp only
  rw [if_neg (show ¬(s.nextRescore q).isSome = true by rw [nextRescore_eq, hn]; exact Bool.false_ne_true),
    toRescore_isEmpty, if_neg]
  rcases h with h | h <;> simp [h]

end

/-! ### The marker takes a step (R152, R162) -/

theorem startPass_running (h : s.mru.pass = some q) : startPass s = s := by
  rw [startPass, h]

theorem startPass_pending {rest : List Nat} (h : s.mru.pass = none) (hp : s.mru.rescorePending = p :: rest) :
    startPass s = { s with mru := { s.mru with pass := some ⟨p, none, false, 0, 0⟩, rescorePending := rest } } := by
  rw [startPass, h, hp]

theorem takeRescore_none (ht : passOn (startPass s) = t) (h : t.mru.pass = none) : takeRescore s = t := by
  rw [takeRescore, ht]
  dsimp only
  rw [h]

theorem takeRescore_step (ht : passOn (startPass s) = t) (hq : t.mru.pass = some q) (sorted : t.mru.results.sorted = true)
    (h : List.find? (t.rescores q.paper q.last) t.mru.results = some (k, r)) : takeRescore s =
      setMarker (some ⟨.rescore k r (t.keyOf q.paper r.version).key (t.keyOf q.paper r.version).generation, t.mru.settings⟩) t := by
  have found : t.mru.results.find k = some r := (Table.mem_iff_find sorted k r).mp (List.mem_of_find?_eq_some h)
  rw [takeRescore, ht]
  dsimp only
  rw [hq]
  dsimp only
  rw [nextRescore_eq, h]
  dsimp only [Option.map_some]
  rw [found]

theorem mru_notify (kind : NoticeKind) (l : List Field) (s : State) : (notify kind l s).mru = s.mru := by
  unfold notify joinQueue
  split <;> rfl

section
variable (hw : ∀ b ∈ s.mru.fullOrder, (s.bufferOf b).held = true)
include hw

theorem sheetWork_none : s.sheetWork = none :=
  List.find?_eq_none.mpr fun b hb => by simp [hw b hb]

theorem takeWork_retry (h : s.mru.exceptions.find? (·.queued) = some e) : takeWork s = { s with mru := { s.mru with
    exceptions := s.mru.exceptions.map fun y => if y.number = e.number then { y with queued := false } else y
    marker := some ⟨.retry e.number .taken, s.mru.settings⟩ } } := by
  rw [takeWork, sheetWork_none hw]
  dsimp only
  rw [h]
  simp only [modException, setMarker, beq_iff_eq]

theorem takeWork_rescore (h : ∀ e ∈ s.mru.exceptions, e.queued = false) : takeWork s = takeRescore s := by
  have none : s.mru.exceptions.find? (·.queued) = none := List.find?_eq_none.mpr fun e he => by simp [h e he]
  rw [takeWork, sheetWork_none hw]
  dsimp only
  rw [none]

end

/-- The part with the marker on the next step of a pass. -/
def State.rescoring (s : State) (k : Nat) (r : ResultRecord) (p : Nat) (q : Pass) (flags : List Nat) : State :=
  { s with mru := { s.mru with
      pass := some q, rescorePending := flags
      marker := some ⟨.rescore k r (s.keyOf p r.version).key (s.keyOf p r.version).generation, s.mru.settings⟩ } }

theorem takeRescore_idle (h : s.mru.pass = none) (hp : s.mru.rescorePending = []) : takeRescore s = s :=
  takeRescore_none (by rw [startPass, h, hp, passOn, h]) h

theorem takeRescore_running (h : s.mru.pass = some q)
    (hn : List.find? (s.rescores q.paper q.last) s.mru.results = some (k, r)) (sorted : s.mru.results.sorted = true) :
    takeRescore s = s.rescoring k r q.paper q s.mru.rescorePending := by
  rw [takeRescore_step (t := s) (by rw [startPass_running h, passOn_next h (by rw [hn]; rfl)]) h sorted hn]
  unfold State.rescoring
  rw [← h]
  rfl

theorem takeRescore_pending {rest : List Nat} (h : s.mru.pass = none) (hp : s.mru.rescorePending = p :: rest)
    (hn : List.find? (s.rescores p none) s.mru.results = some (k, r)) (sorted : s.mru.results.sorted = true) :
    takeRescore s = s.rescoring k r p ⟨p, none, false, 0, 0⟩ rest :=
  takeRescore_step (q := ⟨p, none, false, 0, 0⟩)
    (t := { s with mru := { s.mru with pass := some ⟨p, none, false, 0, 0⟩, rescorePending := rest } })
    (by rw [startPass_pending h hp, passOn_next (q := ⟨p, none, false, 0, 0⟩) rfl]; exact Option.isSome_of_eq_some hn)
    rfl sorted hn

theorem takeRescore_pending_ends {rest : List Nat} (h : s.mru.pass = none) (hp : s.mru.rescorePending = p :: rest)
    (hn : List.find? (s.rescores p none) s.mru.results = none) : takeRescore s =
      notify .rescored [u8 p, u16 0, u16 0] { s with mru := { s.mru with rescorePending := rest } } := by
  have ended : passOn (startPass s) =
      notify .rescored [u8 p, u16 0, u16 0] { s with mru := { s.mru with pass := none, rescorePending := rest } } := by
    rw [startPass_pending h hp]
    exact passOn_ends (s := { s with mru := { s.mru with pass := some ⟨p, none, false, 0, 0⟩, rescorePending := rest } })
      (q := ⟨p, none, false, 0, 0⟩) rfl hn (.inl rfl)
  rw [takeRescore_none ended (by rw [mru_notify]), ← h]

section
variable (h : s.mru.pass = some q) (hn : List.find? (s.rescores q.paper q.last) s.mru.results = none)
include h hn

theorem takeRescore_again (ha : q.again = true) (hf : List.find? (s.rescores q.paper none) s.mru.results = some (k, r))
    (sorted : s.mru.results.sorted = true) :
    takeRescore s = s.rescoring k r q.paper { q with last := none, again := false } s.mru.rescorePending :=
  takeRescore_step (q := { q with last := none, again := false })
    (t := { s with mru := { s.mru with pass := some { q with last := none, again := false } } })
    (by rw [startPass_running h, passOn_again h hn ha (Option.isSome_of_eq_some hf)]) rfl sorted hf

theorem takeRescore_ends (hf : q.again = false ∨ List.find? (s.rescores q.paper none) s.mru.results = none) :
    takeRescore s = notify .rescored [u8 q.paper, u16 q.rescored, u16 q.removed]
      { s with mru := { s.mru with pass := none } } :=
  takeRescore_none (by rw [startPass_running h, passOn_ends h hn hf]) (by rw [mru_notify])

end

/-! ### The sheets that fail (R148, R149) -/

/-- The first number free from `n` on is this one, where those before it are taken. -/
theorem freeNumber_first {l : List SheetException} {i fuel n : Nat} (hn : n < 65536) (hi : i ≤ fuel)
    (free : ∀ e ∈ l, e.number ≠ (n + i) % 65536) (before : ∀ j, j < i → ∃ e ∈ l, e.number = (n + j) % 65536) :
    freeNumber l (fuel + 1) n = (n + i) % 65536 := by
  induction i generalizing n fuel with
  | zero =>
    have self : (n + 0) % 65536 = n := by rw [Nat.add_zero, Nat.mod_eq_of_lt hn]
    rw [self] at free ⊢
    rw [freeNumber, if_neg (by simpa using free)]
  | succ i ih =>
    obtain ⟨fuel, rfl⟩ := Nat.exists_eq_succ_of_ne_zero (show fuel ≠ 0 by omega)
    obtain ⟨e, he, number⟩ := before 0 (by omega)
    have taken : l.any (·.number == n) = true :=
      List.any_eq_true.mpr ⟨e, he, by rw [number, Nat.add_zero, Nat.mod_eq_of_lt hn, beq_self_eq_true]⟩
    have shift (j : Nat) : ((n + 1) % 65536 + j) % 65536 = (n + (j + 1)) % 65536 := by
      rw [Nat.mod_add_mod]
      congr 1
      omega
    rw [freeNumber, if_pos taken, ih (n := (n + 1) % 65536) (Nat.mod_lt _ (by norm_num)) (Nat.le_of_succ_le_succ hi)
      (by rw [shift]; exact free) (fun j hj => by rw [shift]; exact before (j + 1) (by omega)), shift]

/-- Fewer numbers are taken in a row than entries stand in the list. -/
theorem taken_le_length {l : List SheetException} {i n : Nat} (hi : i < 65536)
    (before : ∀ j, j < i → ∃ e ∈ l, e.number = (n + j) % 65536) : i ≤ l.length := by
  have subset : (List.range i).map (fun j => (n + j) % 65536) ⊆ l.map (·.number) := by
    intro m hm
    obtain ⟨j, hj, rfl⟩ := List.mem_map.mp hm
    obtain ⟨e, he, number⟩ := before j (List.mem_range.mp hj)
    exact List.mem_map.mpr ⟨e, he, number⟩
  have distinct : ((List.range i).map fun j => (n + j) % 65536).Nodup := by
    refine List.Nodup.map_on (fun j hj j' hj' h => ?_) List.nodup_range
    rw [List.mem_range] at hj hj'
    omega
  simpa using (distinct.subperm subset).length_le

end Sys2Proof.Machine

/-! PROOFS. A sheet whose operation fails, and the statement on the marker's sheets (O46). -/

namespace Sys2Proof.Machine

set_option Elab.async false

variable {s t : State} {number k p v gen serial form b reach i w n : Nat} {outcomes : List RowOutcome} {x : Slot} {r : Paper}
  {f : Failure} {g : Progress} {key : List KeyEntry} {set : Settings} {rows : List (List Byte)}

/-! ### The exception a sheet becomes (R148, R149, R153) -/

@[simp] theorem withBuffer_exceptions (m : Mru) (b : Nat) (c : Buffer) : (m.withBuffer b c).exceptions = m.exceptions := by
  unfold Mru.withBuffer
  split <;> rfl

@[simp] theorem withBuffer_counter (m : Mru) (b : Nat) (c : Buffer) : (m.withBuffer b c).counter = m.counter := by
  unfold Mru.withBuffer
  split <;> rfl

@[simp] theorem withBuffer_fullOrder (m : Mru) (b : Nat) (c : Buffer) : (m.withBuffer b c).fullOrder = m.fullOrder := by
  unfold Mru.withBuffer
  split <;> rfl

/-- The part with the sheet's operation ended in an exception entry of this number. -/
def State.sheetExcepted (s : State) (b n serial form : Nat) (f : Failure) (outcomes : List RowOutcome) : State :=
  { s with mru := { s.mru.withBuffer b ⟨.free, none, none, [], false⟩ with
      counter := (n + 1) % 65536
      exceptions := s.mru.exceptions ++ [⟨n, serial, form, f.reason, f.number, f.version, outcomes, false⟩] } }

/-- The part with the sheet held in its buffer, the exception list being full. -/
def State.sheetHeld (s : State) (b serial form : Nat) (rows : List (List Byte)) : State :=
  { s with mru := { s.mru.withBuffer b ⟨.full, some form, some serial, rows, true⟩ with
      fullOrder := s.mru.fullOrder ++ [b] } }

section
variable (hroom : s.sli.notices.length + s.fcu.held.length < 64)
include hroom

theorem endOperation_excepted (hl : s.mru.exceptions.length < 32) (hn : freeNumber s.mru.exceptions 33 s.mru.counter = n) :
    endOperation (.sheet b g) serial form outcomes (.failed f) s = (s.sheetExcepted b n serial form f outcomes).markerDone
      [⟨.sheetException, s.htb.time, [u16 n, u16 serial, u8 form, u8 f.reason.ctorIdx, ⟨4, f.number⟩, flag f.suspect]⟩] := by
  have joined : endSheet b serial form outcomes (.failed f) s = notify .sheetException [u16 n, u16 serial, u8 form,
      u8 f.reason.ctorIdx, ⟨4, f.number⟩, flag f.suspect] (s.sheetExcepted b n serial form f outcomes) := by
    rw [endSheet]
    dsimp only
    rw [if_pos (show s.mru.exceptions.length < Config.exceptionLimit from hl), setBuffer_eq, joinExceptions]
    dsimp only
    rw [withBuffer_exceptions, withBuffer_counter, hn]
    rfl
  unfold endOperation
  dsimp only
  rw [joined]
  exact markerIdle_notify (s := s.sheetExcepted b n serial form f outcomes) hroom _ _

theorem endOperation_held (hl : 32 ≤ s.mru.exceptions.length)
    (hb : s.bufferOf b = ⟨.marking, some form, some serial, rows, false⟩) :
    endOperation (.sheet b g) serial form outcomes (.failed f) s = (s.sheetHeld b serial form rows).markerDone
      [⟨.sheetHeld, s.htb.time, [u16 serial, u8 form, u8 b, u8 f.reason.ctorIdx]⟩] := by
  have held : endSheet b serial form outcomes (.failed f) s = notify .sheetHeld [u16 serial, u8 form, u8 b,
      u8 f.reason.ctorIdx] (s.sheetHeld b serial form rows) := by
    rw [endSheet]
    dsimp only
    rw [if_neg (show ¬s.mru.exceptions.length < Config.exceptionLimit from Nat.not_lt.mpr hl), setBuffer_eq]
    dsimp only
    rw [withBuffer_fullOrder, hb]
    rfl
  unfold endOperation
  dsimp only
  rw [held]
  exact markerIdle_notify (s := s.sheetHeld b serial form rows) hroom _ _

end

theorem freeNumber_counter (free : ∀ e ∈ s.mru.exceptions, e.number ≠ s.mru.counter) :
    freeNumber s.mru.exceptions 33 s.mru.counter = s.mru.counter := by
  rw [freeNumber, if_neg (by simpa using free)]

theorem freeNumber_behind (hl : s.mru.exceptions.length < 32) (hc : s.mru.counter < 65536) (hi : i < 65536)
    (free : ∀ e ∈ s.mru.exceptions, e.number ≠ (s.mru.counter + i) % 65536)
    (before : ∀ j, j < i → ∃ e ∈ s.mru.exceptions, e.number = (s.mru.counter + j) % 65536) :
    freeNumber s.mru.exceptions 33 s.mru.counter = (s.mru.counter + i) % 65536 :=
  freeNumber_first hc (by have := taken_le_length hi before; omega) free before

/-! ### The candidate whose read fails (R156, R177) -/

/-- A record written again keeps its table's first match, where it matches as before. -/
theorem Table.find_put_first {α : Type} {l : Table α} {q : Nat × α → Bool} {k : Nat} {a c : α}
    (h : (List.find? q l).map Prod.fst = some k) (ha : l.find k = some a) (hq : q (k, c) = q (k, a)) :
    (List.find? q (l.put k c)).map Prod.fst = some k := by
  induction l with
  | nil => cases ha
  | cons e l ih =>
    obtain ⟨i, d⟩ := e
    rw [Table.put]
    rw [Table.find] at ha
    by_cases hlt : k < i
    · rw [if_pos hlt, List.find?_cons]
      cases q (k, c)
      · exact h
      · rfl
    · rw [if_neg hlt]
      by_cases hk : k = i
      · subst hk
        rw [if_pos rfl] at ha ⊢
        cases ha
        rw [List.find?_cons] at h ⊢
        rw [hq]
        cases hm : q (k, a)
        · rw [hm] at h
          exact h
        · rfl
      · rw [if_neg hk, List.find?_cons]
        rw [if_neg (Ne.symm hk)] at ha
        rw [List.find?_cons] at h
        cases hm : q (i, d)
        · rw [hm] at h
          exact ih h ha
        · rw [hm] at h
          exact absurd (Option.some.inj h).symm hk

/-- The part with a candidate record found lost, at level QUIET with the capture record empty. -/
def State.slotLost (s : State) (k : Nat) : State := { s with
  rsu := { s.rsu with slots := s.rsu.slots.modify k fun y => { y with suspect := true } }
  fcu := { s.fcu with capture := some ⟨.table, .candidate, some k, .uncorrectable, s.htb.time⟩ }
  upsets := [] }

section
variable (hn : s.slotOf number = some k) (hx : s.slot? k = some x) (hs : x.suspect = false)
include hn hx

theorem slotOf_slotLost : (s.slotLost k).slotOf number = some k := by
  rw [State.slotOf, State.slotLost]
  dsimp only
  rw [Table.modify_eq_put hx]
  exact Table.find_put_first hn hx rfl

theorem slotLost_fails : (s.slotLost k).SittingFails number ⟨.notSitting, some number, none, true⟩ :=
  .inr ⟨k, { x with suspect := true }, slotOf_slotLost hn hx,
    (Table.find_modify_self ..).trans (congrArg _ hx), .inl ⟨rfl, rfl⟩⟩

variable (hu : s.upsets = [⟨.candidate k, w, true⟩]) (hl : s.fcu.level = .quiet) (hcap : s.fcu.capture = none)
include hs hu hl hcap

theorem readNumber_lost : readNumber number s = s.slotLost k := by
  have unsuspect : s.suspectOf (.candidate k) = some false := by rw [State.suspectOf, hx, Option.map_some, hs]
  rw [readNumber, hn]
  dsimp only
  rw [readSlot, readRecord_lost unsuspect hu, takeFault_quiet (s := markSuspect (.candidate k) { s with upsets := [] }) hl]
  exact congrArg (fun u : Fcu => { s.slotLost k with fcu := u }) (Fcu.captured_empty hcap _)

theorem finishStages_lost (hd : decodedNumber outcomes = some number)
    (hg : g = .taken ∨ ∃ n, g = .snapshot n ∧ n.found.number = number) :
    finishStages serial form outcomes g s = (s.slotLost k, .failed ⟨.notSitting, some number, none, true⟩) := by
  have read : readDecoded outcomes s = s.slotLost k := by
    rw [readDecoded, hd]
    exact readNumber_lost hn hx hs hu hl hcap
  have fails := slotLost_fails hn hx
  rcases hg with rfl | ⟨n, rfl, rfl⟩
  · have decode : decodeStage form outcomes s = (s.slotLost k, .error ⟨.notSitting, some number, none, true⟩) := by
      rw [decodeStage, read, identityOf_fails (.inr ⟨number, hd, .inl fails⟩)]
    rw [finishStages, reachSnapshot, decode]
  · rw [finishStages, reachSnapshot]
    dsimp only
    rw [read, judge_fails fails]

end

/-! ### O46 -/

theorem markedOf_eq (n : Snapshot) : s.markedOf serial form outcomes n r = ⟨serial, form, n.found.version, n.generation,
    outcomes, scoreOf r n.key outcomes, n.generation != (s.keyOf n.found.paper n.found.version).generation, false⟩ := rfl

/-- Settles O46: the work an IDLE marker takes is the first of its three lists (R152); a sheet's operation ends alike from
each of its stages, and what it ends in is the state its end leaves, behind the read of its candidate. -/
theorem markerTakesAndEndsASheet : Obligations.MarkerTakesAndEndsASheet := by
  unfold Obligations.MarkerTakesAndEndsASheet
  refine ⟨⟨?taken, ?busy, ?unreadable, ?stages, ?scored⟩, ?work, ?lost, ?fails⟩
  case taken =>
    intro s b passed rest hq hm ho hp hb hr
    rw [exec_markerTakesWork hq, markerTakesWork_idle hm, takeWork_sheet ho hp hb hr]
  case busy =>
    intro s hq hm
    rw [exec_markerTakesWork hq, markerTakesWork_busy hm, advanceMarker_zero]
  case unreadable =>
    intro s b serial form reach rows set hq hm hb hd hreach
    rw [exec_markerTakesWork hq, exec_sheetOperationEnd hq,
      markerTakesWork_failed hm hb rfl (decodeStage_unreadable hd) hreach]
  case stages =>
    intro s b serial form k p v number rows set x r hq hc hm hb hd hn hx hs hst hres hp hr hf hv at_ reached
    refine ⟨fun hkey => ?_, fun key hkey => ?_⟩
    · rw [exec_markerTakesWork hq, exec_sheetOperationEnd hq,
        markerTakesWork_noKey hc hd hn hx hs hst hres hp hr hf hv hb hm hkey]
    · have decode := decodeStage_found hc (identityOf_key hd hn hx hs hst hres hp hr hf hv hkey)
      have ends {g g' : Progress} := sheetEnds_sheetAt (b := b) (rows := rows) (set := set) (g := g) (g' := g')
        hc hd hn hx hs hst hres hp hr hf hv hkey hb
      have self := sheetAt_self hm
      refine ⟨?_, ?_, ?_, ?_, ?_⟩
      · rw [exec_markerTakesWork hq, markerTakesWork_decoded hm hb rfl decode]
        rfl
      · rw [exec_markerTakesWork hq, markerTakesWork_snapshot hm hb
          (reachSnapshot_taken hc hd hn hx hs hst hres hp hr hf hv hkey)]
        rfl
      · rw [exec_markerTakesWork (s := at_ _) hq, markerTakesWork_snapshot (s := at_ (.decoded ⟨p, v, number⟩))
          (g := .decoded ⟨p, v, number⟩) (n := ⟨⟨p, v, number⟩, key, (s.keyOf p v).generation⟩) rfl hb]
        · rfl
        · rw [reachSnapshot, snapshotOf_some (s := at_ (.decoded ⟨p, v, number⟩)) (d := ⟨p, v, number⟩) hkey]
          rfl
      · rw [exec_sheetOperationEnd hq, exec_sheetOperationEnd (s := at_ _) hq]
        exact congrArg Host.Outcome.next ((congrArg sheetEnds self.symm).trans (ends (.inl rfl) (.inr (.inr rfl))))
      · rw [exec_sheetOperationEnd (s := at_ _) hq, exec_sheetOperationEnd (s := at_ _) hq]
        exact congrArg Host.Outcome.next (ends (.inr (.inl rfl)) (.inr (.inr rfl)))
  case scored =>
    intro s b serial form k p v number gen rows set key x r hq hc hm hb hn hx hs hst hres hr hroom score stale
    rw [exec_sheetOperationEnd hq, sheetEnds_scored hm hb hc hn hx hs hst hres hr hroom]
    rfl
  case work =>
    intro s hq hm hw
    refine ⟨fun e he => ?_, ?_⟩
    · rw [exec_markerTakesWork hq, markerTakesWork_idle hm, takeWork_retry hw he]
    · intro hqueued sorted next steps
      have takes : exec (.markerTakesWork 0) s = .next (takeRescore s) := by
        rw [exec_markerTakesWork hq, markerTakesWork_idle hm, takeWork_rescore hw hqueued]
      rw [takes]
      refine ⟨?_, ?_, ?_, ?_, ?_, ?_⟩
      · intro h hp
        rw [takeRescore_idle h hp]
      · intro p rest k r h hp hn
        exact congrArg Host.Outcome.next (takeRescore_pending h hp hn sorted)
      · intro q k r h hn
        exact congrArg Host.Outcome.next (takeRescore_running h hn sorted)
      · intro p rest h hp hn
        exact congrArg Host.Outcome.next (takeRescore_pending_ends h hp hn)
      · intro q h hn ha
        exact ⟨fun k r hf => congrArg Host.Outcome.next (takeRescore_again h hn ha hf sorted),
          fun hf => congrArg Host.Outcome.next (takeRescore_ends h hn (.inr hf))⟩
      · intro q h hn ha
        exact congrArg Host.Outcome.next (takeRescore_ends h hn (.inl ha))
  case lost =>
    intro s b serial form number k w rows set g x hq hu hm hb hd hn hx hs hg hl hcap hlen free hroom
    rw [exec_sheetOperationEnd hq, sheetEnds_eq hm hb (finishStages_lost hn hx hs hu hl hcap hd hg),
      endOperation_excepted (s := s.slotLost k) (n := s.mru.counter) hroom hlen (freeNumber_counter free)]
    rfl
  case fails =>
    intro s b serial form rows set g f hq hc hm hb hf hroom ends
    have ended := sheetEnds_eq hm hb (finishStages_fails (serial := serial) hc hf)
    rw [exec_sheetOperationEnd hq, ended]
    refine ⟨?_, ?_, ?_⟩
    · intro hlen free
      rw [endOperation_excepted hroom hlen (freeNumber_counter free)]
      rfl
    · intro i hlen hcount hi n free before
      rw [endOperation_excepted hroom hlen (freeNumber_behind hlen hcount hi free before)]
      rfl
    · intro hlen
      rw [endOperation_held hroom hlen hb]
      rfl

end Sys2Proof.Machine

/-! PROOFS. How a retry ends, and what a rescore step leaves of its pass (O47). -/

namespace Sys2Proof.Machine

set_option Elab.async false

variable {s u : State} {number k p v gen n : Nat} {outcomes : List RowOutcome} {x : Slot} {r old : ResultRecord}
  {paper : Paper} {e : SheetException} {f : Failure} {g : Progress} {key : List KeyEntry} {set : Settings} {q : Pass}

/-! ### Retries (R163) -/

section
variable (hm : s.mru.marker = some ⟨.retry e.number g, set⟩) (he : s.exception? e.number = some e)
include hm he

theorem retryEnds_eq {o : Marked} (h : finishStages e.serial e.form e.outcomes g s = (s, o)) :
    retryEnds s = markerIdle (endRetry e o s) := by
  rw [retryEnds, hm]
  dsimp only
  rw [finishOperation, State.subject]
  dsimp only
  rw [he]
  dsimp only [Option.map_some]
  rw [show (MarkWork.retry e.number g).progress = g from rfl, h]
  dsimp only
  unfold endOperation
  dsimp only
  rw [he]

variable (hc : s.clean = true) (hroom : s.sli.notices.length + s.fcu.held.length < 64)
include hc hroom

theorem retryEnds_scored {w : ResultRecord} (h : finishStages e.serial e.form e.outcomes g s = (s, .scored k p number w)) :
    retryEnds s = { s with
      mru := { s.mru.afterWrite p w.stale with
        marker := none, results := s.mru.results.put k w
        exceptions := s.mru.exceptions.filter (fun y => y.number != e.number)
        buffer0 := { s.mru.buffer0 with held := false }, buffer1 := { s.mru.buffer1 with held := false } }
      sli := { s.sli with notices := s.sli.notices ++ [⟨.exceptionResolved, s.htb.time,
        [u16 e.number, u16 e.serial, u16 k, o16 w.score.percent]⟩] ++ s.heldNotices }
      fcu := { s.fcu with held := [] } } := by
  rw [retryEnds_eq hm he h, endRetry]
  dsimp only
  rw [storeResult_eq hc, markerIdle_notify]
  · rfl
  · exact hroom

theorem retryEnds_failed (h : s.OperationFails e.form e.outcomes g f) : retryEnds s = { s with
    mru := { s.mru with marker := none, exceptions := s.mru.exceptions.map fun y => if y.number = e.number then
        { y with reason := f.reason, decNumber := f.number, decVersion := f.version } else y }
    sli := { s.sli with notices := s.sli.notices ++ (if f.reason = e.reason then [] else
      [⟨.sheetException, s.htb.time, [u16 e.number, u16 e.serial, u8 e.form, u8 f.reason.ctorIdx, ⟨4, f.number⟩,
        flag f.suspect]⟩]) ++ s.heldNotices }
    fcu := { s.fcu with held := [] } } := by
  have changed : modException e.number
      (fun y => { y with reason := f.reason, decNumber := f.number, decVersion := f.version }) s =
      { s with mru := { s.mru with exceptions := s.mru.exceptions.map fun y => if y.number = e.number then
        { y with reason := f.reason, decNumber := f.number, decVersion := f.version } else y } } := by
    simp only [modException, beq_iff_eq]
  rw [retryEnds_eq hm he (finishStages_fails hc h), endRetry]
  dsimp only
  rw [changed]
  by_cases hr : f.reason = e.reason
  · rw [if_neg (by simp [hr]), if_pos hr, List.append_nil, markerIdle_room]
    · rfl
    · exact Nat.le_of_lt hroom
  · rw [if_pos (by simp [hr]), if_neg hr, exceptionNotice, markerIdle_notify]
    · rfl
    · exact hroom

end

/-! ### A rescore step's pass goes on (R162) -/

/-- The part with the results, the exception list and the pass a rescore step leaves, and its notices. -/
def State.stepped (s : State) (results : Table ResultRecord) (exceptions : List SheetException) (q : Pass)
    (said : List Notice) : State :=
  State.told { s with mru := { s.mru with results := results, exceptions := exceptions, pass := some q } } said

/-- The same once the marker is IDLE, the pass as it goes on, with what that adds to the notices. -/
def State.stepDone (s : State) (results : Table ResultRecord) (exceptions : List SheetException) (pass : Option Pass)
    (said more : List Notice) : State := { s with
  mru := { s.mru with marker := none, results := results, exceptions := exceptions, pass := pass }
  sli := { s.sli with notices := s.sli.notices ++ said ++ more ++ s.heldNotices }
  fcu := { s.fcu with held := [] } }

/-- Some result a pass over this paper is to take, at a slot of this kind. -/
def State.rescoreDue (s : State) (results : Table ResultRecord) (p : Nat) (test : Nat → Bool) : Bool :=
  List.any results fun e => test e.1 && (e.2.stale || e.2.suspect)
    && ((s.slot? e.1).map (·.shadow.paper)) == some (some p)

section
variable {results : Table ResultRecord} {exceptions : List SheetException} {said : List Notice}

theorem rescoreDue_iff (last : Option Nat) : s.rescoreDue results p (fun k => last.all (· < k)) =
    (List.find? (s.rescores p last) results).isSome := by
  rw [Bool.eq_iff_iff, State.rescoreDue, List.any_eq_true, List.find?_isSome]
  refine exists_congr fun e => and_congr_right fun _ => ?_
  simp only [State.rescores, Bool.and_eq_true]
  tauto

theorem step_next (hl : q.last = some k) (h : s.rescoreDue results q.paper (k < ·) = true)
    (hroom : s.sli.notices.length + said.length + s.fcu.held.length ≤ 64) :
    markerIdle (passOn (s.stepped results exceptions q said)) = s.stepDone results exceptions (some q) said [] := by
  have more : (List.find? ((s.stepped results exceptions q said).rescores q.paper q.last) results).isSome = true := by
    rw [hl]
    exact (rescoreDue_iff (s := s) (some k)).symm.trans h
  rw [passOn_next (s := s.stepped results exceptions q said) (q := q) rfl more,
    markerIdle_room (s := s.stepped results exceptions q said) (by simpa [State.stepped, State.told] using hroom),
    State.stepDone, List.append_nil]
  rfl

variable (hl : q.last = some k) (h : s.rescoreDue results q.paper (k < ·) = false)
include hl h

theorem step_noNext : List.find? ((s.stepped results exceptions q said).rescores q.paper q.last) results = none := by
  rw [← Option.not_isSome_iff_eq_none, hl]
  exact Bool.eq_false_iff.mp ((rescoreDue_iff (s := s) (some k)).symm.trans h)

theorem step_again (ha : q.again = true) (hd : s.rescoreDue results q.paper (fun _ => true) = true)
    (hroom : s.sli.notices.length + said.length + s.fcu.held.length ≤ 64) :
    markerIdle (passOn (s.stepped results exceptions q said)) =
      s.stepDone results exceptions (some { q with last := none, again := false }) said [] := by
  rw [passOn_again (s := s.stepped results exceptions q said) (q := q) rfl (step_noNext hl h) ha
    ((rescoreDue_iff (s := s) none).symm.trans hd),
    markerIdle_room]
  · rw [State.stepDone, List.append_nil]
    rfl
  · simpa [State.stepped, State.told] using hroom

theorem step_ends (ha : (q.again && s.rescoreDue results q.paper (fun _ => true)) = false)
    (hroom : s.sli.notices.length + said.length + s.fcu.held.length < 64) :
    markerIdle (passOn (s.stepped results exceptions q said)) = s.stepDone results exceptions none said
      [⟨.rescored, s.htb.time, [u8 q.paper, u16 q.rescored, u16 q.removed]⟩] := by
  have none : q.again = false ∨
      List.find? ((s.stepped results exceptions q said).rescores q.paper none) results = none := by
    rw [← Option.not_isSome_iff_eq_none, Bool.not_eq_true, ← Bool.and_eq_false_iff]
    exact (congrArg (q.again && ·) (rescoreDue_iff (s := s) none).symm).trans ha
  rw [passOn_ends (s := s.stepped results exceptions q said) (q := q) rfl (step_noNext hl h) none,
    markerIdle_notify]
  · rfl
  · simpa [State.stepped, State.told] using hroom

end

end Sys2Proof.Machine

/-! PROOFS. What a rescore step does to its record, and the statement on retries and rescore steps (O47). -/

namespace Sys2Proof.Machine

set_option Elab.async false

variable {s t : State} {k p gen w : Nat} {x : Slot} {r old : ResultRecord} {paper : Paper} {l : List KeyEntry}
  {key : Option (List KeyEntry)} {set : Settings} {q : Pass}

/-! ### The record of a step (R160 to R162) -/

/-- A pass that stands at this slot, with these marks and counts. -/
def Pass.at_ (q : Pass) (k : Nat) (again : Bool) (rescored removed : Nat) : Pass :=
  ⟨q.paper, some k, again, rescored, removed⟩

/-- The part before its pass goes on, with nothing written. -/
def State.stepKept (s : State) (k : Nat) (q : Pass) (again : Bool) : State :=
  s.stepped s.mru.results s.mru.exceptions (q.at_ k again q.rescored q.removed) []

section
variable (hp : s.mru.pass = some q)
include hp

theorem modPass_kept : modPass (fun q => { q with last := some k }) s = s.stepKept k q q.again := by
  rw [State.stepKept, State.stepped, told_nil, modPass, hp]
  rfl

theorem modPass_repeated :
    modPass (fun q => { q with last := some k }) (modPass Pass.repeated s) = s.stepKept k q true := by
  rw [State.stepKept, State.stepped, told_nil, modPass, modPass, hp]
  rfl

variable (hm : s.mru.marker = some ⟨.rescore k old key gen, set⟩)
include hm

theorem rescoreEnds_suspect (ho : old.suspect = true) : rescoreEnds s = markerIdle (passOn (modPass
    (fun q => { q with last := some k })
      (if (s.mru.results.find k).map (·.suspect) == some true then removeSuspect k s else s))) := by
  rw [rescoreEnds, hm, hp]
  dsimp only
  rw [if_pos ho]

theorem rescoreEnds_record (ho : old.suspect = false) : rescoreEnds s = markerIdle (passOn (modPass
    (fun q => { q with last := some k }) (rescoreRecord k q.paper old key gen s))) := by
  rw [rescoreEnds, hm, hp]
  dsimp only
  rw [ho, if_neg Bool.false_ne_true]

end

section
variable (hc : s.clean = true)
include hc

theorem modPass_removed (hp : s.mru.pass = some q) (hroom : s.sli.notices.length < 64) :
    let number := (s.slot? k).bind (·.shadow.number)
    modPass (fun q => { q with last := some k }) (removeSuspect k s) = s.stepped (s.mru.results.drop k)
      (s.mru.exceptions.map fun e => if e.reason = .duplicate ∧ e.decNumber = number then { e with queued := true } else e)
      (q.at_ k q.again q.rescored (q.removed + 1)) [⟨.resultDropped, s.htb.time, [u16 k, ⟨4, number⟩]⟩] := by
  intro number
  have drop : dropResult k s = { s with mru := { s.mru with results := s.mru.results.drop k } } :=
    mendRecord_clean (s := { s with mru := { s.mru with results := s.mru.results.drop k } }) hc _
  rw [removeSuspect, drop, notify_told (by exact hroom)]
  simp only [modPass, queueRetries, State.stepped, State.told, hp, Option.map_some, Bool.and_eq_true, beq_iff_eq]
  rfl

theorem rescoreRecord_none (h : s.mru.results.find k = none) : rescoreRecord k p old key gen s = s := by
  rw [rescoreRecord, readResult_clean hc]
  dsimp only
  rw [h]

variable (h : s.mru.results.find k = some r)
include h

/-- A record that became suspect, while it is the one the step took. -/
theorem rescoreRecord_suspect (hs : r.suspect = true) (same : r.same old = true) :
    rescoreRecord k p old key gen s = modPass Pass.repeated s := by
  rw [rescoreRecord, readResult_clean hc]
  dsimp only
  rw [h]
  dsimp only
  rw [if_pos hs, if_pos (by rw [same]; rfl)]

/-- A record that was replaced, suspect or not. -/
theorem rescoreRecord_replaced (same : r.same old = false) : rescoreRecord k p old key gen s = s := by
  have before : (s.suspectOf (.result k) == some false) = !r.suspect := by
    rw [State.suspectOf, h, Option.map_some]
    cases r.suspect <;> rfl
  rw [rescoreRecord, readResult_clean hc]
  dsimp only
  rw [h, before]
  dsimp only
  rw [same]
  cases r.suspect <;> rfl

variable (hs : r.suspect = false) (same : r.same old = true)
include hs same

theorem rescoreRecord_noKey : rescoreRecord k p old none gen s = s := by
  rw [rescoreRecord, readResult_clean hc]
  dsimp only
  rw [h]
  dsimp only
  rw [hs, same]
  rfl

/-- The step's record written anew. -/
def ResultRecord.rescored (r : ResultRecord) (gen : Nat) (paper : Paper) (l : List KeyEntry) (stale : Bool) : ResultRecord :=
  { r with generation := gen, score := scoreOf paper l r.outcomes, stale := stale }

theorem modPass_written (hp : s.mru.pass = some q) (hr : s.paper? q.paper = some paper) :
    let stale := gen != (s.keyOf q.paper r.version).generation
    modPass (fun q => { q with last := some k }) (rescoreRecord k q.paper old (some l) gen s) =
      s.stepped (s.mru.results.put k (r.rescored gen paper l stale)) s.mru.exceptions
        (q.at_ k (q.again || stale) (q.rescored + 1) q.removed) [] := by
  intro stale
  have written : rescoreRecord k q.paper old (some l) gen s =
      let t := modPass (fun q => { q with rescored := q.rescored + 1 })
        { s with mru := { s.mru with results := s.mru.results.put k (r.rescored gen paper l stale) } }
      if stale then rescoreLater q.paper t else t := by
    rw [rescoreRecord, readResult_clean hc]
    dsimp only
    rw [h]
    dsimp only
    rw [if_neg (by simp [hs]), if_neg (by simp [same]), hr]
    rfl
  rw [written, State.stepped, told_nil]
  cases hst : stale with
  | false =>
    rw [Bool.or_false, modPass]
    dsimp only
    rw [if_neg Bool.false_ne_true, modPass, hp]
    rfl
  | true =>
    have later (t : State) (q' : Pass) (h : t.mru.pass = some q') (hq : q'.paper = q.paper) :
        rescoreLater q.paper t = { t with mru := { t.mru with pass := some { q' with again := true } } } := by
      rw [rescoreLater, h]
      exact if_pos (by simp [hq])
    rw [Bool.or_true]
    dsimp only
    rw [if_pos rfl, later _ { q with rescored := q.rescored + 1 } (by rw [modPass, hp]; rfl) rfl]
    rfl

end

/-! ### The step's own read fails (R177) -/

/-- The part with a result record found lost, at level QUIET with the capture record empty. -/
def State.resultLost (s : State) (k : Nat) : State := { s with
  mru := { s.mru with results := s.mru.results.modify k fun y => { y with suspect := true } }
  fcu := { s.fcu with capture := some ⟨.table, .result, some k, .uncorrectable, s.htb.time⟩ }
  upsets := [] }

section
variable (hu : s.upsets = [⟨.result k, w, true⟩]) (h : s.mru.results.find k = some r) (hs : r.suspect = false)
  (hl : s.fcu.level = .quiet) (hcap : s.fcu.capture = none)
include hu h hs hl hcap

theorem rescoreRecord_lost : rescoreRecord k p old key gen s = modPass Pass.repeated (s.resultLost k) := by
  have unsuspect : s.suspectOf (.result k) = some false := by rw [State.suspectOf, h, Option.map_some, hs]
  have read : readResult k s = s.resultLost k := by
    rw [readResult, readRecord_lost unsuspect hu, takeFault_quiet (s := markSuspect (.result k) { s with upsets := [] }) hl]
    exact congrArg (fun u : Fcu => { s.resultLost k with fcu := u }) (Fcu.captured_empty hcap _)
  have found : (s.resultLost k).mru.results.find k = some { r with suspect := true } :=
    (Table.find_modify_self ..).trans (congrArg _ h)
  rw [rescoreRecord, unsuspect, read]
  dsimp only
  rw [found]
  dsimp only
  rw [if_pos rfl, if_pos (by simp)]

end

theorem Table.mem_of_find {α : Type} {l : Table α} {k : Nat} {a : α} (h : l.find k = some a) : (k, a) ∈ l := by
  induction l with
  | nil => cases h
  | cons e l ih =>
    obtain ⟨i, d⟩ := e
    rw [Table.find] at h
    by_cases hk : i = k
    · rw [if_pos hk] at h
      cases h
      exact hk ▸ List.mem_cons_self ..
    · rw [if_neg hk] at h
      exact List.mem_cons_of_mem _ (ih h)

/-! ### O47 -/

section
variable {results : Table ResultRecord} {exceptions : List SheetException} {said : List Notice} {again : Bool}
  {rescored removed : Nat}

/-- A step ends with its pass at its slot, at the lowest again, or ended with RESCORED (R162). -/
theorem exec_rescoreStepEnd_stepped (hq : s.calm = true)
    (h : rescoreEnds s = markerIdle (passOn (s.stepped results exceptions (q.at_ k again rescored removed) said)))
    (hroom : s.sli.notices.length + said.length + s.fcu.held.length < 64) : exec .rescoreStepEnd s =
      if s.rescoreDue results q.paper (k < ·) then
        .next (s.stepDone results exceptions (some ⟨q.paper, some k, again, rescored, removed⟩) said [])
      else if again && s.rescoreDue results q.paper (fun _ => true) then
        .next (s.stepDone results exceptions (some ⟨q.paper, none, false, rescored, removed⟩) said [])
      else .next (s.stepDone results exceptions none said
        [⟨.rescored, s.htb.time, [u8 q.paper, u16 rescored, u16 removed]⟩]) := by
  rw [exec_rescoreStepEnd hq, h]
  by_cases hn : s.rescoreDue results q.paper (k < ·) = true
  · rw [if_pos hn, step_next (q := q.at_ k again rescored removed) rfl hn (Nat.le_of_lt hroom)]
    rfl
  · rw [if_neg hn]
    have hn := Bool.eq_false_iff.mpr hn
    by_cases ha : (again && s.rescoreDue results q.paper (fun _ => true)) = true
    · obtain ⟨ha, hd⟩ := Bool.and_eq_true_iff.mp ha
      rw [if_pos (by rw [ha, hd]; rfl), step_again (q := q.at_ k again rescored removed) rfl hn ha hd (Nat.le_of_lt hroom)]
      rfl
    · rw [if_neg ha, step_ends (q := q.at_ k again rescored removed) rfl hn (Bool.eq_false_iff.mpr ha) hroom]
      rfl

end

theorem same_iff : r.same old = true ↔ { r with stale := old.stale, suspect := old.suspect } = old := by
  rw [ResultRecord.same, beq_iff_eq]

/-- Settles O47: a retry ends as a sheet does, on its entry; a rescore step leaves its pass at its slot, behind what it did to
the slot's record, and the pass then goes on, starts again or ends. -/
theorem retryAndRescoreStepsEnd : Obligations.RetryAndRescoreStepsEnd := by
  unfold Obligations.RetryAndRescoreStepsEnd
  refine ⟨⟨⟨?idle, ?scored, ?only⟩, ?fails, ?steps⟩, ?lost⟩
  case idle =>
    intro s hq hm
    rw [exec_retryEnd hq, exec_rescoreStepEnd hq, exec_sheetOperationEnd hq, retryEnds, rescoreEnds, sheetEnds, hm]
    exact ⟨rfl, rfl, rfl⟩
  case scored =>
    intro s e k p v number gen set key x r hq hc hm he hn hx hs hst hres hr hroom score stale
    have ended : finishStages e.serial e.form e.outcomes (.snapshot ⟨⟨p, v, number⟩, key, gen⟩) s = (s, .scored k p number
        (s.markedOf e.serial e.form e.outcomes ⟨⟨p, v, number⟩, key, gen⟩ r)) := by
      rw [finishStages_snapshot hc, judge_scored (n := ⟨⟨p, v, number⟩, key, gen⟩) hn hx hs hst hres hr]
    rw [exec_retryEnd hq, retryEnds_scored hm he hc hroom ended]
    rfl
  case only =>
    intro s k p gen old key set n m l paper hq hc hm hp hres ho hr hgen hheld hroom
    have find : s.mru.results.find k = some old := by rw [hres]; exact if_pos rfl
    have fresh : (gen != (s.keyOf p old.version).generation) = false := by simp [hgen]
    have step := modPass_written (gen := gen) (l := key) hc find ho (same_iff (old := old).mpr rfl) hp hr
    dsimp only at step
    have one (w : ResultRecord) : Table.put [(k, old)] k w = [(k, w)] := by simp [Table.put]
    rw [fresh, hres, one] at step
    rw [exec_rescoreStepEnd hq, rescoreEnds_record hp hm ho, step,
      step_ends (q := (⟨p, l, false, n, m⟩ : Pass).at_ k (false || false) (n + 1) m) rfl (by simp [State.rescoreDue]) rfl
        (by rw [hheld]; exact hroom), State.stepDone, State.heldNotices, hheld, List.append_nil, List.map_nil, List.append_nil]
    simp only [ResultRecord.rescored, Pass.at_, ← hheld]
  case fails =>
    intro s e set g f hq hc hm he hf hroom
    rw [exec_retryEnd hq, retryEnds_failed hm he hc hroom hf]
  case steps =>
    intro s k old key gen set q hq hc hm hp hroom after kept
    have keeps (h : rescoreEnds s = markerIdle (passOn (s.stepKept k q q.again))) : exec .rescoreStepEnd s = kept q.again :=
      exec_rescoreStepEnd_stepped hq h (by simp only [List.length_nil]; omega)
    refine ⟨fun hf => ?_, fun r hf => ⟨fun ho => ⟨fun hs => ?_, fun hs => ?_⟩, fun ho => ⟨fun hne => ?_, fun heq =>
      ⟨fun hs => ?_, fun hs => ⟨fun hkey => ?_, ?_⟩⟩⟩⟩⟩
    · refine keeps ?_
      cases ho : old.suspect with
      | true => rw [rescoreEnds_suspect hp hm ho, hf, ← modPass_kept hp]; rfl
      | false => rw [rescoreEnds_record hp hm ho, rescoreRecord_none hc hf, modPass_kept hp]
    · refine keeps ?_
      rw [rescoreEnds_suspect hp hm ho, hf, Option.map_some, hs, ← modPass_kept hp]
      rfl
    · intro number
      refine exec_rescoreStepEnd_stepped hq ?_ (by simp only [List.length_singleton]; omega)
      rw [rescoreEnds_suspect hp hm ho, hf, Option.map_some, hs, if_pos (beq_self_eq_true _), modPass_removed hc hp (by omega)]
    · refine keeps ?_
      rw [rescoreEnds_record hp hm ho, rescoreRecord_replaced hc hf (Bool.eq_false_iff.mpr (same_iff.not.mpr hne)),
        modPass_kept hp]
    · refine exec_rescoreStepEnd_stepped hq ?_ (by simp only [List.length_nil]; omega)
      rw [rescoreEnds_record hp hm ho, rescoreRecord_suspect hc hf hs (same_iff.mpr heq), modPass_repeated hp]
      rfl
    · refine keeps ?_
      rw [rescoreEnds_record hp hm ho, hkey, rescoreRecord_noKey hc hf hs (same_iff.mpr heq), modPass_kept hp]
    · intro l paper hkey hr stale
      refine exec_rescoreStepEnd_stepped hq ?_ (by simp only [List.length_nil]; omega)
      rw [rescoreEnds_record hp hm ho, hkey, modPass_written hc hf hs (same_iff.mpr heq) hp hr]
      rfl
  case lost =>
    intro s k w old r key gen set q x hq hu hm hp hf hs ho hx hpaper hl hcap hroom results later
    have step : rescoreEnds s = markerIdle (passOn ((s.resultLost k).stepped results s.mru.exceptions
        (q.at_ k true q.rescored q.removed) [])) := by
      rw [rescoreEnds_record hp hm ho, rescoreRecord_lost hu hf hs hl hcap, modPass_repeated (s := s.resultLost k) hp]
      rfl
    rw [exec_rescoreStepEnd hq, step]
    cases hlater : later with
    | true =>
      rw [step_next (s := s.resultLost k) (said := []) (q := q.at_ k true q.rescored q.removed) rfl hlater hroom, State.stepDone,
        List.append_nil, List.append_nil]
      rfl
    | false =>
      have find : results.find k = some { r with suspect := true } := (Table.find_modify_self ..).trans (congrArg _ hf)
      have due : (s.resultLost k).rescoreDue results q.paper (fun _ => true) = true := by
        refine List.any_eq_true.mpr ⟨_, Table.mem_of_find find, ?_⟩
        have slot : (s.resultLost k).slot? k = some x := hx
        rw [slot, Option.map_some, hpaper]
        simp
      rw [step_again (s := s.resultLost k) (said := []) (q := q.at_ k true q.rescored q.removed) rfl hlater rfl due hroom,
        State.stepDone, List.append_nil, List.append_nil]
      rfl

end Sys2Proof.Machine
